-- ==== Sys2Proof/Word.lean ====
section
/-! DEFINITION. The octet and word types of the ZT-412 model, and the four-fold record that holds one value
per carrier. -/

namespace Sys2Proof

/-- One octet of a frame, a slot or a record (R190). -/
abbrev Byte := BitVec 8

/-- A sixteen-bit number: a digest or a CRC-16 (Introduction, Check codes). -/
abbrev Word16 := BitVec 16

/-- A superframe number, which wraps from 4294967295 to 0 (R1). -/
abbrev Word32 := BitVec 32

/-- A carrier number 0..3 (Introduction, Conventions). -/
abbrev Carrier := Fin 4

/-- One value for each of the four carriers. -/
structure Four (α : Type) where
  c0 : α
  c1 : α
  c2 : α
  c3 : α
  deriving DecidableEq, Repr

/-- The value of one carrier. -/
def Four.get {α : Type} (v : Four α) (c : Carrier) : α :=
  match c with
  | 0 => v.c0
  | 1 => v.c1
  | 2 => v.c2
  | 3 => v.c3

/-- The record with one carrier's value replaced. -/
def Four.set {α : Type} (v : Four α) (c : Carrier) (x : α) : Four α :=
  match c with
  | 0 => { v with c0 := x }
  | 1 => { v with c1 := x }
  | 2 => { v with c2 := x }
  | 3 => { v with c3 := x }

/-- The same value for every carrier. -/
def Four.same {α : Type} (x : α) : Four α := ⟨x, x, x, x⟩

/-- The record with every carrier's value changed alike. -/
def Four.map {α β : Type} (v : Four α) (f : α → β) : Four β := ⟨f v.c0, f v.c1, f v.c2, f v.c3⟩

/-- The carriers in increasing order. -/
def allCarriers : List Carrier := [0, 1, 2, 3]

end Sys2Proof
end

