-- ==== Sys2Proof/Syntax.lean ====
section
/-! DEFINITION. The commands of the ZT-412: one constructor per row of spec/opcode_table.json, with the
operands the row's event brings from outside the part. -/

namespace Sys2Proof

/-- One octet received on RXD: its eight data bits, and whether its stop bit was received low (R173). -/
structure RxOctet where
  value : Byte
  lineError : Bool
  deriving DecidableEq, Repr

/-- The commands and events of the part.  A carrier operand of type `Carrier` names a context of the part
itself; a `carrier : Byte` operand is octet 1 of an inbound record, which the Modem Link Interface checks (R7). -/
inductive Instr where
  | powerOnReset
  | lineReset
  | resetRelease
  | restartTakesEffect
  /-- A strobe on SFS; `elapsed` is the time in µs since the clock last moved. -/
  | sfsStrobe (elapsed : Nat)
  | supervisionExpiry
  | internalBoundary
  | branchLoss (c : Carrier)
  | backoffExpiry (c : Carrier)
  | orderDeadline (c : Carrier)
  | armTx (c : Carrier)
  | orderSwitch (c : Carrier)
  | applyEffect
  | quietEntry (c : Carrier)
  | lockLossHalt (c : Carrier)
  | silenceHalt (c : Carrier)
  | holdoffExpiry (c : Carrier)
  | seekTimeout (c : Carrier)
  | ackWaitExpiry
  /-- MSYNC marks a new record; `newOctets` are the octets of the new record received so far. -/
  | recordCutShort (newOctets : List Byte)
  /-- A whole inbound record of twenty octets. -/
  | inboundRecordDiscarded (record : List Byte)
  /-- The octets 1 to 8 of a FRAME_REPORT record. -/
  | frameReport (carrier frameIndex flags snrA snrB rslA rslB : Byte)
  /-- Octet 1 and the sixteen slot octets of a SLOT_IN record. -/
  | slotIn (carrier : Byte) (octets : List Byte)
  /-- Octet 1 of a SLOT_REQUEST record. -/
  | slotRequest (carrier : Byte)
  | frameGapTimeout
  /-- Octets received on RXD. -/
  | badFrame (octets : List RxOctet)
  /-- Octets received on RXD. -/
  | requestFrame (octets : List RxOctet)
  | unknownKind
  | frameTransmit
  | identify
  | getStatus
  | getStats
  /-- Service of a SET_TIMEBASE request; `elapsed` is the time in µs since the clock last moved. -/
  | setTimebase (elapsed : Nat)
  | getCarrier
  | setCarrier
  | restartCarrier
  | enableProfiles
  | disableProfiles
  | writeProfiles
  | readProfiles
  | applyTable
  | pushTable
  | abortPush
  | setRemote
  | readFades
  | setNotices
  | saveSettings
  /-- The write of the settings image ends; `readBack` are the octets then read back from nonvolatile memory. -/
  | saveWriteEnd (readBack : List Byte)
  | restart
  deriving DecidableEq, Repr

end Sys2Proof
end

