-- ==== Sys2Proof/Decode.lean ====
section
/-! DEFINITION. The command a table word spells.  No row of spec/opcode_table.json gives bits: the part takes
its commands as octets on its links and as events on its pins, so no word spells one. -/

namespace Sys2Proof

/-- No row of the table has bits, so every word is refused. -/
def decodeTableWord (_nbits _w : Nat) : Option Instr := none

end Sys2Proof
end

