-- ==== Sys2Proof/Config.lean ====
section
/-! DEFINITION. What the manual leaves open and the model leaves free. -/

namespace Sys2Proof

/-- FREE VALUE (log entry 4).  Where the Carrier Supervisor's work for one carrier falls among the other blocks'
work of one boundary: R19, R63, R83, R87, R149 and R164 let it be taken before or after them.  It has no body, so
no proof can see which place is taken. -/
opaque Config.supervisorPlace : Nat → Nat

/-- FREE VALUE (log entry 46).  The order in which the carriers take their turns where wires of one kind change on
several of them together: R154 lets either be taken first.  It has no body, so no proof can see which order is taken. -/
opaque Config.wireOrder : Nat → Nat

end Sys2Proof
end

