-- ==== Sys2Proof/Machine/Crc.lean ====
section
/-! DEFINITION. The two check codes of the Introduction, most significant bit of each octet first. -/

namespace Sys2Proof.Machine

/-- One shift of the CRC-16 register, polynomial 0x1021. -/
def crc16Shift (r : Word16) : Word16 :=
  if r.msb then (r <<< 1) ^^^ 0x1021#16 else r <<< 1

/-- The CRC-16 register after one octet. -/
def crc16Octet (r : Word16) (b : Byte) : Word16 :=
  crc16Shift (crc16Shift (crc16Shift (crc16Shift (crc16Shift (crc16Shift (crc16Shift (crc16Shift
    (r ^^^ (b.setWidth 16 <<< 8)))))))))

/-- CRC-16: initial value 0xFFFF, no reflection, no final XOR. -/
def crc16 (octets : List Byte) : Word16 := octets.foldl crc16Octet 0xFFFF#16

/-- One shift of the CRC-8 register, polynomial 0x07. -/
def crc8Shift (r : Byte) : Byte :=
  if r.msb then (r <<< 1) ^^^ 0x07#8 else r <<< 1

/-- The CRC-8 register after one octet. -/
def crc8Octet (r b : Byte) : Byte :=
  crc8Shift (crc8Shift (crc8Shift (crc8Shift (crc8Shift (crc8Shift (crc8Shift (crc8Shift (r ^^^ b))))))))

/-- CRC-8: initial value 0x00, no reflection, no final XOR. -/
def crc8 (octets : List Byte) : Byte := octets.foldl crc8Octet 0x00#8

end Sys2Proof.Machine
end

