-- ==== Sys2Proof/Machine/State.lean ====
section
/-! DEFINITION. The state of the ZT-412: every register, counter, queue, flag and pin the spec gives it, and the
queue of waiting commands.  INVENTORY.md lists each with its rule. -/

namespace Sys2Proof.Machine

/-! ### Enumerations (R190) -/

inductive TimebaseState where
  | external
  | internal
  deriving DecidableEq, Repr

inductive LinkState where
  | disabled
  | halted
  | seeking
  | active
  | quiet
  deriving DecidableEq, Repr

inductive DiversityMode where
  | combine
  | select
  | branchA
  | branchB
  deriving DecidableEq, Repr

inductive Branch where
  | a
  | b
  deriving DecidableEq, Repr

inductive AdaptMode where
  | auto
  | fixed
  deriving DecidableEq, Repr

inductive OrderState where
  | steady
  | ordered
  | committed
  | backoff
  deriving DecidableEq, Repr

inductive Completeness where
  | complete
  | incomplete
  deriving DecidableEq, Repr

inductive Owner where
  | host
  | transfer
  deriving DecidableEq, Repr

inductive SenderState where
  | idle
  | sending
  | paused
  | awaitingResult
  | done
  | failed
  deriving DecidableEq, Repr

/-- The state a paused sender returns to (chapter 9, the sender's table). -/
inductive ResumePhase where
  | sending
  | awaitingResult
  deriving DecidableEq, Repr

inductive ReceiverState where
  | idle
  | receiving
  deriving DecidableEq, Repr

inductive EventKind where
  | push
  | receive
  | apply
  deriving DecidableEq, Repr

inductive AlarmKind where
  | fade
  | link
  | diversity
  | mismatch
  | timebase
  | store
  deriving DecidableEq, Repr

inductive EndedBy where
  | recovered
  | halted
  | disabled
  | reset
  deriving DecidableEq, Repr

inductive SaveState where
  | idle
  | writing
  | replying
  deriving DecidableEq, Repr

inductive FramerState where
  | hunt
  | length
  | header
  | body
  | check
  deriving DecidableEq, Repr

inductive LineRate where
  | r19200
  | r57600
  | r115200
  | r460800
  deriving DecidableEq, Repr

/-- The causes of HALTED entry (R137). -/
inductive HaltCause where
  | lockLoss
  | silence
  | seekingPeer
  | seekTimeout
  | restart
  | enable
  | partner
  | startUp
  deriving DecidableEq, Repr

/-! ### Records -/

/-- A profile entry; its index is its place in its table (R39, log entry 21). -/
structure Entry where
  modulation : Nat
  code : Nat
  thr : Nat
  hyst : Nat
  deriving DecidableEq, Repr

/-- The fields of a carrier configuration record that each carrier's own record holds (R126); the paired field
belongs to the position and stands in `State.pairedA` and `State.pairedB`. -/
structure CarrierRecord where
  enabled : Bool
  diversity : DiversityMode
  selHyst : Nat
  divLost : Nat
  releaseShift : Nat
  lead : Nat
  margin : Nat
  upHold : Nat
  upStep : Nat
  ceiling : Nat
  adapt : AdaptMode
  fixedProfile : Nat
  attenMin : Nat
  rslLo : Int
  rslHi : Int
  fadeLow : Nat
  fadeHigh : Nat
  w1 : Nat
  w2 : Nat
  kLock : Nat
  tHold : Nat
  tSeek : Nat
  deriving DecidableEq, Repr

/-- What a frame report says of one branch (R10). -/
structure BranchValue where
  present : Bool
  snr : Nat
  rsl : Int
  deriving DecidableEq, Repr

/-- The Quality Estimator of a carrier (chapter 2, Estimator state). -/
structure Estimator where
  selection : Branch
  absentA : Nat
  absentB : Nat
  branchLost : Bool
  minC : Option Nat
  minRsl : Option Int
  minA : Option Nat
  minB : Option Nat
  clipSeen : Bool
  f : Option Nat
  g : Option Int
  p : Option Nat
  rslMin : Option Int
  dynamicClip : Bool
  stickyClip : Bool
  lastA : BranchValue
  lastB : BranchValue
  selectDue : Bool
  deriving DecidableEq, Repr

/-- An order a RAC has accepted (chapter 4, The context record). -/
structure ArmedOrder where
  id : Nat
  target : Nat
  pair : Bool
  deriving DecidableEq, Repr

/-- The Receive Adaptation Context of a carrier (chapter 4, The context record). -/
structure Rac where
  current : Nat
  armed : Option ArmedOrder
  lastCancelled : Option Nat
  lastSwitched : Option Nat
  hold : Nat
  advice : Nat
  power : Int
  peerHeadroom : Option Nat
  peerAtten : Option Nat
  peerCap : Option Nat
  unlocked : Nat
  lockSeen : Bool
  deriving DecidableEq, Repr

/-- An open order of a TAC (chapter 5, The context record). -/
structure OpenOrder where
  id : Nat
  target : Nat
  openedAt : Word32
  effect : Word32
  pair : Bool
  armed : Bool
  deriving DecidableEq, Repr

/-- The Transmit Adaptation Context of a carrier (chapter 5, The context record). -/
structure Tac where
  current : Nat
  state : OrderState
  order : Option OpenOrder
  nextId : Nat
  backoff : Nat
  target : Nat
  latestAdvice : Option Nat
  pendingPower : Option Int
  atten : Nat
  deriving DecidableEq, Repr

/-- What the LAC Controller has learned from a carrier's slots (chapter 6, Receiving a slot). -/
structure Lac where
  peerDigest : Option Word16
  peerState : Option LinkState
  peerSeq : Option Byte
  peerPair : Option Bool
  mismatch : Bool
  deriving DecidableEq, Repr

/-- What the Carrier Supervisor holds for a carrier (chapter 7, Link states).  `record` holds the values the last
SET_CARRIER set, `inForce` the values in force since the last boundary (R129). -/
structure Supervisor where
  link : LinkState
  miss : Nat
  holdoff : Nat
  seek : Nat
  record : CarrierRecord
  inForce : CarrierRecord
  deriving DecidableEq, Repr

/-- An open fade (chapter 8, The open fade). -/
structure OpenFade where
  start : Word32
  duration : Nat
  minF : Nat
  profileAtStart : Nat
  lowest : Nat
  deriving DecidableEq, Repr

/-- A closed fade in the Fade Log. -/
structure FadeRecord where
  carrier : Carrier
  fade : OpenFade
  endedBy : EndedBy
  deriving DecidableEq, Repr

/-- A carrier's wires in the Alarm Collector (R153). -/
structure CarrierWires where
  fade : Bool
  link : Bool
  diversity : Bool
  mismatch : Bool
  deriving DecidableEq, Repr

/-- The RAC's order statistics (R79). -/
structure RacStats where
  accepted : Nat
  repeated : Nat
  replaced : Nat
  ignored : Nat
  refNotActive : Nat
  refMismatch : Nat
  refNoProfile : Nat
  refPairSplit : Nat
  disarming : Nat
  unexpected : Nat
  deriving DecidableEq, Repr

/-- The TAC's counts (R106). -/
structure TacStats where
  opened : Nat
  switched : Nat
  refNotActive : Nat
  refMismatch : Nat
  refNoProfile : Nat
  refPairSplit : Nat
  timeouts : Nat
  superseded : Nat
  timebaseCancels : Nat
  dropped : Nat
  repeatedConfirms : Nat
  late : Nat
  powerSteps : Nat
  deriving DecidableEq, Repr

/-- The LAC Controller's counts (R123, R125). -/
structure LacStats where
  sent : Nat
  silent : Nat
  sentClass1 : Nat
  sentClass2 : Nat
  sentClass3 : Nat
  valid : Nat
  invalid : Nat
  halted : Nat
  haltedByReceipt : Nat
  unknown : Nat
  breaks : Nat
  pairDisagreements : Nat
  deriving DecidableEq, Repr

/-- The Carrier Supervisor's counts (R144). -/
structure SupStats where
  rendezvous : Nat
  lockLoss : Nat
  silence : Nat
  seekingPeer : Nat
  seekTimeouts : Nat
  partner : Nat
  quietEntries : Nat
  linkUps : Nat
  deriving DecidableEq, Repr

/-- All the counts GET_STATS reports for a carrier (R183).  `occupancy` has one count per profile 0..15. -/
structure CarrierStats where
  duplicates : Nat
  occupancy : List Nat
  outage : Nat
  rac : RacStats
  tac : TacStats
  lac : LacStats
  sup : SupStats
  deriving DecidableEq, Repr

/-- Everything the part holds once per carrier. -/
structure CarrierState where
  est : Estimator
  rac : Rac
  tac : Tac
  lac : Lac
  sup : Supervisor
  fade : Option OpenFade
  wires : CarrierWires
  reports : BitVec 16
  stats : CarrierStats
  deriving DecidableEq, Repr

/-- The Timebase Unit (chapter 1).  `atBoundary` is the model's own: no time has passed since the last boundary. -/
structure Timebase where
  state : TimebaseState
  superframe : Word32
  sinceBoundary : Nat
  period : Nat
  rejected : Nat
  atBoundary : Bool
  deriving DecidableEq, Repr

/-- A carrier set of a directive: bit c names carrier c (chapter 12, Modem Link records). -/
abbrev CarrierMask := BitVec 4

/-- The records to the modem (chapter 1, The Modem Link).  A SLOT_OUT without octets is SILENT. -/
inductive Directive where
  | slotOut (c : Carrier) (octets : Option (List Byte))
  | armRx (set : CarrierMask) (modulation code : Nat)
  | disarmRx (set : CarrierMask)
  | armTx (set : CarrierMask) (modulation code : Nat)
  | disarmTx (set : CarrierMask)
  | forceBase (set : CarrierMask)
  | setAtten (set : CarrierMask) (attenuation : Nat)
  | selectBranch (c : Carrier) (branch : Branch)
  deriving DecidableEq, Repr

/-- The Modem Link Interface's device-wide items (chapter 1). -/
structure ModemLink where
  discarded : Nat
  partialRecord : List Byte
  outbound : List Directive
  deriving DecidableEq, Repr

/-- The Profile Table Store (chapter 3).  N_used is the length of `active`; n_used of a scheduled apply is the
length of its entries.  `effectDue` is the model's own: the Store's work at the boundary just taken is yet to be done
(R50). -/
structure TableStore where
  active : List Entry
  digest : Word16
  pending : List (Option Entry)
  completeness : Completeness
  owner : Owner
  scheduled : Option (List Entry)
  enableSets : Four (BitVec 16)
  effectDue : Bool
  deriving DecidableEq, Repr

/-- The messages of the LAC (R109).  Reasons and outcomes are their codes of R190. -/
inductive LacMsg where
  | confirm (target : Carrier) (id profile : Nat)
  | refuse (target : Carrier) (id reason : Nat)
  | cancel (target : Carrier) (id : Nat) (pair : Bool)
  | tableAbort (transfer : Nat)
  | order (target : Carrier) (id profile : Nat) (pair : Bool)
  | tableEntry (transfer index : Nat) (entry : Entry)
  | tableAck (transfer next : Nat)
  | tableEnd (transfer count : Nat) (check : Word16)
  | tableResult (transfer outcome : Nat)
  deriving DecidableEq, Repr

/-- The ten places of the LAC Out Queue (R110). -/
inductive Place where
  | t (c : Carrier)
  | v (c : Carrier)
  | s
  | q
  deriving DecidableEq, Repr

/-- A message in its place; `ridden` is the ridden flag of R112. -/
structure Placed where
  place : Place
  msg : LacMsg
  ridden : Bool
  deriving DecidableEq, Repr

/-- The transfer sender (chapter 9, The sender).  `last` is an outcome code of R190, as received. -/
structure Sender where
  state : SenderState
  id : Nat
  buffer : List Entry
  next : Nat
  retry : Nat
  wait : Option Nat
  resume : Option ResumePhase
  last : Option Nat
  stale : Nat
  deriving DecidableEq, Repr

/-- The transfer receiver (chapter 9, The receiver). -/
structure Receiver where
  state : ReceiverState
  id : Option Nat
  next : Nat
  lastId : Option Nat
  lastResult : Option Nat
  remoteWrite : Bool
  remoteApply : Bool
  stale : Nat
  deriving DecidableEq, Repr

/-- The Alarm Collector's device-wide items (chapter 8).  Bits of `collapsed` and `alertEnable` are in alarm-kind
order, bits of `noticeEnable` in the order of the notice mask (R190). -/
structure Alarms where
  timebaseWire : Bool
  storeWire : Bool
  collapsed : BitVec 6
  alert : Bool
  noticeEnable : BitVec 10
  alertEnable : BitVec 6
  deriving DecidableEq, Repr

/-- The Fade Log, oldest record first, and its overrun flag (R151). -/
structure FadeLog where
  log : List FadeRecord
  overrun : Bool
  deriving DecidableEq, Repr

/-- The notices (R179); `reason` of CHANGE_FAILED is none for TIMEOUT. -/
inductive Notice where
  | alarm (kind : AlarmKind) (asserted : Bool)
  | profileChanged (c : Carrier) (rx : Bool) (old new : Nat)
  | changeFailed (c : Carrier) (reason : Option Nat)
  | fadeRecorded (c : Carrier) (held : Nat)
  | tableEvent (kind : EventKind) (outcome : Nat)
  deriving DecidableEq, Repr

/-- A management frame without SYNC, LEN and CRC, which follow from it (R173). -/
structure Frame where
  kind : Byte
  tag : Byte
  body : List Byte
  deriving DecidableEq, Repr

/-- The framer and the frame it is receiving (R174). -/
structure Framer where
  state : FramerState
  len : Byte
  kind : Option Byte
  tag : Byte
  body : List Byte
  crcHigh : Option Byte
  deriving DecidableEq, Repr

/-- The Management Port (chapter 10). -/
structure Port where
  lineRate : LineRate
  framer : Framer
  queue : List Frame
  busy : List Frame
  reply : Option Frame
  delayed : Option Frame
  delayedFirst : Bool
  sending : Option Frame
  notices : List Notice
  badFrames : Nat
  noticesDropped : Bool
  requestsDropped : Bool
  restarting : Bool
  deriving DecidableEq, Repr

/-- The Settings Store (chapter 11).  `heldReply` is the TAG of the save in progress. -/
structure Settings where
  nvm : List Byte
  storeValid : Bool
  saveState : SaveState
  heldReply : Option Byte
  writing : List Byte
  deriving DecidableEq, Repr

/-- The strap pins BR1 and BR0 (Introduction, Pins). -/
structure Straps where
  br1 : Bool
  br0 : Bool
  deriving DecidableEq, Repr

/-- The whole part, and the queue of the commands that are waiting. -/
structure State where
  timebase : Timebase
  modem : ModemLink
  carriers : Four CarrierState
  pairedA : Bool
  pairedB : Bool
  tables : TableStore
  outQueue : List Placed
  sender : Sender
  receiver : Receiver
  alarms : Alarms
  fades : FadeLog
  port : Port
  settings : Settings
  resetHeld : Bool
  straps : Straps
  choices : Nat
  pending : List Instr
  deriving DecidableEq, Repr

/-- Why the machine can stop. -/
inductive Fault where
  /-- Raised by SLOT_IN, INBOUND_RECORD_DISCARDED and RECORD_CUT_SHORT for a term that has not the fixed length of
  its record, so that no link can carry it (log entry 12).  Safe: the part itself never meets it. -/
  | malformedRecord
  deriving DecidableEq, Repr

/-- Why the model can refuse a command. -/
inductive Refusal where
  /-- Raised by `exec` for a command that has no meaning yet, by its mnemonic.  Safe. -/
  | notModelled (mnemonic : String)
  deriving DecidableEq, Repr

/-! ### Reset values -/

/-- The defaults of R126 but for `enabled`, which is true for carrier 0 alone. -/
def CarrierRecord.factory (enabled : Bool) : CarrierRecord :=
  { enabled, diversity := .combine, selHyst := 8, divLost := 64, releaseShift := 3, lead := 5, margin := 16,
    upHold := 32, upStep := 1, ceiling := 15, adapt := .auto, fixedProfile := 0, attenMin := 0, rslLo := -60,
    rslHi := -45, fadeLow := 160, fadeHigh := 240, w1 := 8, w2 := 32, kLock := 8, tHold := 16, tSeek := 256 }

/-- The factory table of R42. -/
def factoryTable : List Entry :=
  [⟨0, 0, 96, 0⟩, ⟨0, 3, 144, 16⟩, ⟨2, 2, 208, 16⟩, ⟨3, 3, 256, 16⟩,
   ⟨4, 3, 304, 16⟩, ⟨5, 5, 360, 24⟩, ⟨6, 5, 408, 24⟩, ⟨8, 5, 504, 32⟩]

/-- The Estimator's values after any reset (R18). -/
def Estimator.afterReset : Estimator :=
  { selection := .a, absentA := 0, absentB := 0, branchLost := false, minC := none, minRsl := none, minA := none,
    minB := none, clipSeen := false, f := none, g := none, p := none, rslMin := none, dynamicClip := false,
    stickyClip := false, lastA := ⟨false, 0, 0⟩, lastB := ⟨false, 0, 0⟩, selectDue := false }

/-- The RAC's values after any reset (R60). -/
def Rac.afterReset : Rac :=
  { current := 0, armed := none, lastCancelled := none, lastSwitched := none, hold := 0, advice := 0, power := 0,
    peerHeadroom := none, peerAtten := none, peerCap := none, unlocked := 0, lockSeen := false }

/-- The TAC's values after any reset (R82). -/
def Tac.afterReset (attenMin : Nat) : Tac :=
  { current := 0, state := .steady, order := none, nextId := 0, backoff := 0, target := 0, latestAdvice := none,
    pendingPower := none, atten := attenMin }

/-- The LAC Controller's records after any reset (chapter 6, Receiving a slot). -/
def Lac.afterReset : Lac :=
  { peerDigest := none, peerState := none, peerSeq := none, peerPair := none, mismatch := false }

/-- No wire asserted (R153). -/
def CarrierWires.clear : CarrierWires := ⟨false, false, false, false⟩

/-- Every count of a carrier at 0 (R183). -/
def CarrierStats.zero : CarrierStats :=
  { duplicates := 0, occupancy := List.replicate 16 0, outage := 0
    rac := ⟨0, 0, 0, 0, 0, 0, 0, 0, 0, 0⟩
    tac := ⟨0, 0, 0, 0, 0, 0, 0, 0, 0, 0, 0, 0, 0⟩
    lac := ⟨0, 0, 0, 0, 0, 0, 0, 0, 0, 0, 0, 0⟩
    sup := ⟨0, 0, 0, 0, 0, 0, 0, 0⟩ }

/-- A carrier after a reset, before the start-up: an enabled carrier is shown HALTED (log entry 13). -/
def CarrierState.afterReset (record : CarrierRecord) (stats : CarrierStats) : CarrierState :=
  { est := Estimator.afterReset, rac := Rac.afterReset, tac := Tac.afterReset record.attenMin
    lac := Lac.afterReset
    sup := { link := if record.enabled then .halted else .disabled, miss := 0, holdoff := 0, seek := 0,
             record, inForce := record }
    fade := none, wires := CarrierWires.clear, reports := 0, stats }

/-- The sender after any reset (R159); its stale-message count is given. -/
def Sender.afterReset (stale : Nat) : Sender :=
  { state := .idle, id := 0, buffer := [], next := 0, retry := 0, wait := none, resume := none, last := none, stale }

/-- The receiver after any reset (R167); its permissions and stale-message count are given. -/
def Receiver.afterReset (remoteWrite remoteApply : Bool) (stale : Nat) : Receiver :=
  { state := .idle, id := none, next := 0, lastId := none, lastResult := none, remoteWrite, remoteApply, stale }

/-- The framer in HUNT with no frame (R180). -/
def Framer.hunting : Framer := ⟨.hunt, 0, none, 0, [], none⟩

/-- The sixteen places of the Pending Table as a copy of a table (R43). -/
def pendingCopy (table : List Entry) : List (Option Entry) :=
  (table.map some ++ List.replicate 16 none).take 16

/-- Carrier 0 after the start-up of a factory part (R188): HALTED, its holdoff at T_hold, its LINK wire asserted. -/
def factoryCarrier0 : CarrierState :=
  let c := CarrierState.afterReset (CarrierRecord.factory true) CarrierStats.zero
  { c with
    sup := { c.sup with holdoff := 16 }
    wires := { c.wires with link := true }
    stats := { c.stats with sup := { c.stats.sup with rendezvous := 1 } } }

/-- A disabled carrier of a factory part. -/
def factoryCarrier : CarrierState :=
  CarrierState.afterReset (CarrierRecord.factory false) CarrierStats.zero

/-- The part right after a power-on reset that found no intact settings image (R187, R188; log entry 6). -/
def State.reset : State :=
  { timebase := { state := .internal, superframe := 0, sinceBoundary := 0, period := 4000, rejected := 0,
                  atBoundary := false }
    modem := { discarded := 0, partialRecord := [], outbound := [.forceBase 0b0001, .setAtten 0b0001 0] }
    carriers := ⟨factoryCarrier0, factoryCarrier, factoryCarrier, factoryCarrier⟩
    pairedA := false
    pairedB := false
    tables := { active := factoryTable, digest := 0x3E2D, pending := pendingCopy factoryTable,
                completeness := .complete, owner := .host, scheduled := none,
                enableSets := Four.same 0xFFFF, effectDue := false }
    outQueue := []
    sender := Sender.afterReset 0
    receiver := Receiver.afterReset false false 0
    alarms := { timebaseWire := true, storeWire := true, collapsed := 0b110010, alert := true,
                noticeEnable := 0b1111111111, alertEnable := 0b111010 }
    fades := { log := [], overrun := false }
    port := { lineRate := .r19200, framer := Framer.hunting, queue := [], busy := [], reply := none,
              delayed := none, delayedFirst := false, sending := none,
              notices := [.alarm .timebase true, .alarm .store true, .alarm .link true],
              badFrames := 0, noticesDropped := false, requestsDropped := false, restarting := false }
    settings := { nvm := [], storeValid := false, saveState := .idle, heldReply := none, writing := [] }
    resetHeld := false
    straps := ⟨false, false⟩
    choices := 0
    pending := [] }

end Sys2Proof.Machine
end

