-- ==== Sys2Proof/Machine/Layout.lean ====
section
/-! DEFINITION. Octet layouts of what the part sends and of the configuration record (chapter 12, R190): numbers,
optional values, enumerations, entries, records, notices, management frames, LAC slots, Modem Link records. -/

namespace Sys2Proof.Machine

/-! ### Codes (R190, R177) -/

def TimebaseState.toByte : TimebaseState → Byte
  | .external => 0 | .internal => 1

def LinkState.toByte : LinkState → Byte
  | .disabled => 0 | .halted => 1 | .seeking => 2 | .active => 3 | .quiet => 4

def DiversityMode.toByte : DiversityMode → Byte
  | .combine => 0 | .select => 1 | .branchA => 2 | .branchB => 3

def Branch.toByte : Branch → Byte
  | .a => 0 | .b => 1

def AdaptMode.toByte : AdaptMode → Byte
  | .auto => 0 | .fixed => 1

def OrderState.toByte : OrderState → Byte
  | .steady => 0 | .ordered => 1 | .committed => 2 | .backoff => 3

def Completeness.toByte : Completeness → Byte
  | .complete => 0 | .incomplete => 1

def Owner.toByte : Owner → Byte
  | .host => 0 | .transfer => 1

def SenderState.toByte : SenderState → Byte
  | .idle => 0 | .sending => 1 | .paused => 2 | .awaitingResult => 3 | .done => 4 | .failed => 5

/-- A resume phase is carried as the sender state it names. -/
def ResumePhase.toByte : ResumePhase → Byte
  | .sending => 1 | .awaitingResult => 3

def ReceiverState.toByte : ReceiverState → Byte
  | .idle => 0 | .receiving => 1

def EventKind.toByte : EventKind → Byte
  | .push => 0 | .receive => 1 | .apply => 2

def AlarmKind.index : AlarmKind → Nat
  | .fade => 0 | .link => 1 | .diversity => 2 | .mismatch => 3 | .timebase => 4 | .store => 5

def EndedBy.toByte : EndedBy → Byte
  | .recovered => 0 | .halted => 1 | .disabled => 2 | .reset => 3

def SaveState.toByte : SaveState → Byte
  | .idle => 0 | .writing => 1 | .replying => 2

/-! Refusal reasons. -/

def reasonNotActive : Nat := 1
def reasonTableMismatch : Nat := 2
def reasonNoSuchProfile : Nat := 3
def reasonPairSplit : Nat := 4

/-! Transfer outcomes. -/

def outcomeRefused : Nat := 1
def outcomeCheckFailed : Nat := 2
def outcomeHeld : Nat := 3
def outcomeApplied : Nat := 4
def outcomeInvalid : Nat := 5
def outcomeInUse : Nat := 6
def outcomeBusy : Nat := 7
def outcomeAborted : Nat := 8
def outcomeNoResponse : Nat := 9
def outcomeAbandonedInUse : Nat := 10

/-! Reply statuses (R177). -/

def statusOk : Byte := 0x00
def statusUnknownKind : Byte := 0x01
def statusBadLength : Byte := 0x02
def statusBadArgument : Byte := 0x03
def statusBusy : Byte := 0x04
def statusNotEnabled : Byte := 0x05
def statusInUse : Byte := 0x06
def statusBadTable : Byte := 0x07
def statusNoPeer : Byte := 0x08
def statusNotNow : Byte := 0x09
def statusStoreFailed : Byte := 0x0A

/-! ### Numbers -/

/-- An unsigned number in one octet. -/
def byteOf (n : Nat) : Byte := BitVec.ofNat 8 n

/-- A signed number in one octet, two's complement. -/
def byteOfInt (i : Int) : Byte := BitVec.ofInt 8 i

def boolByte (b : Bool) : Byte := if b then 1 else 0

/-- A carrier number in one octet. -/
def carrierByte (c : Carrier) : Byte := byteOf c.val

/-- A sixteen-bit number, most significant octet first. -/
def bytes16 (w : Word16) : List Byte := [w.extractLsb' 8 8, w.extractLsb' 0 8]

def nat16 (n : Nat) : List Byte := bytes16 (BitVec.ofNat 16 n)

def int16 (i : Int) : List Byte := bytes16 (BitVec.ofInt 16 i)

/-- A thirty-two-bit number, most significant octet first. -/
def bytes32 (w : Word32) : List Byte :=
  [w.extractLsb' 24 8, w.extractLsb' 16 8, w.extractLsb' 8 8, w.extractLsb' 0 8]

def nat32 (n : Nat) : List Byte := bytes32 (BitVec.ofNat 32 n)

/-- A value that may be absent: a presence octet, then the value's octets, sent as 0 when it is absent.  `width` is
the number of the value's octets. -/
def optional {α : Type} (width : Nat) (enc : α → List Byte) : Option α → List Byte
  | none => 0 :: List.replicate width 0
  | some x => 1 :: enc x

def optByte : Option Nat → List Byte := optional 1 fun n => [byteOf n]

/-- A profile mask (R190). -/
def maskBytes (m : BitVec 16) : List Byte := bytes16 m

/-! ### Records -/

/-- The six octets of a profile entry, which are also those of the transfer check (R166). -/
def entryOctets (index : Nat) (e : Entry) : List Byte :=
  [byteOf index, byteOf e.modulation, byteOf e.code] ++ nat16 e.thr ++ [byteOf e.hyst]

/-- An entry place of a READ_PROFILES reply: an optional entry (log entry 19). -/
def placeOctets (index : Nat) (e : Option Entry) : List Byte := optional 6 (entryOctets index) e

/-- The twenty-six octets of a configuration record. -/
def recordOctets (paired : Bool) (r : CarrierRecord) : List Byte :=
  [boolByte r.enabled, boolByte paired, r.diversity.toByte, byteOf r.selHyst, byteOf r.divLost,
   byteOf r.releaseShift, byteOf r.lead, byteOf r.margin, byteOf r.upHold, byteOf r.upStep, byteOf r.ceiling,
   r.adapt.toByte, byteOf r.fixedProfile, byteOf r.attenMin, byteOfInt r.rslLo, byteOfInt r.rslHi]
    ++ nat16 r.fadeLow ++ nat16 r.fadeHigh
    ++ [byteOf r.w1, byteOf r.w2, byteOf r.kLock, byteOf r.tHold] ++ nat16 r.tSeek

/-- The five fields of an open fade, in the fade record's order. -/
def openFadeOctets (f : OpenFade) : List Byte :=
  bytes32 f.start ++ nat16 f.duration ++ nat16 f.minF ++ [byteOf f.profileAtStart, byteOf f.lowest]

/-- The twelve octets of a fade record. -/
def fadeRecordOctets (r : FadeRecord) : List Byte :=
  [carrierByte r.carrier] ++ openFadeOctets r.fade ++ [r.endedBy.toByte]

/-! ### Management frames (R173) -/

/-- The octets a frame's CRC covers: LEN, KIND, TAG and BODY. -/
def frameCovered (f : Frame) : List Byte := [byteOf f.body.length, f.kind, f.tag] ++ f.body

/-- A frame as it stands on the line. -/
def frameOctets (f : Frame) : List Byte := 0xC5 :: (frameCovered f ++ bytes16 (crc16 (frameCovered f)))

/-- The frame of a notice: TAG 0 and the body of chapter 12. -/
def noticeFrame : Notice → Frame
  | .alarm k asserted => ⟨0x40, 0, [byteOf k.index, boolByte asserted]⟩
  | .profileChanged c rx old new => ⟨0x41, 0, [carrierByte c, boolByte rx, byteOf old, byteOf new]⟩
  | .changeFailed c none => ⟨0x42, 0, [carrierByte c, 0, 0]⟩
  | .changeFailed c (some reason) => ⟨0x42, 0, [carrierByte c, 1, byteOf reason]⟩
  | .fadeRecorded c held => ⟨0x43, 0, [carrierByte c, byteOf held]⟩
  | .tableEvent k outcome => ⟨0x44, 0, [k.toByte, byteOf outcome]⟩

/-- KIND plus 0x80, or minus 0x80 for a frame whose KIND is 0x80 or above (R177). -/
def replyKind (kind : Byte) : Byte := kind ^^^ 0x80

/-! ### LAC slots (chapter 12, The LAC slot) -/

/-- Two four-bit values in one octet. -/
def nibbles (high low : Nat) : Byte := byteOf (16 * (high % 16) + low % 16)

/-- The kind code of a message. -/
def LacMsg.kindCode : LacMsg → Nat
  | .confirm _ _ _ => 1 | .refuse _ _ _ => 2 | .cancel _ _ _ => 3 | .tableAbort _ => 4 | .order _ _ _ _ => 5
  | .tableEntry _ _ _ => 6 | .tableAck _ _ => 7 | .tableEnd _ _ _ => 8 | .tableResult _ _ => 9

/-- The class of a message (R109). -/
def LacMsg.cls : LacMsg → Nat
  | .confirm _ _ _ => 1 | .refuse _ _ _ => 1 | .cancel _ _ _ => 1 | .tableAbort _ => 1 | .order _ _ _ _ => 2
  | .tableEntry _ _ _ => 3 | .tableAck _ _ => 3 | .tableEnd _ _ _ => 3 | .tableResult _ _ => 3

/-- The kind field (bits 3..0 of octet 9). -/
def LacMsg.kindField : LacMsg → Nat
  | .confirm _ id _ => id | .refuse _ id _ => id | .cancel _ id _ => id | .tableAbort _ => 0
  | .order _ id _ _ => id | .tableEntry _ _ e => e.code | .tableAck _ _ => 0 | .tableEnd _ _ _ => 0
  | .tableResult _ _ => 0

/-- The message octets from octet 10 onwards. -/
def LacMsg.octets : LacMsg → List Byte
  | .confirm c _ profile => [carrierByte c, byteOf profile]
  | .refuse c _ reason => [carrierByte c, byteOf reason]
  | .cancel c _ pair => [carrierByte c, boolByte pair]
  | .tableAbort t => [byteOf t]
  | .order c _ profile pair => [carrierByte c, byteOf profile, boolByte pair]
  | .tableEntry t i e => [byteOf t, nibbles i e.modulation] ++ nat16 e.thr ++ [byteOf e.hyst]
  | .tableAck t n => [byteOf t, byteOf n]
  | .tableEnd t n check => [byteOf t, byteOf n] ++ bytes16 check
  | .tableResult t outcome => [byteOf t, byteOf outcome]

/-- Octets 9 to 14 of a slot: the kind octet and the message octets, filled with 0. -/
def slotMessage : Option LacMsg → List Byte
  | none => List.replicate 6 0
  | some m => (nibbles m.kindCode m.kindField :: (m.octets ++ List.replicate 5 0)).take 6

/-- The header values of a slot (R108). -/
structure SlotHeader where
  link : LinkState
  carrier : Carrier
  pair : Bool
  seq : Byte
  advice : Nat
  power : Int
  cap : Nat
  atten : Nat
  headroom : Nat
  digest : Word16
  deriving DecidableEq, Repr

/-- The first fifteen octets of a slot. -/
def slotCovered (h : SlotHeader) (m : Option LacMsg) : List Byte :=
  [nibbles 1 h.link.toByte.toNat, nibbles h.carrier.val (boolByte h.pair).toNat, h.seq, nibbles h.advice h.cap,
   byteOfInt h.power, byteOf h.atten, byteOf h.headroom] ++ bytes16 h.digest ++ slotMessage m

/-- The sixteen octets of a slot. -/
def slotOctets (h : SlotHeader) (m : Option LacMsg) : List Byte :=
  slotCovered h m ++ [crc8 (slotCovered h m)]

/-! ### Modem Link records to the modem (chapter 12) -/

/-- The twenty octets of an outbound record. -/
def Directive.octets (d : Directive) : List Byte :=
  let named : List Byte := match d with
    | .slotOut c none => [0x11, carrierByte c, 1]
    | .slotOut c (some slot) => [0x11, carrierByte c, 0] ++ slot
    | .armRx set m k => [0x12, set.setWidth 8, byteOf m, byteOf k]
    | .disarmRx set => [0x13, set.setWidth 8]
    | .armTx set m k => [0x14, set.setWidth 8, byteOf m, byteOf k]
    | .disarmTx set => [0x15, set.setWidth 8]
    | .forceBase set => [0x16, set.setWidth 8]
    | .setAtten set a => [0x17, set.setWidth 8, byteOf a]
    | .selectBranch c b => [0x18, carrierByte c, b.toByte]
  (named ++ List.replicate 20 0).take 20

/-! ### The settings image (R184; the octets are the model's, log entry 7) -/

/-- What the image holds besides its version and check. -/
structure Image where
  active : List Entry
  records : Four CarrierRecord
  pairedA : Bool
  pairedB : Bool
  enableSets : Four (BitVec 16)
  noticeEnable : BitVec 10
  alertEnable : BitVec 6
  remoteWrite : Bool
  remoteApply : Bool
  deriving DecidableEq, Repr

/-- An entry of the image: modulation id, code id, thr and hyst. -/
def imageEntry (e : Entry) : List Byte := [byteOf e.modulation, byteOf e.code] ++ nat16 e.thr ++ [byteOf e.hyst]

/-- Items 1 to 6 of R184. -/
def imageCovered (i : Image) : List Byte :=
  [1, byteOf i.active.length] ++ i.active.flatMap imageEntry
    ++ recordOctets i.pairedA i.records.c0 ++ recordOctets i.pairedA i.records.c1
    ++ recordOctets i.pairedB i.records.c2 ++ recordOctets i.pairedB i.records.c3
    ++ maskBytes i.enableSets.c0 ++ maskBytes i.enableSets.c1 ++ maskBytes i.enableSets.c2
    ++ maskBytes i.enableSets.c3
    ++ bytes16 (i.noticeEnable.setWidth 16) ++ [i.alertEnable.setWidth 8]
    ++ [boolByte i.remoteWrite, boolByte i.remoteApply]

/-- The image with its CRC-16. -/
def imageOctets (i : Image) : List Byte := imageCovered i ++ bytes16 (crc16 (imageCovered i))

end Sys2Proof.Machine
end

