-- ==== Sys2Proof/Machine/Operands.lean ====
section
/-! DEFINITION. Decoding of what the part receives (chapter 12): request bodies, configuration records, LAC slots,
Modem Link records, the settings image; and the checks that belong to a decoded value alone. -/

namespace Sys2Proof.Machine

/-! ### Numbers -/

/-- The unsigned number in octet `i` of a body. -/
def natAt (b : List Byte) (i : Nat) : Nat := (b.getD i 0).toNat

/-- The signed number in octet `i` of a body. -/
def intAt (b : List Byte) (i : Nat) : Int := (b.getD i 0).toInt

/-- The sixteen-bit number in octets `i` and `i + 1`, most significant first. -/
def nat16At (b : List Byte) (i : Nat) : Nat := 256 * natAt b i + natAt b (i + 1)

def word16At (b : List Byte) (i : Nat) : Word16 := BitVec.ofNat 16 (nat16At b i)

/-- A boolean octet: 0 and 1 alone are in range (R190). -/
def boolAt (b : List Byte) (i : Nat) : Option Bool :=
  if natAt b i = 0 then some false else if natAt b i = 1 then some true else none

/-- A carrier number, when it is 0..3. -/
def carrierOf (n : Nat) : Option Carrier := if h : n < 4 then some ⟨n, h⟩ else none

def diversityAt (b : List Byte) (i : Nat) : Option DiversityMode :=
  if natAt b i = 0 then some .combine else if natAt b i = 1 then some .select
  else if natAt b i = 2 then some .branchA else if natAt b i = 3 then some .branchB else none

def adaptAt (b : List Byte) (i : Nat) : Option AdaptMode :=
  if natAt b i = 0 then some .auto else if natAt b i = 1 then some .fixed else none

/-- Whether octet `i` names the Pending Table: the enumeration 0 ACTIVE, 1 PENDING. -/
def pendingAt (b : List Byte) (i : Nat) : Option Bool := boolAt b i

/-! ### Profile tables -/

/-- A profile entry in six octets from octet `i`, with the index it carries. -/
def entryAt (b : List Byte) (i : Nat) : Nat × Entry :=
  (natAt b i, ⟨natAt b (i + 1), natAt b (i + 2), nat16At b (i + 3), natAt b (i + 5)⟩)

/-- The ranges of an entry's fields (chapter 3, Profile entries). -/
def entryInRange (e : Entry) : Bool :=
  decide (e.modulation ≤ 10) && decide (e.code ≤ 7) && decide (e.thr ≤ 1020) && decide (e.hyst ≤ 255)

/-- Whether entry `e` may follow entry `before` in a valid table (R41). -/
def entryFollows (before e : Entry) : Bool :=
  decide (before.thr < e.thr) && decide (e.hyst ≤ e.thr - before.thr) && decide (e.modulation ≤ 10)
    && decide (e.code ≤ 7)

/-- The first offending index of the entries after `before`, whose index is `i` (R41). -/
def offendingAfter (before : Entry) (i : Nat) : List Entry → Option Nat
  | [] => none
  | e :: rest => if entryFollows before e then offendingAfter e (i + 1) rest else some i

/-- The first offending index of a table whose entries are all present; none when the table is valid (R41). -/
def firstOffending : List Entry → Option Nat
  | [] => none
  | e :: rest => offendingAfter e 1 rest

/-! ### Configuration records -/

/-- The twenty-six octets of a record from octet `i`: its paired field and the others; none when a boolean or an
enumeration is out of range (R190). -/
def recordAt (b : List Byte) (i : Nat) : Option (Bool × CarrierRecord) :=
  match boolAt b i, boolAt b (i + 1), diversityAt b (i + 2), adaptAt b (i + 11) with
  | some enabled, some paired, some diversity, some adapt =>
    some (paired,
      { enabled, diversity, selHyst := natAt b (i + 3), divLost := natAt b (i + 4),
        releaseShift := natAt b (i + 5), lead := natAt b (i + 6), margin := natAt b (i + 7),
        upHold := natAt b (i + 8), upStep := natAt b (i + 9), ceiling := natAt b (i + 10), adapt,
        fixedProfile := natAt b (i + 12), attenMin := natAt b (i + 13), rslLo := intAt b (i + 14),
        rslHi := intAt b (i + 15), fadeLow := nat16At b (i + 16), fadeHigh := nat16At b (i + 18),
        w1 := natAt b (i + 20), w2 := natAt b (i + 21), kLock := natAt b (i + 22), tHold := natAt b (i + 23),
        tSeek := nat16At b (i + 24) })
  | _, _, _, _ => none

/-- The argument checks of R128 on a record: the ranges of R126 and the three comparisons. -/
def recordInRange (r : CarrierRecord) : Bool :=
  decide (r.selHyst ≤ 40) && decide (8 ≤ r.divLost ∧ r.divLost ≤ 255) && decide (r.releaseShift ≤ 7)
    && decide (3 ≤ r.lead ∧ r.lead ≤ 15) && decide (r.margin ≤ 255) && decide (1 ≤ r.upHold ∧ r.upHold ≤ 255)
    && decide (1 ≤ r.upStep ∧ r.upStep ≤ 15) && decide (r.ceiling ≤ 15) && decide (r.fixedProfile ≤ 15)
    && decide (r.attenMin ≤ 30) && decide (-110 ≤ r.rslLo ∧ r.rslLo < r.rslHi ∧ r.rslHi ≤ -10)
    && decide (r.fadeLow < r.fadeHigh ∧ r.fadeHigh ≤ 1020) && decide (2 ≤ r.w1 ∧ r.w1 ≤ 64)
    && decide (r.w1 < r.w2 ∧ r.w2 ≤ 255) && decide (1 ≤ r.kLock ∧ r.kLock ≤ 64)
    && decide (4 ≤ r.tHold ∧ r.tHold ≤ 255) && decide (16 ≤ r.tSeek ∧ r.tSeek ≤ 4095)

/-! ### Requests (chapter 12, Management frames) -/

def kindIdentify : Byte := 0x01
def kindGetStatus : Byte := 0x02
def kindGetStats : Byte := 0x03
def kindSetTimebase : Byte := 0x04
def kindGetCarrier : Byte := 0x05
def kindSetCarrier : Byte := 0x06
def kindRestartCarrier : Byte := 0x07
def kindEnableProfiles : Byte := 0x08
def kindDisableProfiles : Byte := 0x09
def kindWriteProfiles : Byte := 0x0A
def kindReadProfiles : Byte := 0x0B
def kindApplyTable : Byte := 0x0C
def kindPushTable : Byte := 0x0D
def kindAbortPush : Byte := 0x0E
def kindSetRemote : Byte := 0x0F
def kindReadFades : Byte := 0x10
def kindSetNotices : Byte := 0x11
def kindSaveSettings : Byte := 0x12
def kindRestart : Byte := 0x13

/-- Whether a KIND is one of the request kinds, 0x01 to 0x13. -/
def isRequestKind (kind : Byte) : Bool := decide (1 ≤ kind.toNat ∧ kind.toNat ≤ 0x13)

/-- Whether a body of `len` octets is one that the request kind can have. -/
def lengthFits (kind : Byte) (len : Nat) : Bool :=
  match kind.toNat with
  | 0x01 => len == 0
  | 0x02 => len == 0
  | 0x03 => len == 2 || len == 3
  | 0x04 => len == 2
  | 0x05 => len == 1
  | 0x06 => len == 27
  | 0x07 => len == 1
  | 0x08 => len == 3
  | 0x09 => len == 3
  | 0x0A => decide (8 ≤ len ∧ len ≤ 98 ∧ (len - 2) % 6 = 0)
  | 0x0B => len == 3
  | 0x0C => len == 1
  | 0x0D => len == 1
  | 0x0E => len == 0
  | 0x0F => len == 2
  | 0x10 => len == 1
  | 0x11 => len == 6
  | 0x12 => len == 0
  | 0x13 => len == 0
  | _ => false

/-! ### Frame reports (R9, R10, R192) -/

/-- A conditioned frame report. -/
structure Report where
  index : Nat
  a : BranchValue
  b : BranchValue
  payloadLock : Bool
  toggle : Bool
  deriving DecidableEq, Repr

/-- Clamp to −110..−10 dBm (R10). -/
def clampRsl (x : Int) : Int := max (-110) (min x (-10))

/-- The conditioning of R10: RSL clamped, and no toggle without header lock.  Flag bits 5..7 are disregarded. -/
def conditionReport (frameIndex flags snrA snrB rslA rslB : Byte) : Report :=
  { index := frameIndex.toNat
    a := ⟨flags.getLsbD 0, snrA.toNat, clampRsl rslA.toInt⟩
    b := ⟨flags.getLsbD 1, snrB.toNat, clampRsl rslB.toInt⟩
    payloadLock := flags.getLsbD 3
    toggle := flags.getLsbD 4 && flags.getLsbD 2 }

/-! ### LAC slots (R116, R191) -/

/-- The optional part of a received slot. -/
inductive SlotPart where
  /-- NONE -/
  | empty
  /-- a message all of whose fields are in range -/
  | message (m : LacMsg)
  /-- a TABLE_ENTRY with a field out of range -/
  | badEntry
  /-- an unknown kind, or a target carrier above 3 -/
  | unknown
  deriving DecidableEq, Repr

/-- A valid slot: its header values and its optional part. -/
structure Slot where
  link : LinkState
  pair : Bool
  seq : Byte
  advice : Nat
  power : Int
  cap : Nat
  atten : Nat
  headroom : Nat
  digest : Word16
  part : SlotPart
  deriving DecidableEq, Repr

/-- The upper four bits of octet `i`. -/
def highNibble (b : List Byte) (i : Nat) : Nat := natAt b i / 16

/-- The lower four bits of octet `i`. -/
def lowNibble (b : List Byte) (i : Nat) : Nat := natAt b i % 16

/-- The sender link states that pass validation. -/
def slotLink (code : Nat) : Option LinkState :=
  if code = 2 then some .seeking else if code = 3 then some .active else if code = 4 then some .quiet else none

/-- A message with a target carrier, or an unknown part when the target carrier is above 3 (R191). -/
def targeted (o : List Byte) (m : Carrier → LacMsg) : SlotPart :=
  match carrierOf (natAt o 10) with
  | some c => .message (m c)
  | none => .unknown

/-- The optional part of a slot (chapter 12, Message kinds). -/
def slotPart (o : List Byte) : SlotPart :=
  let field := lowNibble o 9
  match highNibble o 9 with
  | 0 => .empty
  | 1 => targeted o fun c => .confirm c field (natAt o 11)
  | 2 => targeted o fun c => .refuse c field (natAt o 11)
  | 3 => targeted o fun c => .cancel c field (natAt o 11 != 0)
  | 4 => .message (.tableAbort (natAt o 10))
  | 5 => targeted o fun c => .order c field (natAt o 11) (natAt o 12 != 0)
  | 6 =>
    let e : Entry := ⟨lowNibble o 11, field, nat16At o 12, natAt o 14⟩
    if entryInRange e then .message (.tableEntry (natAt o 10) (highNibble o 11) e) else .badEntry
  | 7 => .message (.tableAck (natAt o 10) (natAt o 11))
  | 8 => .message (.tableEnd (natAt o 10) (natAt o 11) (word16At o 12))
  | 9 => .message (.tableResult (natAt o 10) (natAt o 11))
  | _ => .unknown

/-- The checks of R116 on the octets themselves, for a slot that arrived on carrier `c`. -/
def decodeSlot (c : Carrier) (o : List Byte) : Option Slot :=
  match slotLink (lowNibble o 0) with
  | none => none
  | some link =>
    if crc8 (o.take 15) = o.getD 15 0 ∧ highNibble o 0 = 1 ∧ highNibble o 1 = c.val
        ∧ -1 ≤ intAt o 4 ∧ intAt o 4 ≤ 3 then
      some { link, pair := lowNibble o 1 != 0, seq := o.getD 2 0, advice := highNibble o 3, power := intAt o 4,
             cap := lowNibble o 3, atten := natAt o 5, headroom := natAt o 6, digest := word16At o 7,
             part := slotPart o }
    else none

/-! ### The settings image (R184) -/

/-- The entries of an image, five octets each from octet `i`. -/
def imageEntries (b : List Byte) (i : Nat) : Nat → List Entry
  | 0 => []
  | n + 1 => ⟨natAt b i, natAt b (i + 1), nat16At b (i + 2), natAt b (i + 4)⟩ :: imageEntries b (i + 5) n

/-- An image is intact when its CRC-16 matches and its format version is 1. -/
def imageIntact (b : List Byte) : Bool :=
  decide (2 ≤ b.length) && (bytes16 (crc16 (b.take (b.length - 2))) == b.drop (b.length - 2)) && natAt b 0 == 1

/-- Whether a table is one an image may hold: N_used 1..16, entry 0 QPSK 1/2, valid by R41.  DESIGN CHOICE (log entry
41): every field within the range of a profile entry too, so a table with a thr above 1020 is not valid. -/
def imageTableValid (t : List Entry) : Bool :=
  decide (1 ≤ t.length ∧ t.length ≤ 16) && t.all entryInRange && (firstOffending t).isNone
    && (match t with
        | e :: _ => e.modulation == 0 && e.code == 0
        | [] => false)

/-- The settings of an intact and valid image; none otherwise (R184).  Profile 0 is always a member of an enable set
(R56).  DESIGN CHOICE (log entry 41): an image whose length does not fit its N_used, or whose permission octet is
neither 0 nor 1, or whose table has a thr above 1020, is not valid, and bits of the enable masks above their members
are dropped. -/
def readImage (b : List Byte) : Option Image :=
  let n := natAt b 1
  let table := imageEntries b 2 n
  let i := 2 + 5 * n
  if imageIntact b && b.length == i + 119 && imageTableValid table then
    match recordAt b i, recordAt b (i + 26), recordAt b (i + 52), recordAt b (i + 78),
        boolAt b (i + 115), boolAt b (i + 116) with
    | some (p0, r0), some (p1, r1), some (p2, r2), some (p3, r3), some rw, some ra =>
      if recordInRange r0 && recordInRange r1 && recordInRange r2 && recordInRange r3 && p0 == p1 && p2 == p3 then
        some { active := table, records := ⟨r0, r1, r2, r3⟩, pairedA := p0, pairedB := p2
               enableSets := ⟨word16At b (i + 104) ||| 1, word16At b (i + 106) ||| 1,
                              word16At b (i + 108) ||| 1, word16At b (i + 110) ||| 1⟩
               noticeEnable := (word16At b (i + 112)).setWidth 10
               alertEnable := (b.getD (i + 114) 0).setWidth 6
               remoteWrite := rw, remoteApply := ra }
      else none
    | _, _, _, _, _, _ => none
  else none

/-! ### The factory settings (R187) -/

/-- The settings the part takes when no valid image is found. -/
def factoryImage : Image :=
  { active := factoryTable
    records := ⟨CarrierRecord.factory true, CarrierRecord.factory false, CarrierRecord.factory false,
                CarrierRecord.factory false⟩
    pairedA := false, pairedB := false, enableSets := Four.same 0xFFFF
    noticeEnable := 0b1111111111, alertEnable := 0b111010, remoteWrite := false, remoteApply := false }

end Sys2Proof.Machine
end

