-- ==== Sys2Proof/Machine/Ops.lean ====
section
/-! DEFINITION. The named operations over State that the blocks share: reading and changing a carrier's contexts,
pair governance (R127), the candidate set (R58), outbound records (R13) and the LAC Out Queue (R110 to R112). -/

namespace Sys2Proof.Machine

/-- What a command answers: the next state, a fault or a refusal. -/
abbrev Answer := Host.Outcome State Fault Refusal

/-- While RESET is held low the part takes nothing (R189): the command leaves the state unchanged. -/
def running (f : State → State) (s : State) : Answer := if s.resetHeld then .next s else .next (f s)

/-! ### Saturating counts -/

/-- A 32-bit saturating count, incremented. -/
def count32 (n : Nat) : Nat := min (n + 1) 4294967295

/-- A 16-bit saturating count, incremented. -/
def count16 (n : Nat) : Nat := min (n + 1) 65535

/-- A count saturating at 255, incremented. -/
def count8 (n : Nat) : Nat := min (n + 1) 255

/-! ### A carrier's contexts -/

def State.car (s : State) (c : Carrier) : CarrierState := s.carriers.get c

def State.setCar (s : State) (c : Carrier) (x : CarrierState) : State :=
  { s with carriers := s.carriers.set c x }

def modCar (c : Carrier) (f : CarrierState → CarrierState) (s : State) : State := s.setCar c (f (s.car c))

def modEst (c : Carrier) (f : Estimator → Estimator) (s : State) : State :=
  modCar c (fun k => { k with est := f k.est }) s

def modRac (c : Carrier) (f : Rac → Rac) (s : State) : State := modCar c (fun k => { k with rac := f k.rac }) s

def modTac (c : Carrier) (f : Tac → Tac) (s : State) : State := modCar c (fun k => { k with tac := f k.tac }) s

def modLac (c : Carrier) (f : Lac → Lac) (s : State) : State := modCar c (fun k => { k with lac := f k.lac }) s

def modSup (c : Carrier) (f : Supervisor → Supervisor) (s : State) : State :=
  modCar c (fun k => { k with sup := f k.sup }) s

def modStats (c : Carrier) (f : CarrierStats → CarrierStats) (s : State) : State :=
  modCar c (fun k => { k with stats := f k.stats }) s

def modRacStats (c : Carrier) (f : RacStats → RacStats) (s : State) : State :=
  modStats c (fun k => { k with rac := f k.rac }) s

def modTacStats (c : Carrier) (f : TacStats → TacStats) (s : State) : State :=
  modStats c (fun k => { k with tac := f k.tac }) s

def modLacStats (c : Carrier) (f : LacStats → LacStats) (s : State) : State :=
  modStats c (fun k => { k with lac := f k.lac }) s

def modSupStats (c : Carrier) (f : SupStats → SupStats) (s : State) : State :=
  modStats c (fun k => { k with sup := f k.sup }) s

def State.link (s : State) (c : Carrier) : LinkState := (s.car c).sup.link

/-- A carrier that is not DISABLED. -/
def State.enabled (s : State) (c : Carrier) : Bool := s.link c != .disabled

/-- A carrier that is ACTIVE or QUIET. -/
def State.inService (s : State) (c : Carrier) : Bool := s.link c == .active || s.link c == .quiet

/-- Some carrier is ACTIVE. -/
def State.anyActive (s : State) : Bool := allCarriers.any fun c => s.link c == .active

/-! ### The order of carriers where wires change together (R154; log entry 46) -/

/-- A list in the order that a number names: each order of n members is named by one of the numbers below n!. -/
def arrange {α : Type} : Nat → List α → List α
  | _, [] => []
  | n, x :: xs => (arrange (n / (xs.length + 1)) xs).insertIdx (n % (xs.length + 1)) x

/-- The number drawn for the wires of a kind, a FREE VALUE (log entry 46). -/
def State.orderDrawn (s : State) (k : AlarmKind) : Nat := Config.wireOrder (6 * s.choices + k.index)

/-- The order in which the carriers' wires of a kind change at the next boundary, a FREE VALUE (log entry 46). -/
def State.wireOrder (s : State) (k : AlarmKind) : List Carrier := arrange (s.orderDrawn k) allCarriers

/-- Whether of two carriers that enter together the upper one's wires change first, a FREE VALUE (log entry 46). -/
def State.linkWiresBack (s : State) : Bool := s.orderDrawn .link % 2 == 1

/-- The free values have been drawn: the next ones are others. -/
def drawn (s : State) : State := { s with choices := s.choices + 1 }

/-! ### Pair positions (Introduction, Conventions; R127) -/

/-- The other carrier of a carrier's position. -/
def partner (c : Carrier) : Carrier :=
  match c with
  | 0 => 1
  | 1 => 0
  | 2 => 3
  | 3 => 2

/-- The lower carrier of a carrier's position. -/
def lowerOf (c : Carrier) : Carrier :=
  match c with
  | 0 => 0
  | 1 => 0
  | 2 => 2
  | 3 => 2

/-- The upper carrier of a carrier's position. -/
def upperOf (c : Carrier) : Carrier := partner (lowerOf c)

/-- Whether a carrier's position is paired. -/
def State.paired (s : State) (c : Carrier) : Bool := if lowerOf c = 0 then s.pairedA else s.pairedB

/-- Whether a carrier is the upper carrier of a pair. -/
def State.isUpper (s : State) (c : Carrier) : Bool := s.paired c && c != lowerOf c

/-- The carrier whose record and contexts govern `c`: the lower carrier of a pair, else `c` itself (R127). -/
def State.gov (s : State) (c : Carrier) : Carrier := if s.paired c then lowerOf c else c

/-- The governing configuration record as last set. -/
def State.govRecord (s : State) (c : Carrier) : CarrierRecord := (s.car (s.gov c)).sup.record

/-- The governing values in force since the last boundary (R129). -/
def State.govInForce (s : State) (c : Carrier) : CarrierRecord := (s.car (s.gov c)).sup.inForce

/-- The carrier set naming one carrier. -/
def carrierMask (c : Carrier) : CarrierMask :=
  match c with
  | 0 => 0b0001
  | 1 => 0b0010
  | 2 => 0b0100
  | 3 => 0b1000

/-- The carrier set of an order: both carriers of the position when the pair flag is set (R71, R93). -/
def orderMask (c : Carrier) (pair : Bool) : CarrierMask :=
  if pair then carrierMask (lowerOf c) ||| carrierMask (upperOf c) else carrierMask c

/-! ### The Active Table and the candidate set -/

/-- N_used of the Active Table. -/
def State.nUsed (s : State) : Nat := s.tables.active.length

/-- Entry `i` of the Active Table; by law 12 it is present wherever a context reads it (log entry 22). -/
def State.entry (s : State) (i : Nat) : Entry := s.tables.active.getD i ⟨0, 0, 0, 0⟩

/-- The highest number at most `n` for which `ok` holds; 0 when there is none above 0. -/
def highestUpTo (ok : Nat → Bool) : Nat → Nat
  | 0 => 0
  | n + 1 => if ok (n + 1) then n + 1 else highestUpTo ok n

/-- Whether profile `i` is in the candidate set of a carrier (R58). -/
def State.candidate (s : State) (c : Carrier) (i : Nat) : Bool :=
  (s.tables.enableSets.get (s.gov c)).getLsbD i && decide (i ≤ min (s.govInForce c).ceiling (s.nUsed - 1))

/-- The highest candidate at most `b` (R85); profile 0 is always one. -/
def State.highestCandidate (s : State) (c : Carrier) (b : Nat) : Nat := highestUpTo (s.candidate c) b

/-- The cap: the highest member of the candidate set (R59). -/
def State.cap (s : State) (c : Carrier) : Nat := s.highestCandidate c 15

/-- The headroom: the attenuation minus the carrier's atten_min (R104). -/
def State.headroom (s : State) (c : Carrier) : Nat := (s.car c).tac.atten - (s.car c).sup.record.attenMin

/-- Whether mismatch governs a carrier: its own, or with `pair` that of either carrier of the position (R54; log entry
44 for an ORDER with pair flag set at an unpaired position). -/
def State.inMismatch (s : State) (c : Carrier) (pair : Bool) : Bool :=
  (s.car c).lac.mismatch || (pair && (s.car (partner c)).lac.mismatch)

/-- Whether a TAC holds an open order: ORDERED or COMMITTED. -/
def Tac.isOpen (t : Tac) : Bool := t.state == .ordered || t.state == .committed

/-! ### Outbound records (R13) -/

/-- Issue a record to the modem, behind those already issued. -/
def emit (d : Directive) (s : State) : State :=
  { s with modem := { s.modem with outbound := s.modem.outbound ++ [d] } }

/-! ### The LAC Out Queue (R110 to R112) -/

/-- Empty a place. -/
def clearPlace (p : Place) (s : State) : State :=
  { s with outQueue := s.outQueue.filter fun m => m.place != p }

/-- Place a message: it takes the newest age, and replaces what the place held (R111). -/
def placeMessage (p : Place) (m : LacMsg) (s : State) : State :=
  { s with outQueue := (s.outQueue.filter fun x => x.place != p) ++ [⟨p, m, false⟩] }

/-- The message a place holds. -/
def State.messageAt (s : State) (p : Place) : Option LacMsg :=
  (s.outQueue.find? fun m => m.place == p).map (·.msg)

/-- Whether the T place of a carrier holds a CANCEL (R87). -/
def State.cancelWaits (s : State) (c : Carrier) : Bool :=
  match s.messageAt (.t c) with
  | some (.cancel _ _ _) => true
  | _ => false

/-- Clear every ridden flag at a boundary (R112). -/
def clearRidden (s : State) : State :=
  { s with outQueue := s.outQueue.map fun m => { m with ridden := false } }

end Sys2Proof.Machine
end

