-- ==== Sys2Proof/Machine/Flags.lean ====
section
/-! DEFINITION. Notices (R156, R179), alarm wires, collapsed wires and the ALERT line (R153 to R155), and the Fade
Log (R148 to R151). -/

namespace Sys2Proof.Machine

/-! ### Notices -/

/-- The bit of the notice-enable set that governs a notice (R190, notice mask). -/
def Notice.bit : Notice → Nat
  | .alarm k _ => k.index
  | .profileChanged _ _ _ _ => 6
  | .changeFailed _ _ => 7
  | .fadeRecorded _ _ => 8
  | .tableEvent _ _ => 9

/-- The kind and the key for replacement of R179. -/
def Notice.key : Notice → Nat × Nat
  | .alarm k _ => (0, k.index)
  | .profileChanged c _ _ _ => (1, c.val)
  | .changeFailed c _ => (2, c.val)
  | .fadeRecorded c _ => (3, c.val)
  | .tableEvent k _ => (4, k.toByte.toNat)

/-- The notice joins the queue; in a full queue it replaces the oldest of its kind and key, or is discarded
(R179). -/
def enqueueNotice (n : Notice) (p : Port) : Port :=
  if p.notices.length < 8 then { p with notices := p.notices ++ [n] }
  else if p.notices.any (fun m => m.key == n.key) then
    { p with notices := p.notices.eraseP (fun m => m.key == n.key) ++ [n] }
  else { p with noticesDropped := true }

/-- A block places a notice when its member of the notice-enable set is set (R156). -/
def placeNotice (n : Notice) (s : State) : State :=
  if s.alarms.noticeEnable.getLsbD n.bit then { s with port := enqueueNotice n s.port } else s

/-! ### Wires -/

/-- A carrier's wire of a kind; the device-wide kinds have none. -/
def CarrierWires.get (w : CarrierWires) : AlarmKind → Bool
  | .fade => w.fade
  | .link => w.link
  | .diversity => w.diversity
  | .mismatch => w.mismatch
  | .timebase => false
  | .store => false

/-- A carrier's wires with one changed. -/
def CarrierWires.set (w : CarrierWires) (k : AlarmKind) (v : Bool) : CarrierWires :=
  match k with
  | .fade => { w with fade := v }
  | .link => { w with link := v }
  | .diversity => { w with diversity := v }
  | .mismatch => { w with mismatch := v }
  | .timebase => w
  | .store => w

/-- What the collapsed wire of a kind must be: some carrier's wire, or the device's one wire (R154). -/
def State.wireOr (s : State) : AlarmKind → Bool
  | .timebase => s.alarms.timebaseWire
  | .store => s.alarms.storeWire
  | .fade => allCarriers.any fun c => (s.car c).wires.fade
  | .link => allCarriers.any fun c => (s.car c).wires.link
  | .diversity => allCarriers.any fun c => (s.car c).wires.diversity
  | .mismatch => allCarriers.any fun c => (s.car c).wires.mismatch

/-- The collapsed wire of a kind, as held. -/
def State.collapsedWire (s : State) (k : AlarmKind) : Bool := s.alarms.collapsed.getLsbD k.index

/-- A mask with one bit given. -/
def withBit {n : Nat} (m : BitVec n) (i : Nat) (v : Bool) : BitVec n :=
  if v then m ||| BitVec.twoPow n i else m &&& ~~~(BitVec.twoPow n i)

/-- ALERT is asserted while a collapsed wire of the alert-enable set is asserted, and released while RESET is low
(R155). -/
def formAlert (s : State) : State :=
  { s with alarms := { s.alarms with
      alert := !s.resetHeld && s.alarms.collapsed &&& s.alarms.alertEnable != 0 } }

/-- The collapsed wire of a kind is formed again; a change places ALARM and forms ALERT again (R154, R155). -/
def formCollapsed (k : AlarmKind) (s : State) : State :=
  let v := s.wireOr k
  if v = s.collapsedWire k then s
  else formAlert (placeNotice (.alarm k v)
    { s with alarms := { s.alarms with collapsed := withBit s.alarms.collapsed k.index v } })

/-- An owner asserts or deasserts a carrier's wire (R153). -/
def setWire (k : AlarmKind) (c : Carrier) (v : Bool) (s : State) : State :=
  formCollapsed k (modCar c (fun x => { x with wires := x.wires.set k v }) s)

/-- The Timebase Unit sets the TIMEBASE wire. -/
def setTimebaseWire (v : Bool) (s : State) : State :=
  formCollapsed .timebase { s with alarms := { s.alarms with timebaseWire := v } }

/-- The Settings Store sets the STORE wire. -/
def setStoreWire (v : Bool) (s : State) : State :=
  formCollapsed .store { s with alarms := { s.alarms with storeWire := v } }

/-! ### The Fade Log -/

/-- A record becomes the newest of the log; a full log discards its oldest and sets the overrun flag (R151). -/
def FadeLog.append (l : FadeLog) (r : FadeRecord) : FadeLog :=
  if 32 ≤ l.log.length then ⟨l.log.drop 1 ++ [r], true⟩ else ⟨l.log ++ [r], l.overrun⟩

/-- Append a closed fade and place FADE_RECORDED (R151). -/
def appendFade (r : FadeRecord) (s : State) : State :=
  let log := s.fades.append r
  placeNotice (.fadeRecorded r.carrier log.log.length) { s with fades := log }

/-- Close a carrier's open fade, if it has one: append it, and deassert the FADE wire (R148, R149). -/
def closeFade (ended : EndedBy) (c : Carrier) (s : State) : State :=
  match (s.car c).fade with
  | none => s
  | some f => setWire .fade c false (appendFade ⟨c, f, ended⟩ (modCar c (fun k => { k with fade := none }) s))

end Sys2Proof.Machine
end

