-- ==== Sys2Proof/Machine/Estimator.lean ====
section
/-! DEFINITION. The Quality Estimator (chapter 2): taking a frame (R20 to R25), the reduction at a boundary (R26 to
R31), branch choice (R33, R34), branch loss (R35, R36) and the estimator's HALTED and DISABLED values (R19). -/

namespace Sys2Proof.Machine

/-! ### Taking a frame -/

/-- The correction of R22 in qdB for a difference of `j` whole decibels. -/
def combineCorrection (j : Nat) : Nat := [12, 10, 8, 7, 6, 5, 4, 3, 3, 2, 2, 1, 1, 1, 1, 1].getD j 0

/-- What a frame gives: c and its combined RSL when the frame is present, and whether it gives a clip. -/
structure FrameValue where
  value : Option (Nat × Int)
  clip : Bool
  deriving DecidableEq, Repr

/-- Whether a branch is present with SNR 255 (R25). -/
def BranchValue.clips (b : BranchValue) : Bool := b.present && b.snr == 255

/-- A frame seen by one branch alone. -/
def BranchValue.alone (b : BranchValue) : Option (Nat × Int) := if b.present then some (b.snr, b.rsl) else none

/-- COMBINE mode with both branches present: the sum before its limit (R22). -/
def combineSum (a b : BranchValue) : Nat :=
  max a.snr b.snr + combineCorrection ((max a.snr b.snr - min a.snr b.snr) / 4)

/-- The frame's value and clip by the diversity mode (R21 to R25). -/
def combineFrame (mode : DiversityMode) (selection : Branch) (a b : BranchValue) : FrameValue :=
  match mode with
  | .branchA => ⟨a.alone, a.clips⟩
  | .branchB => ⟨b.alone, b.clips⟩
  | .select =>
    let first := if selection = .a then a else b
    let other := if selection = .a then b else a
    ⟨first.alone.or other.alone, a.clips || b.clips⟩
  | .combine =>
    if a.present && b.present then
      ⟨some (min 255 (combineSum a b), max a.rsl b.rsl), decide (255 < combineSum a b) || a.clips || b.clips⟩
    else ⟨a.alone.or b.alone, a.clips || b.clips⟩

/-- The smaller of an accumulator and a new value; the value itself when the accumulator is none (R20). -/
def lowerOpt {α : Type} [Min α] (m : Option α) (x : α) : Option α :=
  match m with
  | none => some x
  | some y => some (min y x)

/-- The accumulators and the last branch values after a frame report (R20). -/
def takeFrame (mode : DiversityMode) (r : Report) (e : Estimator) : Estimator :=
  let v := combineFrame mode e.selection r.a r.b
  { e with
    minC := match v.value with
      | some (c, _) => lowerOpt e.minC c
      | none => e.minC
    minRsl := match v.value with
      | some (_, rsl) => lowerOpt e.minRsl rsl
      | none => e.minRsl
    minA := if r.a.present then lowerOpt e.minA r.a.snr else e.minA
    minB := if r.b.present then lowerOpt e.minB r.b.snr else e.minB
    clipSeen := e.clipSeen || v.clip
    lastA := r.a
    lastB := r.b }

/-! ### Reduction at the boundary -/

/-- f after a present superframe with minimum x: fast attack or slow release (R28). -/
def filterNext (f : Option Nat) (shift x : Nat) : Nat :=
  match f with
  | none => x
  | some old => if x ≤ old then x else old + (x - old + (2 ^ shift - 1)) / 2 ^ shift

/-- g after a present superframe, truncated toward zero (R29). -/
def slopeNext (f : Option Nat) (g : Option Int) (new : Nat) : Int :=
  match f with
  | none => 0
  | some old => Int.tdiv (3 * g.getD 0 + ((new : Int) - (old : Int))) 4

/-- f projected forward by the lead, before its floor (R30). -/
def projected (f : Nat) (g : Int) (lead : Nat) : Int := if g < 0 then (f : Int) + g * (lead : Int) else (f : Int)

/-- The filter, slope, prediction and clip of the superframe just ended (R26 to R31). -/
def reduceSuperframe (r : CarrierRecord) (e : Estimator) : Estimator :=
  match e.minC with
  | none => { e with dynamicClip := false }
  | some m =>
    let f := filterNext e.f r.releaseShift (4 * m)
    let g := slopeNext e.f e.g f
    let q := projected f g r.lead
    let clip := e.clipSeen || decide (q < 0)
    { e with
      f := some f, g := some g, p := some q.toNat, rslMin := e.minRsl
      dynamicClip := clip, stickyClip := e.stickyClip || clip }

/-- Whether the other branch's minimum calls for a change of selection (R33). -/
def otherBetter (hyst : Nat) (selected other : Option Nat) : Bool :=
  match selected, other with
  | none, some _ => true
  | some x, some y => decide (x + hyst ≤ y ∧ x + 1 ≤ y)
  | _, none => false

/-- The branch selected after R33. -/
def chooseBranch (hyst : Nat) (e : Estimator) : Branch :=
  match e.selection with
  | .a => if otherBetter hyst e.minA e.minB then .b else .a
  | .b => if otherBetter hyst e.minB e.minA then .a else .b

/-- The absent runs of both branches (R35). -/
def countAbsent (e : Estimator) : Estimator :=
  { e with
    absentA := if e.minA.isSome then 0 else count8 e.absentA
    absentB := if e.minB.isSome then 0 else count8 e.absentB }

/-- The branch lost flag after the absent runs were updated (R36).  An absent run of 0 says that the branch was
present in the superframe just ended (R35). -/
def branchLostNext (r : CarrierRecord) (e : Estimator) : Bool :=
  if r.diversity = .branchA ∨ r.diversity = .branchB then false
  else if e.absentA = 0 ∧ e.absentB = 0 then false
  else if r.divLost ≤ e.absentA ∨ r.divLost ≤ e.absentB then true
  else e.branchLost

/-- The estimator updates its branch lost flag and the DIVERSITY wire (R36). -/
def judgeBranchLoss (c : Carrier) (s : State) : State :=
  let lost := branchLostNext (s.car c).sup.inForce (s.car c).est
  setWire .diversity c lost (modEst c (fun e => { e with branchLost := lost }) s)

/-- The accumulators emptied for the superframe the boundary starts (R26). -/
def emptyAccumulators (e : Estimator) : Estimator :=
  { e with minC := none, minRsl := none, minA := none, minB := none, clipSeen := false }

/-- Branch choice in SELECT mode and its SELECT_BRANCH (R33, R34). -/
def selectBranchWork (c : Carrier) (s : State) : State :=
  let e := (s.car c).est
  let r := (s.car c).sup.inForce
  if r.diversity = .select then
    let b := chooseBranch r.selHyst e
    let s' := modEst c (fun e => { e with selection := b, selectDue := false }) s
    if b ≠ e.selection ∨ e.selectDue = true then emit (.selectBranch c b) s' else s'
  else s

/-- The estimator's work at a boundary (R26 to R36), on the accumulators of the superframe just ended. -/
def estimatorBoundary (c : Carrier) (s : State) : State :=
  if s.enabled c then
    let s := modEst c (reduceSuperframe (s.car c).sup.inForce) s
    let s := selectBranchWork c s
    let s := modEst c countAbsent s
    let s := judgeBranchLoss c s
    modEst c emptyAccumulators s
  else s

/-! ### Entries -/

/-- The estimator's values at HALTED entry (R19). -/
def Estimator.halted (e : Estimator) : Estimator :=
  { e with f := none, g := none, p := none, rslMin := none, dynamicClip := false }

/-- The estimator's values at DISABLED entry (R19). -/
def Estimator.disabled (e : Estimator) : Estimator :=
  { e with
    absentA := 0, absentB := 0, branchLost := false, minC := none, minRsl := none, minA := none, minB := none
    clipSeen := false, f := none, g := none, p := none, rslMin := none, dynamicClip := false
    lastA := ⟨false, 0, 0⟩, lastB := ⟨false, 0, 0⟩ }

/-! ### The commands -/

/-- BRANCH_LOSS (R36): the branch loss decision of a carrier that is not DISABLED, at a boundary. -/
def execBranchLoss (c : Carrier) (s : State) : Answer :=
  running (fun s => if s.timebase.atBoundary && s.enabled c then judgeBranchLoss c s else s) s

end Sys2Proof.Machine
end

