-- ==== Sys2Proof/Machine/TableStore.lean ====
section
/-! DEFINITION. The Profile Table Store (chapter 3): the digest and mismatch (R53, R54, R122), the actions on the
Pending Table (R44, R46), the checks and the effect of an apply (R47 to R52), and the transfer check (R166). -/

namespace Sys2Proof.Machine

/-! ### Digest, transfer check and mismatch -/

/-- The octets the digest covers: N_used, then modulation and code of entries 1..N_used−1 (R53). -/
def digestOctets (t : List Entry) : List Byte :=
  byteOf t.length :: (t.drop 1).flatMap fun e => [byteOf e.modulation, byteOf e.code]

def digestOf (t : List Entry) : Word16 := crc16 (digestOctets t)

/-- Six octets per entry, from index `i` on (R166). -/
def checkOctets (i : Nat) : List Entry → List Byte
  | [] => []
  | e :: rest => entryOctets i e ++ checkOctets (i + 1) rest

def transferCheck (t : List Entry) : Word16 := crc16 (checkOctets 0 t)

/-- A carrier is in mismatch while its last peer digest is a value that differs from the own digest (R54). -/
def mismatchOf (peer : Option Word16) (own : Word16) : Bool :=
  match peer with
  | none => false
  | some d => d != own

/-- Mismatch of a carrier is formed again, with its wire (R122). -/
def formMismatch (c : Carrier) (s : State) : State :=
  let v := mismatchOf (s.car c).lac.peerDigest s.tables.digest
  setWire .mismatch c v (modLac c (fun l => { l with mismatch := v }) s)

/-! ### The Pending Table -/

/-- The number of present places before the first absent one (chapter 3, The Pending Table). -/
def presentPrefix (p : List (Option Entry)) : Nat := (p.takeWhile Option.isSome).length

/-- The entries of a list of places, when all are present. -/
def allPresent : List (Option Entry) → Option (List Entry)
  | [] => some []
  | none :: _ => none
  | some e :: rest => (allPresent rest).map (e :: ·)

/-- Write entries at places `i`, `i + 1`, … -/
def writePlaces (p : List (Option Entry)) (i : Nat) : List Entry → List (Option Entry)
  | [] => p
  | e :: rest => writePlaces (p.set i (some e)) (i + 1) rest

def modTables (f : TableStore → TableStore) (s : State) : State := { s with tables := f s.tables }

/-- The receiver claims the Pending Table: every place absent, INCOMPLETE, owned by TRANSFER (R46). -/
def claimPending : State → State :=
  modTables fun t => { t with pending := List.replicate 16 none, completeness := .incomplete, owner := .transfer }

/-- The receiver writes one entry; entry 0 takes modulation 0 and code 0 (R39, R46). -/
def writeReceived (i : Nat) (e : Entry) : State → State :=
  modTables fun t =>
    { t with pending := t.pending.set i (some (if i = 0 then { e with modulation := 0, code := 0 } else e)) }

/-- The receiver releases the Pending Table (R46). -/
def releasePending (c : Completeness) : State → State :=
  modTables fun t => { t with completeness := c, owner := .host }

/-! ### Applying a table -/

/-- Whether a profile at or above `n` is in use at a carrier (R48). -/
def inUseAt (n : Nat) (k : CarrierState) : Bool :=
  decide (n ≤ k.tac.current) || decide (n ≤ k.rac.current)
    || (k.tac.isOpen && (match k.tac.order with
        | some o => decide (n ≤ o.target)
        | none => false))
    || (match k.rac.armed with
        | some a => decide (n ≤ a.target)
        | none => false)

/-- The lowest carrier at which a profile at or above `n` is in use (R47). -/
def State.lowestInUse (s : State) (n : Nat) : Option Carrier := allCarriers.find? fun c => inUseAt n (s.car c)

/-- The outcomes of the checks of R47, which R52 hands to the Transfer Engine. -/
inductive ApplyOutcome where
  | ok (entries : List Entry)
  | badArgument
  | badTable (index : Nat)
  | inUse (c : Carrier)
  | busy
  deriving DecidableEq, Repr

/-- Checks 1 to 4 of R47 for the first `n` entries of the Pending Table. -/
def State.applyChecks (s : State) (n : Nat) : ApplyOutcome :=
  match allPresent (s.tables.pending.take n) with
  | none => .badArgument
  | some entries =>
    if 1 ≤ n ∧ n ≤ 16 ∧ s.tables.completeness = .complete ∧ entries.length = n then
      match firstOffending entries with
      | some i => .badTable i
      | none =>
        match s.lowestInUse n with
        | some c => .inUse c
        | none => if s.tables.scheduled.isSome then .busy else .ok entries
    else .badArgument

/-- Schedule an apply of the entries (R47). -/
def scheduleApply (entries : List Entry) : State → State := modTables fun t => { t with scheduled := some entries }

/-- Some TAC is ORDERED or COMMITTED. -/
def State.anyOrderOpen (s : State) : Bool := allCarriers.any fun c => (s.car c).tac.isOpen

/-- The scheduled entries become the Active Table: digest, mismatch of every carrier, TABLE_EVENT (R50).  The MISMATCH
wires change in the order of the list `order` (R154). -/
def takeApply (order : List Carrier) (entries : List Entry) (s : State) : State :=
  let s := modTables (fun t => { t with active := entries, digest := digestOf entries }) s
  let s := order.foldl (fun s c => formMismatch c s) s
  placeNotice (.tableEvent .apply outcomeApplied) (modTables (fun t => { t with scheduled := none }) s)

/-- A scheduled apply waits, is abandoned or takes effect (R50, R51). -/
def judgeApply (order : List Carrier) (s : State) : State :=
  match s.tables.scheduled with
  | none => s
  | some entries =>
    if s.anyOrderOpen then s
    else if (s.lowestInUse entries.length).isSome then
      placeNotice (.tableEvent .apply outcomeAbandonedInUse) (modTables (fun t => { t with scheduled := none }) s)
    else takeApply order entries s

/-- The Store's work at a boundary, which is then done: an apply scheduled later at the same instant, or one that an
order kept waiting, must wait for the next boundary (R47, R50). -/
def applyBoundary (order : List Carrier) (s : State) : State :=
  judgeApply order (modTables (fun t => { t with effectDue := false }) s)

/-! ### The command -/

/-- APPLY_EFFECT (R50): the Store's work for a scheduled apply, at a boundary at which it is not yet done.  A boundary
does it whole (R1; log entry 3), so that after one the first at which an apply may take effect is the next (R47). -/
def execApplyEffect (s : State) : Answer :=
  running (fun s =>
    if s.timebase.atBoundary && s.tables.effectDue then drawn (applyBoundary (s.wireOrder .mismatch) s) else s) s

end Sys2Proof.Machine
end

