-- ==== Sys2Proof/Machine/Transfer.lean ====
section
/-! DEFINITION. The Table Transfer Engine (chapter 9): the sender (R160 to R165) and the receiver (R167 to R171). -/

namespace Sys2Proof.Machine

def modSender (f : Sender → Sender) (s : State) : State := { s with sender := f s.sender }

def modReceiver (f : Receiver → Receiver) (s : State) : State := { s with receiver := f s.receiver }

/-! ### The sender -/

/-- Place TABLE_ENTRY(id, entry next) (R161). -/
def placeEntry (s : State) : State :=
  placeMessage .s (.tableEntry s.sender.id s.sender.next (s.sender.buffer.getD s.sender.next ⟨0, 0, 0, 0⟩)) s

/-- Place TABLE_END with the transfer check over the buffer (R163, R166). -/
def placeEnd (s : State) : State :=
  placeMessage .s (.tableEnd s.sender.id s.sender.buffer.length (transferCheck s.sender.buffer)) s

/-- Place the message of the sender's present state again. -/
def placeAgain (s : State) : State :=
  match s.sender.state with
  | .sending => placeEntry s
  | .awaitingResult => placeEnd s
  | _ => s

/-- Whether the sender's acknowledgement wait runs: SENDING or AWAITING_RESULT. -/
def Sender.running (x : Sender) : Bool := x.state == .sending || x.state == .awaitingResult

/-- A message the sender ignores (R161, R163). -/
def staleAtSender : State → State := modSender fun x => { x with stale := count16 x.stale }

/-- The table of PUSH_TABLE enters the buffer, and the transfer starts with entry 0 (R160). -/
def startPush (table : List Entry) (s : State) : State :=
  placeEntry (modSender (fun x => { x with
    state := .sending, id := (x.id + 1) % 256, buffer := table, next := 0, retry := 0, wait := none
    last := none }) s)

/-- The S place's message has ridden (R112, R161). -/
def senderRidden : State → State :=
  modSender fun x => if x.running then { x with wait := some 8 } else x

/-- A TABLE_ACK reaches the sender (R161, R163). -/
def takeAck (id k : Nat) (s : State) : State :=
  match s.sender.state with
  | .paused => s
  | .sending =>
    if id = s.sender.id ∧ s.sender.next < k ∧ k ≤ s.sender.buffer.length then
      if k < s.sender.buffer.length then
        placeEntry (modSender (fun x => { x with next := k, retry := 0, wait := none }) s)
      else
        placeEnd (modSender (fun x => { x with next := k, retry := 0, wait := none, state := .awaitingResult }) s)
    else staleAtSender s
  | _ => staleAtSender s

/-- A TABLE_RESULT reaches the sender (R163). -/
def takeResult (id outcome : Nat) (s : State) : State :=
  if s.sender.state = .paused then s
  else if s.sender.running && s.sender.id == id then
    placeNotice (.tableEvent .push outcome)
      (clearPlace .s (modSender (fun x => { x with state := .done, last := some outcome, wait := none }) s))
  else staleAtSender s

/-- The acknowledgement wait has reached 0: a resend, or the end of the transfer (R162).  DESIGN CHOICE (log entry 47):
an expiry with the retry count at 16 that is taken before a pause leaves the sender FAILED, as R162 says, although R164
says that in both orders it is PAUSED; R164 pauses a sender in SENDING or AWAITING_RESULT. -/
def ackWaitExpired (s : State) : State :=
  if s.sender.retry < 16 then
    placeAgain (modSender (fun x => { x with retry := x.retry + 1, wait := none }) s)
  else
    placeNotice (.tableEvent .push outcomeNoResponse)
      (clearPlace .s (modSender (fun x => { x with
        state := .failed, last := some outcomeNoResponse, wait := none }) s))

/-- The sender's work at a boundary: its wait decrements and may expire (R161, R162). -/
def senderBoundary (s : State) : State :=
  match s.sender.wait with
  | none => s
  | some w =>
    if s.sender.running then
      let s := modSender (fun x => { x with wait := some (w - 1) }) s
      if w - 1 = 0 then ackWaitExpired s else s
    else s

/-- The sender pauses (R164). -/
def pauseSender (phase : ResumePhase) (s : State) : State :=
  clearPlace .s (modSender (fun x => { x with state := .paused, resume := some phase, wait := none }) s)

/-- The sender resumes in the phase it held (R164). -/
def resumeSender (s : State) : State :=
  match s.sender.resume with
  | some .sending => placeEntry (modSender (fun x => { x with state := .sending, resume := none }) s)
  | some .awaitingResult => placeEnd (modSender (fun x => { x with state := .awaitingResult, resume := none }) s)
  | none => s

/-- The sender follows a change of link state: it pauses when no carrier is ACTIVE, and resumes when one is
(R164).  A sender that R162 has made FAILED at the same boundary stays so (log entry 47). -/
def senderFollowsLinks (s : State) : State :=
  if s.anyActive then
    if s.sender.state = .paused then resumeSender s else s
  else
    match s.sender.state with
    | .sending => pauseSender .sending s
    | .awaitingResult => pauseSender .awaitingResult s
    | _ => s

/-! ### The receiver -/

/-- A message the receiver ignores (R168, R169, R171). -/
def staleAtReceiver : State → State := modReceiver fun x => { x with stale := count16 x.stale }

/-- A transfer ended at this receiver with a result: TABLE_RESULT, last id and last result, TABLE_EVENT (R168 to R171).
DESIGN CHOICE (log entry 40): the current id becomes none and next 0 in every case, as R170 says of its own, also when
SET_REMOTE withdraws remote_write, where R171 names neither. -/
def concludeReception (id result : Nat) (s : State) : State :=
  placeNotice (.tableEvent .receive result)
    (modReceiver (fun x => { x with
        state := .idle, id := none, next := 0, lastId := some id, lastResult := some result })
      (placeMessage .q (.tableResult id result) s))

/-- A reception starts, or starts again on a new id (R168, R169). -/
def startReception (id : Nat) (e : Entry) (s : State) : State :=
  placeMessage .q (.tableAck id 1)
    (modReceiver (fun x => { x with state := .receiving, id := some id, next := 1 })
      (writeReceived 0 e (claimPending s)))

/-- The reception of transfer `id` ends because remote_write is withdrawn (R171). -/
def refuseReception (id : Nat) (s : State) : State :=
  concludeReception id outcomeRefused (releasePending .incomplete s)

/-- A TABLE_ENTRY reaches the receiver (R168, R169). -/
def takeEntry (id index : Nat) (e : Entry) (s : State) : State :=
  match s.receiver.state, s.receiver.id with
  | .receiving, some i =>
    if id = i then
      if index = s.receiver.next then
        let s := modReceiver (fun x => { x with next := x.next + 1 }) (writeReceived index e s)
        placeMessage .q (.tableAck i s.receiver.next) s
      else placeMessage .q (.tableAck i s.receiver.next) s
    else if index ≠ 0 then staleAtReceiver s
    else if s.receiver.remoteWrite then startReception id e s
    else concludeReception id outcomeRefused (refuseReception i s)
  | _, _ =>
    if index = 0 ∧ s.receiver.lastId ≠ some id then
      if s.receiver.remoteWrite then startReception id e s else concludeReception id outcomeRefused s
    else staleAtReceiver s

/-- The result of a whole table, by remote_apply and the Store's outcome (R170, R52). -/
def wholeTableResult (count : Nat) (s : State) : Nat × State :=
  if s.receiver.remoteApply then
    match s.applyChecks count with
    | .ok entries => (outcomeApplied, scheduleApply entries s)
    | .badArgument => (outcomeInvalid, s)
    | .badTable _ => (outcomeInvalid, s)
    | .inUse _ => (outcomeInUse, s)
    | .busy => (outcomeBusy, s)
  else (outcomeHeld, s)

/-- Whether the received table arrived whole (R170). -/
def State.arrivedWhole (s : State) (count : Nat) (check : Word16) : Bool :=
  count == s.receiver.next &&
    (match allPresent (s.tables.pending.take count) with
      | some entries => transferCheck entries == check
      | none => false)

/-- A TABLE_END reaches the receiver (R168 to R170). -/
def takeEnd (id count : Nat) (check : Word16) (s : State) : State :=
  match s.receiver.state, s.receiver.id with
  | .receiving, some i =>
    if id = i then
      if s.arrivedWhole count check then
        let r := wholeTableResult count (releasePending .complete s)
        concludeReception i r.1 r.2
      else concludeReception i outcomeCheckFailed (releasePending .incomplete s)
    else staleAtReceiver s
  | _, _ =>
    match s.receiver.lastResult with
    | some r =>
      if s.receiver.lastId = some id ∧ r ≠ outcomeRefused then placeMessage .q (.tableResult id r) s
      else staleAtReceiver s
    | none => staleAtReceiver s

/-- A TABLE_ABORT reaches the receiver (R171). -/
def takeAbort (id : Nat) (s : State) : State :=
  if s.receiver.state = .receiving ∧ s.receiver.id = some id then
    placeNotice (.tableEvent .receive outcomeAborted)
      (modReceiver (fun x => { x with
          state := .idle, id := none, next := 0, lastId := some id, lastResult := none })
        (clearPlace .q (releasePending .incomplete s)))
  else staleAtReceiver s

/-! ### The command -/

/-- ACK_WAIT_EXPIRY (R162): the wait has reached 0 at a boundary. -/
def execAckWaitExpiry (s : State) : Answer :=
  running (fun s =>
    if s.timebase.atBoundary && s.sender.running && s.sender.wait == some 0 then ackWaitExpired s else s) s

end Sys2Proof.Machine
end

