-- ==== Sys2Proof/Machine/Supervisor.lean ====
section
/-! DEFINITION. The Carrier Supervisor (chapter 7): HALTED and DISABLED entry (R131, R137, R138) with the values each
block takes at them (R19, R61, R83, R110, R149), the miss, holdoff and seek counts (R133, R139, R140), the tests of
ACTIVE and QUIET (R134, R135), and the receipt of a slot (R135, R136, R140). -/

namespace Sys2Proof.Machine

/-! ### Entries -/

/-- The RAC's values at HALTED and DISABLED entry (R61). -/
def Rac.halted (r : Rac) : Rac :=
  { r with
    current := 0, armed := none, lastCancelled := none, lastSwitched := none, hold := 0, advice := 0, power := 0
    peerHeadroom := none, peerAtten := none, peerCap := none, unlocked := 0 }

/-- The TAC's values at HALTED and DISABLED entry (R83). -/
def Tac.halted (attenMin : Nat) (t : Tac) : Tac :=
  { t with
    current := 0, order := none, state := .steady, backoff := 0, target := 0, latestAdvice := none
    pendingPower := none, atten := attenMin }

/-- What an entering carrier enters: HALTED for a cause, or DISABLED. -/
inductive EntryKind where
  | halt (cause : HaltCause)
  | disable
  deriving DecidableEq, Repr

/-- A carrier that makes an entry in an event. -/
structure Entering where
  carrier : Carrier
  kind : EntryKind
  deriving DecidableEq, Repr

def EntryKind.endedBy : EntryKind → EndedBy
  | .halt _ => .halted
  | .disable => .disabled

/-- The counts of a HALTED entry (R137, R144). -/
def SupStats.countHalt (cause : HaltCause) (x : SupStats) : SupStats :=
  let x := { x with rendezvous := count32 x.rendezvous }
  match cause with
  | .lockLoss => { x with lockLoss := count32 x.lockLoss }
  | .silence => { x with silence := count32 x.silence }
  | .seekingPeer => { x with seekingPeer := count32 x.seekingPeer }
  | .seekTimeout => { x with seekTimeouts := count32 x.seekTimeouts }
  | .partner => { x with partner := count32 x.partner }
  | .restart => x
  | .enable => x
  | .startUp => x

/-- The Supervisor's own values at an entry (R131, R137). -/
def Supervisor.entered (kind : EntryKind) (tHold : Nat) (x : Supervisor) : Supervisor :=
  match kind with
  | .halt _ => { x with link := .halted, miss := 0, seek := 0, holdoff := tHold }
  | .disable => { x with link := .disabled, miss := 0, seek := 0, holdoff := 0 }

/-- A carrier's state after its blocks took their values for an entry, the open fade apart (R131, R137).  The
dropped-order count is the lower carrier's for a pair (R83, R106). -/
def CarrierState.entered (kind : EntryKind) (tHold : Nat) (upper : Bool) (k : CarrierState) : CarrierState :=
  { k with
    est := match kind with
      | .halt _ => k.est.halted
      | .disable => k.est.disabled
    rac := k.rac.halted
    tac := k.tac.halted k.sup.record.attenMin
    lac := match kind with
      | .halt _ => k.lac
      | .disable => Lac.afterReset
    sup := k.sup.entered kind tHold
    stats := { k.stats with
      tac := if k.tac.order.isSome && !upper then { k.stats.tac with dropped := count32 k.stats.tac.dropped }
        else k.stats.tac
      sup := match kind with
        | .halt cause => k.stats.sup.countHalt cause
        | .disable => k.stats.sup } }

/-- The T and V places of a carrier are emptied. -/
def clearCarrier (c : Carrier) (s : State) : State := clearPlace (.v c) (clearPlace (.t c) s)

/-- The places an entry empties (R110): the T and V places of the carrier, and at HALTED entry of a carrier of a pair
those of the other carrier of the position too, DISABLED or not. -/
def enterPlaces (x : Entering) (s : State) : State :=
  match x.kind with
  | .halt _ => if s.paired x.carrier then clearCarrier (partner x.carrier) (clearCarrier x.carrier s)
    else clearCarrier x.carrier s
  | .disable => clearCarrier x.carrier s

/-- The blocks of one entering carrier take their values, and its places are emptied (R110). -/
def enterBlocks (x : Entering) (s : State) : State :=
  enterPlaces x
    (modCar x.carrier (CarrierState.entered x.kind (s.govRecord x.carrier).tHold (s.isUpper x.carrier)) s)

/-- The LINK wire at an entry, and at DISABLED entry the DIVERSITY and MISMATCH wires too (R131, R141, R153). -/
def enterWires (x : Entering) (s : State) : State :=
  match x.kind with
  | .halt _ => setWire .link x.carrier true s
  | .disable =>
    setWire .mismatch x.carrier false (setWire .diversity x.carrier false (setWire .link x.carrier false s))

/-- SET_ATTEN with the carrier's atten_min (R137 step 3). -/
def enterAtten (x : Entering) (s : State) : State :=
  emit (.setAtten (carrierMask x.carrier) (s.car x.carrier).sup.record.attenMin) s

/-- The carrier set of the entering carriers. -/
def enteringMask (xs : List Entering) : CarrierMask := xs.foldl (fun m x => m ||| carrierMask x.carrier) 0

/-- The order in which the wires of entering carriers change (R154): of two, the second's first with `back`. -/
def wireTurns (back : Bool) (xs : List Entering) : List Entering :=
  match xs with
  | [x, y] => if back then [y, x] else [x, y]
  | xs => xs

/-- One event in which the carriers of a list, in increasing number, make their entries (R131, R137, R138): open
fades close first, with their fields as they stand (R149).  DESIGN CHOICE (log entry 45): of two entering carriers the
lower's SET_ATTEN is issued first; R137 step 3 names no order.  With `back` the upper carrier's wires change first
(R154). -/
def enter (back : Bool) (xs : List Entering) (s : State) : State :=
  let s := xs.foldl (fun s x => closeFade x.kind.endedBy x.carrier s) s
  let s := xs.foldl (fun s x => enterBlocks x s) s
  let s := emit (.forceBase (enteringMask xs)) s
  let s := xs.foldl (fun s x => enterAtten x s) s
  let s := (wireTurns back xs).foldl (fun s x => enterWires x s) s
  senderFollowsLinks s

/-- The carriers that enter when `c` makes an entry: with its partner, cause partner, when they are a pair and the
partner is not DISABLED (R131, R138).  The lower carrier stands first: R149 orders the fades of a HALTED pair so;
for the SET_ATTEN records and the fades of a pair of which one is DISABLED it is a DESIGN CHOICE (log entry 45). -/
def State.entering (s : State) (c : Carrier) (kind : EntryKind) : List Entering :=
  if s.paired c && s.enabled (partner c) then
    if c = lowerOf c then [⟨c, kind⟩, ⟨partner c, .halt .partner⟩] else [⟨partner c, .halt .partner⟩, ⟨c, kind⟩]
  else [⟨c, kind⟩]

/-- HALTED entry of a carrier (R137, R138).  Of a pair both LINK wires assert, so that their order does not show. -/
def haltedEntry (c : Carrier) (cause : HaltCause) (s : State) : State := enter false (s.entering c (.halt cause)) s

/-- DISABLED entry of a carrier (R131).  Of a pair one LINK wire deasserts and the other asserts together: which is first
(R154) is a FREE VALUE (log entry 46). -/
def disabledEntry (c : Carrier) (s : State) : State :=
  drawn (enter s.linkWiresBack (s.entering c .disable) s)

/-- A carrier enters ACTIVE: its RAC's unlocked run is 0, its LINK wire deasserts, a paused sender resumes (R61,
R141, R164). -/
def enterActive (c : Carrier) (s : State) : State :=
  senderFollowsLinks (setWire .link c false
    (modRac c (fun r => { r with unlocked := 0 }) (modSup c (fun x => { x with link := .active, seek := 0 }) s)))

/-- An ACTIVE carrier enters QUIET (R134). -/
def enterQuiet (c : Carrier) (s : State) : State :=
  senderFollowsLinks (setWire .link c true
    (modSupStats c (fun x => { x with quietEntries := count32 x.quietEntries })
      (modSup c (fun x => { x with link := .quiet }) s)))

/-- A HALTED carrier whose holdoff has reached 0 enters SEEKING (R139). -/
def enterSeeking (c : Carrier) (s : State) : State :=
  let tSeek := (s.govRecord c).tSeek
  senderFollowsLinks (setWire .link c true
    (modSup c (fun x => { x with link := .seeking, seek := tSeek, miss := 0 }) s))

/-! ### The tests -/

/-- Lock loss: an ACTIVE or QUIET carrier's unlocked run is at least K_lock (R134, R135). -/
def State.lockLost (s : State) (c : Carrier) : Bool :=
  s.inService c && decide ((s.govInForce c).kLock ≤ (s.car c).rac.unlocked)

/-- An ACTIVE carrier that has not lost lock has a miss counter of at least W1 (R134). -/
def State.goesQuiet (s : State) (c : Carrier) : Bool :=
  s.link c == .active && !s.lockLost c && decide ((s.govInForce c).w1 ≤ (s.car c).sup.miss)

/-- A QUIET carrier that has not lost lock has a miss counter of at least W2 (R135). -/
def State.silenceHalts (s : State) (c : Carrier) : Bool :=
  s.link c == .quiet && !s.lockLost c && decide ((s.govInForce c).w2 ≤ (s.car c).sup.miss)

/-- A HALTED carrier's holdoff count is 0 (R139). -/
def State.holdoffOver (s : State) (c : Carrier) : Bool := s.link c == .halted && (s.car c).sup.holdoff == 0

/-- A SEEKING carrier's seek count is 0 (R140). -/
def State.seekOver (s : State) (c : Carrier) : Bool := s.link c == .seeking && (s.car c).sup.seek == 0

/-- The counts of a boundary: the miss counter of a SEEKING, ACTIVE or QUIET carrier, the holdoff count of a HALTED
one, the seek count of a SEEKING one (R133, R139, R140). -/
def Supervisor.counted (x : Supervisor) : Supervisor :=
  match x.link with
  | .disabled => x
  | .halted => { x with holdoff := x.holdoff - 1 }
  | .seeking => { x with miss := count16 x.miss, seek := x.seek - 1 }
  | .active => { x with miss := count16 x.miss }
  | .quiet => { x with miss := count16 x.miss }

/-- The Supervisor's work for one carrier at a boundary: its counts, then its tests in the order of R134, R135, R139
and R140. -/
def supervise (c : Carrier) (s : State) : State :=
  let s := modSup c Supervisor.counted s
  if s.lockLost c then haltedEntry c .lockLoss s
  else if s.goesQuiet c then enterQuiet c s
  else if s.silenceHalts c then haltedEntry c .silence s
  else if s.holdoffOver c then enterSeeking c s
  else if s.seekOver c then haltedEntry c .seekTimeout s
  else s

/-! ### The receipt of a slot -/

/-- The test of R136 on one carrier: at base in both directions, nothing open and nothing armed. -/
def CarrierState.atBase (k : CarrierState) : Bool :=
  k.tac.current == 0 && k.rac.current == 0 && k.tac.order.isNone && k.rac.armed.isNone

/-- The test of R136: it covers both carriers of a pair. -/
def State.staysInService (s : State) (c : Carrier) : Bool :=
  (s.car c).atBase && (!s.paired c || (s.car (partner c)).atBase)

/-- The Supervisor takes the receipt of a valid slot with the peer's state (R133, R135, R136, R140). -/
def takeReceipt (c : Carrier) (peer : LinkState) (s : State) : State :=
  let s := modSup c (fun x => { x with miss := 0 }) s
  match s.link c with
  | .disabled => s
  | .halted => s
  | .seeking => enterActive c (modSupStats c (fun x => { x with linkUps := count32 x.linkUps }) s)
  | .active => if peer = .seeking ∧ s.staysInService c = false then haltedEntry c .seekingPeer s else s
  | .quiet =>
    if peer = .seeking ∧ s.staysInService c = false then haltedEntry c .seekingPeer s else enterActive c s

/-! ### The commands -/

/-- QUIET_ENTRY (R134). -/
def execQuietEntry (c : Carrier) (s : State) : Answer :=
  running (fun s => if s.timebase.atBoundary && s.goesQuiet c then enterQuiet c s else s) s

/-- LOCK_LOSS_HALT (R134, R135). -/
def execLockLossHalt (c : Carrier) (s : State) : Answer :=
  running (fun s => if s.timebase.atBoundary && s.lockLost c then haltedEntry c .lockLoss s else s) s

/-- SILENCE_HALT (R135). -/
def execSilenceHalt (c : Carrier) (s : State) : Answer :=
  running (fun s => if s.timebase.atBoundary && s.silenceHalts c then haltedEntry c .silence s else s) s

/-- HOLDOFF_EXPIRY (R139). -/
def execHoldoffExpiry (c : Carrier) (s : State) : Answer :=
  running (fun s => if s.timebase.atBoundary && s.holdoffOver c then enterSeeking c s else s) s

/-- SEEK_TIMEOUT (R140). -/
def execSeekTimeout (c : Carrier) (s : State) : Answer :=
  running (fun s => if s.timebase.atBoundary && s.seekOver c then haltedEntry c .seekTimeout s else s) s

end Sys2Proof.Machine
end

