-- ==== Sys2Proof/Machine/Receive.lean ====
section
/-! DEFINITION. The Receive Adaptation Context (chapter 4): lock and occupancy (R76, R77), the advice decision (R63 to
R67), orders and cancels from the peer (R69 to R73), and the toggle (R74, R147). -/

namespace Sys2Proof.Machine

/-! ### Lock and occupancy -/

/-- The count of the superframe just ended, by the link state and profile at its close (R77). -/
def CarrierStats.countSuperframe (link : LinkState) (profile : Nat) (x : CarrierStats) : CarrierStats :=
  match link with
  | .disabled => x
  | .halted => { x with outage := count32 x.outage }
  | .seeking => { x with outage := count32 x.outage }
  | .active => { x with occupancy := x.occupancy.modify profile count32 }
  | .quiet => { x with occupancy := x.occupancy.modify profile count32 }

/-- The superframe just ended is judged locked or unlocked (R76); the next one starts with no lock seen. -/
def Rac.judgeLock (present : Bool) (r : Rac) : Rac :=
  { r with unlocked := if r.lockSeen && present then 0 else count8 r.unlocked, lockSeen := false }

/-- The RAC closes the superframe the boundary ends, before any change made at this boundary (R76, R77). -/
def closeSuperframe (c : Carrier) (s : State) : State :=
  if s.enabled c then
    modCar c (fun k => { k with
      stats := k.stats.countSuperframe k.sup.link k.rac.current
      rac := k.rac.judgeLock k.est.minC.isSome }) s
  else modRac c (fun r => { r with lockSeen := false }) s

/-! ### The advice decision -/

/-- What the decision of R64 uses, apart from the RAC itself: the estimator's results, the table and the governing
fields. -/
structure DecisionInput where
  p : Nat
  rslMin : Int
  table : List Entry
  margin : Nat
  upHold : Nat
  upStep : Nat
  rslLo : Int
  rslHi : Int
  deriving DecidableEq, Repr

/-- Entry `i` of the table of a decision. -/
def DecisionInput.at (x : DecisionInput) (i : Nat) : Entry := x.table.getD i ⟨0, 0, 0, 0⟩

/-- deficit = thr[cur] − hyst[cur] − p (R64). -/
def deficit (x : DecisionInput) (cur : Nat) : Int := ((x.at cur).thr : Int) - ((x.at cur).hyst : Int) - (x.p : Int)

/-- The highest index below `cur` whose threshold p clears, or 0 (R65). -/
def downshiftTo (x : DecisionInput) (cur : Nat) : Nat := highestUpTo (fun i => decide ((x.at i).thr ≤ x.p)) (cur - 1)

/-- The upshift candidate of R66. -/
def upshiftCandidate (x : DecisionInput) (cur ceilP : Nat) : Option Nat :=
  let u := highestUpTo (fun i => decide (cur < i ∧ (x.at i).thr + x.margin ≤ x.p)) ceilP
  if cur < u then some u else none

/-- The decision of R65 to R67 on a present superframe of an ACTIVE carrier. -/
def decideAdvice (x : DecisionInput) (r : Rac) : Rac :=
  let cur := r.current
  let h := r.peerHeadroom.getD 0
  let a := r.peerAtten.getD 30
  let d := deficit x cur
  if 0 < d then
    let k := min h 3
    if d ≤ 16 * (k : Int) then { r with power := (d + 15) / 16, advice := cur, hold := 0 }
    else { r with advice := downshiftTo x cur, power := (k : Int), hold := 0 }
  else
    let u := upshiftCandidate x cur (min (x.table.length - 1) (r.peerCap.getD 0))
    let power : Int :=
      if x.rslMin < x.rslLo ∧ 0 < h then 1
      else if x.rslHi < x.rslMin ∧ u = none ∧ a < 30 then -1
      else 0
    match u with
    | some up =>
      let hold := count8 r.hold
      { r with hold, power, advice := if x.upHold ≤ hold then min up (cur + x.upStep) else cur }
    | none => { r with hold := 0, power, advice := cur }

/-- The bound of R63: the advice never exceeds the RX current profile plus up_step. -/
def Rac.bounded (upStep : Nat) (r : Rac) : Rac := { r with advice := min r.advice (r.current + upStep) }

/-- The input of a carrier's decision: its own results, the Active Table, the governing fields in force (R64). -/
def State.decisionInput (s : State) (c : Carrier) : DecisionInput :=
  let e := (s.car c).est
  let r := s.govInForce c
  { p := e.p.getD 0, rslMin := e.rslMin.getD 0, table := s.tables.active, margin := r.margin, upHold := r.upHold,
    upStep := r.upStep, rslLo := r.rslLo, rslHi := r.rslHi }

/-- The RAC's work at a boundary (R63); `present` says whether the superframe just ended was present (R32). -/
def racBoundary (present : Bool) (c : Carrier) (s : State) : State :=
  let bound := Rac.bounded (s.govInForce c).upStep
  match s.link c with
  | .disabled => s
  | .halted => s
  | .seeking => s
  | .quiet => modRac c (fun r => bound { r with power := 0 }) s
  | .active =>
    if present then modRac c (fun r => bound (decideAdvice (s.decisionInput c) r)) s
    else modRac c (fun r => bound { r with power := 0 }) s

/-! ### Orders from the peer -/

/-- The sequence of checks of R70 on an ORDER; the reason of the first that fails.  DESIGN CHOICE (log entry 44): with
the pair flag set check 2 fails on the mismatch of either carrier of the position, also where it is not paired. -/
def State.orderRefusal (s : State) (c : Carrier) (target : Nat) (pair : Bool) : Option Nat :=
  if s.link c != .active || (pair && s.link (partner c) != .active) then some reasonNotActive
  else if s.inMismatch c pair then some reasonTableMismatch
  else if s.nUsed ≤ target then some reasonNoSuchProfile
  else if pair != s.paired c || s.isUpper c then some reasonPairSplit
  else none

/-- The refusal count of a reason, at a RAC (R79). -/
def RacStats.countRefusal (reason : Nat) (x : RacStats) : RacStats :=
  if reason = reasonNotActive then { x with refNotActive := count32 x.refNotActive }
  else if reason = reasonTableMismatch then { x with refMismatch := count32 x.refMismatch }
  else if reason = reasonNoSuchProfile then { x with refNoProfile := count32 x.refNoProfile }
  else if reason = reasonPairSplit then { x with refPairSplit := count32 x.refPairSplit }
  else x

/-- Set the armed order of a carrier, and its copy in the other RAC of a pair (R71, R72). -/
def setArmed (c : Carrier) (pair : Bool) (a : Option ArmedOrder) (s : State) : State :=
  let s := modRac c (fun r => { r with armed := a }) s
  if pair then modRac (partner c) (fun r => { r with armed := a }) s else s

/-- An ORDER that passed the checks: a repeat, or a new arming (R71).  DESIGN CHOICE (log entry 35): an arming is
replaced, and counted so, when the named carrier's own RAC holds an armed order; a stale copy that the upper carrier
alone still holds is overwritten without a count. -/
def acceptOrder (c : Carrier) (id target : Nat) (pair : Bool) (s : State) : State :=
  let confirm := placeMessage (.v c) (.confirm c id target)
  let fresh (s : State) : State :=
    confirm (setArmed c pair (some ⟨id, target, pair⟩)
      (emit (.armRx (orderMask c pair) (s.entry target).modulation (s.entry target).code)
        (modRacStats (s.gov c) (fun x => { x with accepted := count32 x.accepted }) s)))
  match (s.car c).rac.armed with
  | none => fresh s
  | some a =>
    if a.id = id ∧ a.target = target then
      confirm (modRacStats (s.gov c) (fun x => { x with repeated := count32 x.repeated }) s)
    else fresh (modRacStats (s.gov c) (fun x => { x with replaced := count32 x.replaced }) s)

/-- An ORDER reaches the RAC of its named carrier (R69 to R71). -/
def takeOrder (c : Carrier) (id target : Nat) (pair : Bool) (s : State) : State :=
  let ids := (s.car (s.gov c)).rac
  if ids.lastCancelled = some id ∨ ids.lastSwitched = some id then
    modRacStats (s.gov c) (fun x => { x with ignored := count32 x.ignored }) s
  else
    let s := if s.isUpper c then s
      else modRac c (fun r => { r with lastCancelled := none, lastSwitched := none }) s
    match s.orderRefusal c target pair with
    | some reason =>
      placeMessage (.v c) (.refuse c id reason) (modRacStats (s.gov c) (RacStats.countRefusal reason) s)
    | none => acceptOrder c id target pair s

/-- A CANCEL reaches the RAC of its named carrier (R72).  DESIGN CHOICE (log entry 34): the last cancelled id of a pair
is put into the lower carrier's RAC even while the lower carrier is DISABLED. -/
def takeCancel (c : Carrier) (id : Nat) (pair : Bool) (s : State) : State :=
  if s.link c = .disabled ∨ pair ≠ s.paired c then s
  else
    let cancelled := modRac (s.gov c) (fun r => { r with lastCancelled := some id })
    match (s.car c).rac.armed with
    | none => cancelled s
    | some a =>
      if a.id = id then
        cancelled (setArmed c a.pair none (emit (.disarmRx (orderMask c a.pair))
          (modRacStats (s.gov c) (fun x => { x with disarming := count32 x.disarming }) s)))
      else cancelled s

/-! ### The toggle -/

/-- A toggle with an armed order lowers the lowest RX profile of an open fade (R147). -/
def lowerFade (profile : Nat) (f : OpenFade) : OpenFade := { f with lowest := min f.lowest profile }

/-- A conditioned report with toggle seen (R74). -/
def takeToggle (c : Carrier) (s : State) : State :=
  match (s.car c).rac.armed with
  | none => modRacStats c (fun x => { x with unexpected := count32 x.unexpected }) s
  | some a =>
    let old := (s.car c).rac.current
    let s := modRac c (fun r => { r with current := a.target, armed := none, advice := a.target, hold := 0 }) s
    let s := modRac (s.gov c) (fun r => { r with lastSwitched := some a.id }) s
    let s := modCar c (fun k => { k with fade := k.fade.map (lowerFade a.target) }) s
    placeNotice (.profileChanged c true old a.target) s

/-- A conditioned report is handed to the carrier's estimator and RAC (R10). -/
def takeReport (c : Carrier) (r : Report) (s : State) : State :=
  let s := modEst c (takeFrame (s.car c).sup.record.diversity r) s
  let s := modRac c (fun x => { x with lockSeen := x.lockSeen || r.payloadLock }) s
  if r.toggle then takeToggle c s else s

end Sys2Proof.Machine
end

