-- ==== Sys2Proof/Machine/Transmit.lean ====
section
/-! DEFINITION. The Transmit Adaptation Context (chapter 5): the target (R85), the order boundary work in its sequence
(R87 to R100), responses (R89, R90, R93, R95) and power (R102).  For a pair the lower carrier's TAC does the order
work and the upper carrier's TAC holds copies (R86). -/

namespace Sys2Proof.Machine

/-- The open order of a TAC: present in ORDERED and COMMITTED. -/
def Tac.openOrder (t : Tac) : Option OpenOrder := if t.isOpen then t.order else none

/-- The upper carrier's copies of the pair's order state and open order (R86). -/
def mirrorOrder (c : Carrier) (s : State) : State :=
  if s.paired c && s.enabled (upperOf c) then
    let t := (s.car (lowerOf c)).tac
    modTac (upperOf c) (fun u => { u with state := t.state, order := t.order }) s
  else s

/-- An order closes: the open order becomes none and the TAC takes a state, with its backoff count. -/
def closeOrder (c : Carrier) (st : OrderState) (backoff : Nat) (s : State) : State :=
  mirrorOrder c (modTac c (fun t => { t with order := none, state := st, backoff }) s)

/-- CANCEL(id) replaces the ORDER in the queue place (R97). -/
def placeCancel (c : Carrier) (o : OpenOrder) : State → State := placeMessage (.t c) (.cancel c o.id o.pair)

/-! ### The steps of R100 -/

/-- Step 1: with the timebase INTERNAL an open order closes (R98). -/
def closeOnTimebaseLoss (c : Carrier) (s : State) : State :=
  match (s.car c).tac.openOrder with
  | none => s
  | some o =>
    if s.timebase.state = .internal then
      let s := closeOrder c .steady 0 (placeCancel c o s)
      let s := if o.armed then emit (.disarmTx (orderMask c o.pair)) s else s
      modTacStats c (fun x => { x with timebaseCancels := count32 x.timebaseCancels }) s
    else s

/-- The backoff count has reached 0 in BACKOFF (R96). -/
def State.backoffOver (s : State) (c : Carrier) : Bool :=
  (s.car c).tac.state == .backoff && (s.car c).tac.backoff == 0

/-- Step 2: the backoff count decrements, and at 0 the TAC is STEADY (R96). -/
def countBackoff (c : Carrier) (s : State) : State :=
  if (s.car c).tac.state = .backoff then
    let s := modTac c (fun t => { t with backoff := t.backoff - 1 }) s
    if s.backoffOver c then closeOrder c .steady 0 s else s
  else s

/-- An order in a given state whose effect boundary is `e`. -/
def State.orderAt (s : State) (c : Carrier) (st : OrderState) (e : Word32) : Option OpenOrder :=
  match (s.car c).tac.order with
  | some o => if (s.car c).tac.state = st ∧ o.effect = e then some o else none
  | none => none

/-- The TX current profile becomes the target at a switch, with its notice (R94). -/
def takeTarget (c : Carrier) (target : Nat) (s : State) : State :=
  placeNotice (.profileChanged c false (s.car c).tac.current target)
    (modTac c (fun t => { t with current := target }) s)

/-- A COMMITTED order switches (R94). -/
def switchOrder (c : Carrier) (o : OpenOrder) (s : State) : State :=
  let s := closeOrder c .steady 0 (clearPlace (.t c) s)
  let s := takeTarget c o.target s
  let s := if o.pair then takeTarget (partner c) o.target s else s
  modTacStats c (fun x => { x with switched := count32 x.switched }) s

/-- Step 3: a COMMITTED order switches at E (R94). -/
def switchAtEffect (c : Carrier) (s : State) : State :=
  match s.orderAt c .committed s.timebase.superframe with
  | some o => switchOrder c o s
  | none => s

/-- An ORDERED order reaches its deadline (R91). -/
def missDeadline (c : Carrier) (o : OpenOrder) (s : State) : State :=
  placeNotice (.changeFailed c none)
    (modTacStats c (fun x => { x with timeouts := count32 x.timeouts }) (closeOrder c .backoff 2 (placeCancel c o s)))

/-- Step 4: an order still ORDERED at E−1 closes (R91). -/
def deadline (c : Carrier) (s : State) : State :=
  match s.orderAt c .ordered (s.timebase.superframe + 1) with
  | some o => missDeadline c o s
  | none => s

/-- ARM_TX for a COMMITTED order, and its armed flag (R93). -/
def armOrder (c : Carrier) (o : OpenOrder) (s : State) : State :=
  mirrorOrder c (modTac c (fun t => { t with order := some { o with armed := true } })
    (emit (.armTx (orderMask c o.pair) (s.entry o.target).modulation (s.entry o.target).code) s))

/-- Step 5: ARM_TX is sent at E−1 of a COMMITTED order (R93). -/
def armAtDeadline (c : Carrier) (s : State) : State :=
  match s.orderAt c .committed (s.timebase.superframe + 1) with
  | some o => if o.armed then s else armOrder c o s
  | none => s

/-- The bound b of R85. -/
def State.adviceBound (s : State) (c : Carrier) : Nat :=
  match (s.govInForce c).adapt with
  | .fixed => (s.govInForce c).fixedProfile
  | .auto =>
    if s.paired c then
      min ((s.car c).tac.latestAdvice.getD 0) ((s.car (partner c)).tac.latestAdvice.getD 0)
    else (s.car c).tac.latestAdvice.getD 0

/-- The target t of R85. -/
def State.targetOf (s : State) (c : Carrier) : Nat :=
  if s.inMismatch c (s.paired c) then 0 else s.highestCandidate c (s.adviceBound c)

/-- Step 6: the target is formed, and copied by the upper carrier of a pair (R85).  DESIGN CHOICE (log entry 36): it
is formed by R85's steps in every state but DISABLED, so in FIXED mode a HALTED entry taken before this work at the
same boundary leaves the fixed target, not 0. -/
def formTarget (c : Carrier) (s : State) : State :=
  let t := s.targetOf c
  let s := modTac c (fun x => { x with target := t }) s
  if s.paired c && s.enabled (upperOf c) then modTac (upperOf c) (fun x => { x with target := t }) s else s

/-- Step 7: an ORDERED upshift whose new target is below the TX current profile is reversed (R92). -/
def reverseUpshift (c : Carrier) (s : State) : State :=
  let t := (s.car c).tac
  match t.order with
  | none => s
  | some o =>
    if t.state = .ordered ∧ t.current < o.target ∧ t.target < t.current then
      modTacStats c (fun x => { x with superseded := count32 x.superseded })
        (closeOrder c .steady 0 (placeCancel c o s))
    else s

/-- The opening conditions of R87. -/
def State.mayOpen (s : State) (c : Carrier) : Bool :=
  let t := (s.car c).tac
  t.state == .steady && s.link c == .active && (!s.paired c || s.link (partner c) == .active)
    && s.timebase.state == .external && s.tables.scheduled.isNone && !s.cancelWaits c && t.target != t.current

/-- The order that opens at this boundary (R88). -/
def State.newOrder (s : State) (c : Carrier) : OpenOrder :=
  { id := (s.car c).tac.nextId, target := (s.car c).tac.target, openedAt := s.timebase.superframe
    effect := s.timebase.superframe + BitVec.ofNat 32 (s.govInForce c).lead, pair := s.paired c, armed := false }

/-- Step 8: the opening test, and the opening (R87, R88). -/
def openOrderWork (c : Carrier) (s : State) : State :=
  if s.mayOpen c then
    let o := s.newOrder c
    let s := mirrorOrder c
      (modTac c (fun t => { t with state := .ordered, order := some o, nextId := (t.nextId + 1) % 16 }) s)
    modTacStats c (fun x => { x with opened := count32 x.opened })
      (placeMessage (.t c) (.order c o.id o.target o.pair) s)
  else s

/-- The attenuation after a power request: clamped to atten_min..30 (R102). -/
def steppedAtten (atten attenMin : Nat) (request : Int) : Nat :=
  (max (attenMin : Int) (min ((atten : Int) - request) 30)).toNat

/-- Step 9: the pending power request is applied (R102). -/
def applyPower (c : Carrier) (s : State) : State :=
  let t := (s.car c).tac
  match t.pendingPower with
  | none => s
  | some request =>
    let a := steppedAtten t.atten (s.car c).sup.record.attenMin request
    if a = t.atten then modTac c (fun t => { t with pendingPower := none }) s
    else
      emit (.setAtten (carrierMask c) a)
        (modTacStats c (fun x => { x with powerSteps := count32 x.powerSteps })
          (modTac c (fun t => { t with atten := a, pendingPower := none }) s))

/-- Steps 1 to 8 of R100, each seeing the result of the one before. -/
def orderBoundary (c : Carrier) (s : State) : State :=
  openOrderWork c (reverseUpshift c (formTarget c (armAtDeadline c (deadline c (switchAtEffect c
    (countBackoff c (closeOnTimebaseLoss c s)))))))

/-- The TAC's work at a boundary (R100): steps 1 to 8 for a single carrier or the lower carrier of a pair, and
step 9. -/
def tacBoundary (c : Carrier) (s : State) : State :=
  if s.enabled c then
    applyPower c (if s.isUpper c then s else orderBoundary c s)
  else s

/-! ### Responses -/

/-- A late response (R95): counted at the lower carrier for a pair (R106). -/
def lateResponse (c : Carrier) (s : State) : State :=
  modTacStats (s.gov c) (fun x => { x with late := count32 x.late }) s

/-- A CONFIRM reaches the TAC of its named carrier (R89, R93, R95). -/
def takeConfirm (c : Carrier) (id target : Nat) (s : State) : State :=
  if s.link c = .disabled then s
  else if s.isUpper c then lateResponse c s
  else
    match (s.car c).tac.openOrder with
    | none => lateResponse c s
    | some o =>
      if o.id = id ∧ o.target = target then
        if (s.car c).tac.state = .ordered then mirrorOrder c (modTac c (fun t => { t with state := .committed }) s)
        else modTacStats c (fun x => { x with repeatedConfirms := count32 x.repeatedConfirms }) s
      else lateResponse c s

/-- The refusal count of a reason, at a TAC (R106); a reason outside 1..4 has none (R191). -/
def TacStats.countRefusal (reason : Nat) (x : TacStats) : TacStats :=
  if reason = reasonNotActive then { x with refNotActive := count32 x.refNotActive }
  else if reason = reasonTableMismatch then { x with refMismatch := count32 x.refMismatch }
  else if reason = reasonNoSuchProfile then { x with refNoProfile := count32 x.refNoProfile }
  else if reason = reasonPairSplit then { x with refPairSplit := count32 x.refPairSplit }
  else x

/-- A REFUSE reaches the TAC of its named carrier (R90, R93, R95). -/
def takeRefuse (c : Carrier) (id reason : Nat) (s : State) : State :=
  if s.link c = .disabled then s
  else if s.isUpper c then lateResponse c s
  else
    match (s.car c).tac.openOrder with
    | none => lateResponse c s
    | some o =>
      if (s.car c).tac.state = .ordered ∧ o.id = id then
        modTacStats c (TacStats.countRefusal reason)
          (placeNotice (.changeFailed c (some reason)) (closeOrder c .backoff 2 (clearPlace (.t c) s)))
      else lateResponse c s

/-! ### The commands -/

/-- A carrier's TAC does order work of its own: it is not DISABLED and not the upper carrier of a pair (R86). -/
def State.orderWork (s : State) (c : Carrier) : Bool := s.timebase.atBoundary && s.enabled c && !s.isUpper c

/-- BACKOFF_EXPIRY (R96): STEADY, with the target and the opening test of the same boundary. -/
def execBackoffExpiry (c : Carrier) (s : State) : Answer :=
  running (fun s =>
    if s.orderWork c && s.backoffOver c then openOrderWork c (formTarget c (closeOrder c .steady 0 s)) else s) s

/-- ORDER_DEADLINE (R91). -/
def execOrderDeadline (c : Carrier) (s : State) : Answer :=
  running (fun s => if s.orderWork c then deadline c s else s) s

/-- ARM_TX (R93). -/
def execArmTx (c : Carrier) (s : State) : Answer :=
  running (fun s => if s.orderWork c then armAtDeadline c s else s) s

/-- ORDER_SWITCH (R94): the switch, with the target and the opening test of the same boundary. -/
def execOrderSwitch (c : Carrier) (s : State) : Answer :=
  running (fun s =>
    match s.orderWork c, s.orderAt c .committed s.timebase.superframe with
    | true, some o => openOrderWork c (formTarget c (switchOrder c o s))
    | _, _ => s) s

end Sys2Proof.Machine
end

