-- ==== Sys2Proof/Machine/Lac.lean ====
section
/-! DEFINITION. The LAC Controller (chapter 6): serving a slot request (R108, R112 to R114), and taking a received
slot (R116 to R121, R125). -/

namespace Sys2Proof.Machine

/-! ### Serving a slot request -/

/-- The header of an outgoing slot, each value as it stands (R108, R104, R113). -/
def State.slotHeader (s : State) (c : Carrier) : SlotHeader :=
  let k := s.car c
  { link := k.sup.link, carrier := c, pair := s.paired c, seq := s.timebase.superframe.setWidth 8
    advice := if s.inService c then k.rac.advice else 0
    power := if s.inService c then k.rac.power else 0
    cap := s.cap c, atten := k.tac.atten, headroom := s.headroom c, digest := s.tables.digest }

/-- Whether a message is an ORDER. -/
def LacMsg.isOrder : LacMsg → Bool
  | .order _ _ _ _ => true
  | _ => false

/-- A message in a place is a candidate unless it is an ORDER that has ridden (R114 step 1). -/
def Placed.candidate (m : Placed) : Bool := !(m.msg.isOrder && m.ridden)

/-- The oldest candidate of a class: the queue stands oldest first. -/
def State.oldestOf (s : State) (cls : Nat) : Option Placed :=
  s.outQueue.find? fun m => m.candidate && m.msg.cls == cls

/-- The message of the optional part: the oldest of the lowest class that has a candidate (R114). -/
def State.arbitrated (s : State) : Option Placed := (s.oldestOf 1).or ((s.oldestOf 2).or (s.oldestOf 3))

/-- An ORDER that rides keeps its place and age, with its ridden flag set (R112). -/
def markRidden (p : Place) (s : State) : State :=
  { s with outQueue := s.outQueue.map fun m => if m.place = p then { m with ridden := true } else m }

/-- The place after its message has ridden, and what the sender is told (R112, R161). -/
def ride (m : Placed) (s : State) : State :=
  let s := if m.msg.isOrder then markRidden m.place s else clearPlace m.place s
  if m.place = .s then senderRidden s else s

/-- The sent-message count of a class (R123). -/
def LacStats.countSent (cls : Nat) (x : LacStats) : LacStats :=
  if cls = 1 then { x with sentClass1 := count32 x.sentClass1 }
  else if cls = 2 then { x with sentClass2 := count32 x.sentClass2 }
  else { x with sentClass3 := count32 x.sentClass3 }

/-- A slot leaves on a carrier: its octets, and its sent-slot count (R113). -/
def sendSlot (c : Carrier) (m : Option LacMsg) (s : State) : State :=
  emit (.slotOut c (some (slotOctets (s.slotHeader c) m)))
    (modLacStats c (fun x => { x with sent := count32 x.sent }) s)

/-- The answer to a SLOT_REQUEST by the link state of its carrier (R113). -/
def serveSlotRequest (c : Carrier) (s : State) : State :=
  match s.link c with
  | .disabled => emit (.slotOut c none) (modLacStats c (fun x => { x with silent := count32 x.silent }) s)
  | .halted => emit (.slotOut c none) (modLacStats c (fun x => { x with silent := count32 x.silent }) s)
  | .seeking => sendSlot c none s
  | .active =>
    match s.arbitrated with
    | none => sendSlot c none s
    | some m => ride m (modLacStats c (LacStats.countSent m.msg.cls) (sendSlot c (some m.msg) s))
  | .quiet =>
    match s.arbitrated with
    | none => sendSlot c none s
    | some m => ride m (modLacStats c (LacStats.countSent m.msg.cls) (sendSlot c (some m.msg) s))

/-! ### Taking a received slot -/

/-- The optional part of a slot goes to its owner (R120, R191). -/
def dispatch (c : Carrier) (part : SlotPart) (s : State) : State :=
  match part with
  | .empty => s
  | .badEntry => staleAtReceiver s
  | .unknown => modLacStats c (fun x => { x with unknown := count32 x.unknown }) s
  | .message (.order t id target pair) => takeOrder t id target pair s
  | .message (.cancel t id pair) => takeCancel t id pair s
  | .message (.confirm t id target) => takeConfirm t id target s
  | .message (.refuse t id reason) => takeRefuse t id reason s
  | .message (.tableEntry id index e) => takeEntry id index e s
  | .message (.tableEnd id count check) => takeEnd id count check s
  | .message (.tableAbort id) => takeAbort id s
  | .message (.tableAck id k) => takeAck id k s
  | .message (.tableResult id outcome) => takeResult id outcome s

/-- Whether a header's sequence breaks the sequence of a carrier (R121). -/
def sequenceBreaks (last : Option Byte) (seq : Byte) : Bool :=
  match last with
  | none => false
  | some q => seq != q + 1

/-- Stage 1: the peer records, the sequence, the pair flag and the valid-slot count (R119, R121, R125). -/
def takePeerRecords (c : Carrier) (slot : Slot) (s : State) : State :=
  let broken := sequenceBreaks (s.car c).lac.peerSeq slot.seq
  let disagrees := slot.pair != s.paired c
  modLac c (fun l => { l with
      peerState := some slot.link, peerSeq := some slot.seq, peerPair := some slot.pair })
    (modLacStats c (fun x => { x with
      valid := count32 x.valid
      breaks := if broken then count32 x.breaks else x.breaks
      pairDisagreements := if disagrees then count32 x.pairDisagreements else x.pairDisagreements }) s)

/-- Stages 4 to 6: the digest and mismatch, the RAC's peer values, the TAC's advice and request (R62, R84, R119,
R122). -/
def takeHeader (c : Carrier) (slot : Slot) (s : State) : State :=
  let s := formMismatch c (modLac c (fun l => { l with peerDigest := some slot.digest }) s)
  let s := modRac c (fun r => { r with
    peerHeadroom := some (min slot.headroom 30), peerAtten := some (min slot.atten 30), peerCap := some slot.cap }) s
  modTac c (fun t => { t with latestAdvice := some slot.advice, pendingPower := some slot.power }) s

/-- A valid slot on a SEEKING, ACTIVE or QUIET carrier is taken in stages (R119). -/
def takeSlotStages (c : Carrier) (slot : Slot) (s : State) : State :=
  let s := takeReceipt c slot.link (takePeerRecords c slot s)
  if s.link c = .halted then modLacStats c (fun x => { x with haltedByReceipt := count32 x.haltedByReceipt }) s
  else dispatch c slot.part (takeHeader c slot s)

/-- A SLOT_IN handed to the LAC Controller (R116 to R119). -/
def takeSlot (c : Carrier) (octets : List Byte) (s : State) : State :=
  let invalid := modLacStats c (fun x => { x with invalid := count32 x.invalid })
  match decodeSlot c octets with
  | none => invalid s
  | some slot =>
    match s.link c with
    | .disabled => invalid s
    | .halted => modLacStats c (fun x => { x with halted := count32 x.halted }) s
    | .seeking => takeSlotStages c slot s
    | .active => takeSlotStages c slot s
    | .quiet => takeSlotStages c slot s

end Sys2Proof.Machine
end

