-- ==== Sys2Proof/Machine/ModemLink.lean ====
section
/-! DEFINITION. The Modem Link Interface (chapter 1): inbound records (R7, R192), frame reports (R8 to R10), received
slots and slot requests (R11). -/

namespace Sys2Proof.Machine

def modModem (f : ModemLink → ModemLink) (s : State) : State := { s with modem := f s.modem }

/-- A whole record has been received: none is being received any more (R7). -/
def recordTaken : State → State := modModem fun m => { m with partialRecord := [] }

/-- A record is discarded and counted (R7). -/
def discardRecord : State → State := modModem fun m => { m with discarded := count16 m.discarded }

/-- A report whose frame index is unseen joins the report set and is handed on (R9, R10). -/
def acceptReport (c : Carrier) (r : Report) (s : State) : State :=
  takeReport c r (modCar c (fun k => { k with reports := withBit k.reports r.index true }) s)

/-- A FRAME_REPORT with carrier 0..3 and frame index 0..15 (R8, R9). -/
def attributeReport (c : Carrier) (r : Report) (s : State) : State :=
  if s.link c = .disabled then s
  else if (s.car c).reports.getLsbD r.index then
    modStats c (fun x => { x with duplicates := count32 x.duplicates }) s
  else acceptReport c r s

/-- A whole FRAME_REPORT record (R7, R192).  DESIGN CHOICE (log entry 48): one with a frame index above 15 for a DISABLED
carrier meets both R192 (discarded and counted) and R8 (ignored, not counted); the index is tested first, and it is
counted. -/
def takeFrameReport (carrier frameIndex flags snrA snrB rslA rslB : Byte) (s : State) : State :=
  match carrierOf carrier.toNat with
  | none => discardRecord s
  | some c =>
    if frameIndex.toNat ≤ 15 then attributeReport c (conditionReport frameIndex flags snrA snrB rslA rslB) s
    else discardRecord s

/-- A whole SLOT_IN record (R7, R11). -/
def takeSlotIn (carrier : Byte) (octets : List Byte) (s : State) : State :=
  match carrierOf carrier.toNat with
  | none => discardRecord s
  | some c => takeSlot c octets s

/-- A whole SLOT_REQUEST record (R7, R11). -/
def takeSlotRequest (carrier : Byte) (s : State) : State :=
  match carrierOf carrier.toNat with
  | none => discardRecord s
  | some c => serveSlotRequest c s

/-- A whole inbound record by its record kind (R7; chapter 12, Modem Link records). -/
def takeRecord (record : List Byte) (s : State) : State :=
  let o (i : Nat) : Byte := record.getD i 0
  match natAt record 0 with
  | 1 => takeFrameReport (o 1) (o 2) (o 3) (o 4) (o 5) (o 6) (o 7) s
  | 2 => takeSlotIn (o 1) ((record.drop 2).take 16) s
  | 3 => takeSlotRequest (o 1) s
  | _ => discardRecord s

/-! ### The commands -/

/-- RECORD_CUT_SHORT (R7): the current record is discarded and counted; the new one is received from its start. -/
def execRecordCutShort (newOctets : List Byte) (s : State) : Answer :=
  if newOctets.length < 20 then
    running (fun s => modModem (fun m => { m with partialRecord := newOctets }) (discardRecord s)) s
  else .fault .malformedRecord

/-- INBOUND_RECORD_DISCARDED (R7, R192): the record's own octets decide whether it is discarded (log entry 11). -/
def execInboundRecordDiscarded (record : List Byte) (s : State) : Answer :=
  if record.length = 20 then running (fun s => takeRecord record (recordTaken s)) s
  else .fault .malformedRecord

/-- FRAME_REPORT (R7 to R10, R192). -/
def execFrameReport (carrier frameIndex flags snrA snrB rslA rslB : Byte) (s : State) : Answer :=
  running (fun s => takeFrameReport carrier frameIndex flags snrA snrB rslA rslB (recordTaken s)) s

/-- SLOT_IN (R11, R116 to R122). -/
def execSlotIn (carrier : Byte) (octets : List Byte) (s : State) : Answer :=
  if octets.length = 16 then running (fun s => takeSlotIn carrier octets (recordTaken s)) s
  else .fault .malformedRecord

/-- SLOT_REQUEST (R11, R108, R112 to R114). -/
def execSlotRequest (carrier : Byte) (s : State) : Answer :=
  running (fun s => takeSlotRequest carrier (recordTaken s)) s

end Sys2Proof.Machine
end

