-- ==== Sys2Proof/Machine/Boundary.lean ====
section
/-! DEFINITION. The boundary (R1) with the work of every block, and the Fade Monitor's work at it (R146 to R148). -/

namespace Sys2Proof.Machine

/-! ### The Fade Monitor -/

/-- A fade opens on a present superframe with f below fade_low (R146). -/
def openFade (c : Carrier) (f : Nat) (s : State) : State :=
  let profile := (s.car c).rac.current
  setWire .fade c true (modCar c (fun k => { k with
    fade := some ⟨s.timebase.superframe - 1, 1, f, profile, profile⟩ }) s)

/-- An open fade counts the superframe, and a present one's f (R147). -/
def OpenFade.count (present : Bool) (f : Nat) (x : OpenFade) : OpenFade :=
  { x with duration := count16 x.duration, minF := if present then min x.minF f else x.minF }

/-- The Fade Monitor's work for a carrier at a boundary, with the estimator's results (R146 to R148). -/
def fadeBoundary (present : Bool) (c : Carrier) (s : State) : State :=
  let k := s.car c
  let f := k.est.f.getD 0
  if s.enabled c then
    match k.fade with
    | none => if present && decide (f < k.sup.inForce.fadeLow) then openFade c f s else s
    | some x =>
      if present && decide (k.sup.inForce.fadeHigh < f) then closeFade .recovered c s
      else modCar c (fun k => { k with fade := some (x.count present f) }) s
  else s

/-! ### The Supervisor's turn -/

/-- A carrier halts by its own test at this boundary, its counts taken. -/
def State.haltsByTest (s : State) (c : Carrier) : Bool := s.lockLost c || s.silenceHalts c || s.seekOver c

/-- The Supervisor's work for one carrier, with the carriers already taken through HALTED entry by their partner
at this boundary: those are done (R138; log entry 17). -/
def superviseOnce (c : Carrier) (x : State × List Carrier) : State × List Carrier :=
  if c ∈ x.2 then x
  else
    let halts := (modSup c Supervisor.counted x.1).haltsByTest c
    (supervise c x.1, if halts && x.1.paired c then partner c :: x.2 else x.2)

/-- The Supervisor's work for the carriers whose place among the blocks is `k`. -/
def superviseAt (place : Carrier → Nat) (k : Nat) (x : State × List Carrier) : State × List Carrier :=
  allCarriers.foldl (fun x c => if place c = k then superviseOnce c x else x) x

/-- The work of the other blocks between two places of the Supervisor. -/
def blockWork (f : State → State) (x : State × List Carrier) : State × List Carrier := (f x.1, x.2)

/-! ### The boundary -/

/-- Which carriers' superframes were present (R26). -/
def State.presence (s : State) : Four Bool := s.carriers.map fun k => k.est.minC.isSome

/-- A carrier at the start of a boundary: its report set is empty (R1), its record is in force (R129). -/
def CarrierState.startBoundary (k : CarrierState) : CarrierState :=
  { k with reports := 0, sup := { k.sup with inForce := k.sup.record } }

/-- The superframe number, the time, the report sets and the values in force begin anew (R1, R129); the Store's work of
this boundary is to be done (R50). -/
def beginSuperframe (s : State) : State :=
  { s with
    timebase := { s.timebase with
      superframe := s.timebase.superframe + 1, sinceBoundary := 0, atBoundary := true }
    carriers := s.carriers.map CarrierState.startBoundary
    tables := { s.tables with effectDue := true }
    choices := s.choices + 1 }

/-- The start of a boundary: the superframe begun, the ridden flags cleared, and the close of the superframe that
ended (R1, R76, R77, R112, R129). -/
def startBoundary (s : State) : State :=
  allCarriers.foldl (fun s c => closeSuperframe c s) (clearRidden (beginSuperframe s))

/-- The estimators' and the Fade Monitor's work (R26 to R36, R146 to R148), the carriers in the order given for the
wires of each (R154). -/
def qualityWork (order : AlarmKind → List Carrier) (present : Four Bool) (s : State) : State :=
  let s := (order .diversity).foldl (fun s c => estimatorBoundary c s) s
  (order .fade).foldl (fun s c => fadeBoundary (present.get c) c s) s

/-- The RACs' decisions (R63). -/
def receiveWork (present : Four Bool) (s : State) : State :=
  allCarriers.foldl (fun s c => racBoundary (present.get c) c s) s

/-- The TACs' work (R100). -/
def transmitWork (s : State) : State := allCarriers.foldl (fun s c => tacBoundary c s) s

/-- One boundary, with the Supervisor's place for each carrier among the other blocks' work given: 0 before the
estimators, 1 before the RACs, 2 before the TACs, 3 before the transfer sender, 4 before the table store, 5 last; and
with the order of the carriers given for the wires of each kind (R154).  The LINK wires only assert at a boundary. -/
def boundaryWith (place : Carrier → Nat) (order : AlarmKind → List Carrier) (s : State) : State :=
  let present := s.presence
  let x := superviseAt place 0 (startBoundary s, [])
  let x := superviseAt place 1 (blockWork (qualityWork order present) x)
  let x := superviseAt place 2 (blockWork (receiveWork present) x)
  let x := superviseAt place 3 (blockWork transmitWork x)
  let x := superviseAt place 4 (blockWork senderBoundary x)
  (superviseAt place 5 (blockWork (applyBoundary (order .mismatch)) x)).1

/-- The Supervisor's place for each carrier at the next boundary, a FREE VALUE (log entry 4). -/
def State.supervisorPlace (s : State) (c : Carrier) : Nat := Config.supervisorPlace (4 * s.choices + c.val) % 6

/-- A boundary (R1). -/
def boundary (s : State) : State := boundaryWith s.supervisorPlace s.wireOrder s

end Sys2Proof.Machine
end

