-- ==== Sys2Proof/Machine/Timebase.lean ====
section
/-! DEFINITION. The Timebase Unit (chapter 1): strobes (R2, R4), the supervision expiry (R3), internal boundaries
(R5), and the passing of time. -/

namespace Sys2Proof.Machine

def modTimebase (f : Timebase → Timebase) (s : State) : State := { s with timebase := f s.timebase }

/-- The time since the last boundary at which the timebase acts of its own: 2×P in EXTERNAL (R3), P in INTERNAL
(R5). -/
def Timebase.due (t : Timebase) : Nat :=
  match t.state with
  | .external => 2 * t.period
  | .internal => t.period

/-- `elapsed` µs pass, at most to the instant at which the timebase acts of its own (log entry 2). -/
def Timebase.advance (elapsed : Nat) (t : Timebase) : Timebase :=
  let moved := min elapsed (t.due - t.sinceBoundary)
  { t with sinceBoundary := t.sinceBoundary + moved, atBoundary := t.atBoundary && moved == 0 }

/-- A glitch: a strobe less than P/2 after the last boundary (R2). -/
def Timebase.glitch (t : Timebase) : Bool := decide (2 * t.sinceBoundary < t.period)

/-- The timebase becomes INTERNAL, with its wire, and gives the first internal boundary (R3). -/
def superviseExpired (s : State) : State :=
  boundary (setTimebaseWire true (modTimebase (fun t => { t with state := .internal }) s))

/-- The strobe returns the state to EXTERNAL, with its wire, and is a boundary (R4). -/
def strobeInternal (s : State) : State :=
  boundary (setTimebaseWire false (modTimebase (fun t => { t with state := .external }) s))

/-- A strobe in the state it finds (R2, R4). -/
def takeStrobe (s : State) : State :=
  match s.timebase.state with
  | .internal => strobeInternal s
  | .external =>
    if s.timebase.glitch then modTimebase (fun t => { t with rejected := count16 t.rejected }) s else boundary s

/-- An internal boundary while RESET is held low (R1, R5): the time counts from the reset, and the number advances.
DESIGN CHOICE (log entry 24): the other blocks hold their reset values until the start-up, and do no work at it. -/
def heldBoundary (s : State) : State :=
  modTimebase (fun t => { t with superframe := t.superframe + 1, sinceBoundary := 0, atBoundary := true }) s

/-- The internal schedule gives a boundary (R5). -/
def internalBoundary (s : State) : State := if s.resetHeld then heldBoundary s else boundary s

/-- The timebase acts of its own when its due instant has been reached (R3, R5, R6). -/
def actWhenDue (s : State) : State :=
  if s.timebase.due ≤ s.timebase.sinceBoundary then
    match s.timebase.state with
    | .external => superviseExpired s
    | .internal => internalBoundary s
  else s

/-- One microsecond passes with no command waiting (log entry 1), unless the due instant has already been reached.
It passes while RESET is held low too: time counts from the reset, which is made when RESET goes low (R5, R189). -/
def tick (s : State) : State :=
  if s.timebase.due ≤ s.timebase.sinceBoundary then actWhenDue s
  else actWhenDue (modTimebase (fun t => { t with sinceBoundary := t.sinceBoundary + 1, atBoundary := false }) s)

/-! ### The commands -/

/-- SFS_STROBE (R2, R4), `elapsed` µs after the clock last moved; while RESET is held low it gives no boundary
(R189). -/
def execSfsStrobe (elapsed : Nat) (s : State) : Answer := running takeStrobe (modTimebase (Timebase.advance elapsed) s)

/-- SUPERVISION_EXPIRY (R3): the clock reaches 2×P in EXTERNAL. -/
def execSupervisionExpiry (s : State) : Answer :=
  running (fun s => if s.timebase.state = .external then superviseExpired s else s) s

/-- INTERNAL_BOUNDARY (R5): the clock reaches P in INTERNAL, while RESET is held low too. -/
def execInternalBoundary (s : State) : Answer :=
  .next (if s.timebase.state = .internal then internalBoundary s else s)

end Sys2Proof.Machine
end

