-- ==== Sys2Proof/Machine/Port.lean ====
section
/-! DEFINITION. The Management Port (chapter 10): the framer (R174, R175), the request queue (R176), service and
replies (R177), and the transmitter (R178). -/

namespace Sys2Proof.Machine

def modPort (f : Port → Port) (s : State) : State := { s with port := f s.port }

/-! ### The framer -/

/-- A valid frame is handed to request handling (R176). -/
def handOn (f : Frame) (p : Port) : Port :=
  if p.queue.length < 4 then { p with queue := p.queue ++ [f] }
  else if p.busy.length < 8 then { p with busy := p.busy ++ [⟨replyKind f.kind, f.tag, [statusBusy]⟩] }
  else { p with requestsDropped := true }

/-- The frame being received is discarded, and counted as bad (R175). -/
def badFrame (p : Port) : Port := { p with framer := Framer.hunting, badFrames := count16 p.badFrames }

/-- The frame a framer holds. -/
def Framer.frame (f : Framer) : Frame := ⟨f.kind.getD 0, f.tag, f.body⟩

/-- The CRC that the framer forms over its LEN, KIND, TAG and BODY (R174). -/
def Framer.crc (f : Framer) : Word16 := crc16 ([f.len, f.kind.getD 0, f.tag] ++ f.body)

/-- An octet without a line error in BODY (R174). -/
def Framer.takeBody (v : Byte) (f : Framer) : Framer :=
  { f with body := f.body ++ [v], state := if f.body.length + 1 < f.len.toNat then .body else .check }

/-- An octet received on RXD, in the state the framer holds (R174, R175).  DESIGN CHOICE (log entry 43): an octet in
LENGTH with a line error that is also above 240 meets two rows of R175, and is counted as the line error. -/
def receiveOctet (p : Port) (o : RxOctet) : Port :=
  let f := p.framer
  match f.state with
  | .hunt =>
    if o.lineError = false ∧ o.value = 0xC5 then { p with framer := { Framer.hunting with state := .length } } else p
  | .length =>
    if o.lineError then badFrame p
    else if o.value.toNat ≤ 240 then { p with framer := { f with len := o.value, state := .header } }
    else { p with framer := Framer.hunting }
  | .header =>
    if o.lineError then badFrame p
    else
      match f.kind with
      | none => { p with framer := { f with kind := some o.value } }
      | some _ => { p with framer := { f with tag := o.value, state := if f.len = 0 then .check else .body } }
  | .body => if o.lineError then badFrame p else { p with framer := f.takeBody o.value }
  | .check =>
    if o.lineError then badFrame p
    else
      match f.crcHigh with
      | none => { p with framer := { f with crcHigh := some o.value } }
      | some high =>
        if [high, o.value] = bytes16 f.crc then handOn f.frame { p with framer := Framer.hunting } else badFrame p

/-- Octets received on RXD, one after the other. -/
def receiveOctets (octets : List RxOctet) : State → State := modPort fun p => octets.foldl receiveOctet p

/-! ### Service -/

/-- A reply goes into the reply buffer (R177); the delayed reply, if there is one, was ready first (R178). -/
def reply (f : Frame) (body : List Byte) : State → State :=
  modPort fun p => { p with reply := some ⟨replyKind f.kind, f.tag, body⟩, delayedFirst := p.delayed.isSome }

/-- A request can be served: the reply buffer is empty, and no RESTART has been served (R177). -/
def Port.mayServe (p : Port) : Bool := p.reply.isNone && !p.restarting

/-- The oldest waiting request, when it can be served. -/
def State.nextRequest (s : State) : Option Frame := if s.port.mayServe then s.port.queue.head? else none

/-- The oldest request leaves the queue. -/
def dequeue : State → State := modPort fun p => { p with queue := p.queue.drop 1 }

/-- Service of the oldest request by the rule that owns its kind, when it is of that kind (R177; log entry 10). -/
def serve (kind : Byte) (take : Frame → State → State) (s : State) : State :=
  match s.nextRequest with
  | none => s
  | some f =>
    if f.kind = kind then
      if lengthFits kind f.body.length then take f (dequeue s) else reply f [statusBadLength] (dequeue s)
    else s

/-! ### The transmitter -/

/-- The transmitter starts to send the reply buffer's frame (R178). -/
def startReply (r : Frame) : State → State :=
  modPort fun p => { p with sending := some r, reply := none, delayedFirst := false }

/-- The transmitter starts to send the delayed reply: the save is over (R178, R186). -/
def startDelayed (d : Frame) (s : State) : State :=
  { s with
    port := { s.port with sending := some d, delayed := none, delayedFirst := false }
    settings := { s.settings with heldReply := none, saveState := .idle } }

/-- The transmitter starts the next frame by the order of R178. -/
def startNext (s : State) : State :=
  match s.port.busy with
  | b :: rest => modPort (fun p => { p with sending := some b, busy := rest }) s
  | [] =>
    match s.port.reply, s.port.delayed with
    | some r, some d => if s.port.delayedFirst then startDelayed d s else startReply r s
    | some r, none => startReply r s
    | none, some d => startDelayed d s
    | none, none =>
      match s.port.notices with
      | n :: rest => modPort (fun p => { p with sending := some (noticeFrame n), notices := rest }) s
      | [] => modPort (fun p => { p with sending := none }) s

/-- The RESTART reply is on TXD: a RESTART has been served, and its reply has left the reply buffer. -/
def Port.restartSent (p : Port) : Bool := p.restarting && p.reply.isNone && p.sending.isSome

/-! ### The commands -/

/-- FRAME_GAP_TIMEOUT (R175): the frame being received is discarded without a count; in HUNT no gap is measured. -/
def execFrameGapTimeout (s : State) : Answer :=
  running (modPort fun p => if p.framer.state = .hunt then p else { p with framer := Framer.hunting }) s

/-- BAD_FRAME (R174, R175): the octets received decide the outcome (log entry 11). -/
def execBadFrame (octets : List RxOctet) (s : State) : Answer := running (receiveOctets octets) s

/-- REQUEST_FRAME (R174 to R176): the octets received decide the outcome (log entry 11). -/
def execRequestFrame (octets : List RxOctet) (s : State) : Answer := running (fun s => receiveOctets octets s) s

/-- UNKNOWN_KIND (R177): the oldest request has a KIND that is not a request kind. -/
def execUnknownKind (s : State) : Answer :=
  running (fun s =>
    match s.nextRequest with
    | none => s
    | some f => if isRequestKind f.kind then s else reply f [statusUnknownKind] (dequeue s)) s

end Sys2Proof.Machine
end

