-- ==== Sys2Proof/Machine/Status.lean ====
section
/-! DEFINITION. The requests that read the part: IDENTIFY, GET_STATUS, GET_STATS, GET_CARRIER, READ_PROFILES,
READ_FADES (R181 to R183, R143, R45, R152), with the octets of their replies (chapter 12, Management frames). -/

namespace Sys2Proof.Machine

/-! ### IDENTIFY -/

/-- Part code 0x0412, revision 2, digest, timebase state (R181). -/
def State.identifyOctets (s : State) : List Byte :=
  [0x04, 0x12, 2] ++ bytes16 s.tables.digest ++ [s.timebase.state.toByte]

/-- IDENTIFY (R181). -/
def execIdentify (s : State) : Answer :=
  running (serve kindIdentify fun f s => reply f (statusOk :: s.identifyOctets) s) s

/-! ### GET_STATUS -/

/-- The ten places in the order of R190. -/
def placesInOrder : List Place := [.t 0, .t 1, .t 2, .t 3, .v 0, .v 1, .v 2, .v 3, .s, .q]

/-- The number of places holding a message, and what each holds (R124, R190). -/
def State.queueOctets (s : State) : List Byte :=
  byteOf s.outQueue.length :: placesInOrder.map fun p => byteOf (((s.messageAt p).map LacMsg.kindCode).getD 0)

/-- The wires of the four carriers of a kind, and its collapsed wire (R158). -/
def State.kindOctets (s : State) (k : AlarmKind) : List Byte :=
  allCarriers.map (fun c => boolByte ((s.car c).wires.get k)) ++ [boolByte (s.collapsedWire k)]

/-- The contents of R158. -/
def State.alarmOctets (s : State) : List Byte :=
  s.kindOctets .fade ++ s.kindOctets .link ++ s.kindOctets .diversity ++ s.kindOctets .mismatch
    ++ [boolByte s.alarms.timebaseWire, boolByte s.alarms.storeWire, boolByte s.alarms.alert]
    ++ bytes16 (s.alarms.noticeEnable.setWidth 16) ++ [s.alarms.alertEnable.setWidth 8]
    ++ [byteOf s.fades.log.length, boolByte s.fades.overrun]

/-- The contents of R172.  DESIGN CHOICE (log entry 39): the N_used of an empty transfer buffer is the octet 0. -/
def State.transferOctets (s : State) : List Byte :=
  let x := s.sender
  let r := s.receiver
  nat16 x.stale ++ nat16 r.stale
    ++ [x.state.toByte, byteOf x.id, byteOf x.buffer.length, byteOf x.next, byteOf x.retry]
    ++ optByte x.wait ++ optional 1 (fun p : ResumePhase => [p.toByte]) x.resume ++ optByte x.last
    ++ [r.state.toByte] ++ optByte r.id ++ [byteOf r.next] ++ optByte r.lastId ++ optByte r.lastResult
    ++ [boolByte r.remoteWrite, boolByte r.remoteApply]

/-- The device-wide state, in the order of R182. -/
def State.statusOctets (s : State) : List Byte :=
  bytes32 s.timebase.superframe ++ [s.timebase.state.toByte] ++ nat16 s.timebase.period ++ nat16 s.timebase.rejected
    ++ nat16 s.modem.discarded
    ++ nat16 s.port.badFrames ++ [boolByte s.port.noticesDropped, boolByte s.port.requestsDropped,
        byteOf s.port.queue.length, byteOf s.port.notices.length]
    ++ allCarriers.map (fun c => (s.link c).toByte)
    ++ s.queueOctets ++ s.alarmOctets ++ s.transferOctets
    ++ [boolByte (!s.settings.storeValid), s.settings.saveState.toByte]

/-- What GET_STATUS clears after its reply is formed (R182). -/
def clearStatus (s : State) : State :=
  { s with
    timebase := { s.timebase with rejected := 0 }
    modem := { s.modem with discarded := 0 }
    sender := { s.sender with stale := 0 }
    receiver := { s.receiver with stale := 0 }
    port := { s.port with badFrames := 0, noticesDropped := false, requestsDropped := false } }

/-- GET_STATUS (R182). -/
def execGetStatus (s : State) : Answer :=
  running (serve kindGetStatus fun f s => clearStatus (reply f (statusOk :: s.statusOctets) s)) s

/-! ### GET_STATS -/

/-- The ten counts of R79, in its order. -/
def RacStats.counts (x : RacStats) : List Nat :=
  [x.accepted, x.repeated, x.replaced, x.ignored, x.refNotActive, x.refMismatch, x.refNoProfile, x.refPairSplit,
   x.disarming, x.unexpected]

/-- The thirteen counts of R106, in its order. -/
def TacStats.counts (x : TacStats) : List Nat :=
  [x.opened, x.switched, x.refNotActive, x.refMismatch, x.refNoProfile, x.refPairSplit, x.timeouts, x.superseded,
   x.timebaseCancels, x.dropped, x.repeatedConfirms, x.late, x.powerSteps]

/-- The twelve counts of R123 and R125, in their order. -/
def LacStats.counts (x : LacStats) : List Nat :=
  [x.sent, x.silent, x.sentClass1, x.sentClass2, x.sentClass3, x.valid, x.invalid, x.halted, x.haltedByReceipt,
   x.unknown, x.breaks, x.pairDisagreements]

/-- The eight counts of R144, in its order. -/
def SupStats.counts (x : SupStats) : List Nat :=
  [x.rendezvous, x.lockLoss, x.silence, x.seekingPeer, x.seekTimeouts, x.partner, x.quietEntries, x.linkUps]

/-- The counts of one part of the GET_STATS reply (R183; chapter 12). -/
def CarrierStats.part (second : Bool) (x : CarrierStats) : List Nat :=
  if second then x.tac.counts ++ x.lac.counts ++ x.sup.counts
  else [x.duplicates] ++ x.occupancy ++ [x.outage] ++ x.rac.counts

/-- GET_STATS for a carrier and part in range (R183). -/
def giveStats (f : Frame) (c : Carrier) (clear second : Bool) (s : State) : State :=
  let s' := reply f (statusOk :: ((s.car c).stats.part second).flatMap nat32) s
  if clear then modStats c (fun _ => CarrierStats.zero) s' else s'

/-- GET_STATS with its arguments (R183). -/
def takeGetStats (f : Frame) (s : State) : State :=
  match carrierOf (natAt f.body 0), boolAt f.body 1, boolAt f.body 2 with
  | some c, some clear, some second => giveStats f c clear second s
  | _, _, _ => reply f [statusBadArgument] s

/-- GET_STATS (R183). -/
def execGetStats (s : State) : Answer := running (serve kindGetStats takeGetStats) s

/-! ### GET_CARRIER -/

def branchOctets (b : BranchValue) : List Byte := [boolByte b.present, byteOf b.snr, byteOfInt b.rsl]

/-- The estimator's state (R38). -/
def Estimator.octets (e : Estimator) : List Byte :=
  [e.selection.toByte, byteOf e.absentA, byteOf e.absentB, boolByte e.branchLost]
    ++ optional 2 nat16 e.f ++ optional 2 int16 e.g ++ optional 2 nat16 e.p
    ++ optional 1 (fun x => [byteOfInt x]) e.rslMin
    ++ [boolByte e.dynamicClip, boolByte e.stickyClip] ++ branchOctets e.lastA ++ branchOctets e.lastB

/-- The RAC's state; an upper carrier's ids are reported as none (R80). -/
def Rac.octets (upper : Bool) (r : Rac) : List Byte :=
  [byteOf r.current]
    ++ optional 3 (fun a : ArmedOrder => [byteOf a.id, byteOf a.target, boolByte a.pair]) r.armed
    ++ optByte (if upper then none else r.lastCancelled) ++ optByte (if upper then none else r.lastSwitched)
    ++ [byteOf r.hold, byteOf r.advice, byteOfInt r.power]
    ++ optByte r.peerHeadroom ++ optByte r.peerAtten ++ optByte r.peerCap ++ [byteOf r.unlocked]

def openOrderOctets (o : OpenOrder) : List Byte :=
  [byteOf o.id, byteOf o.target] ++ bytes32 o.openedAt ++ bytes32 o.effect ++ [boolByte o.pair, boolByte o.armed]

/-- The TAC's state; the next order id is the governing carrier's (R107). -/
def State.tacOctets (s : State) (c : Carrier) : List Byte :=
  let t := (s.car c).tac
  [byteOf t.current, t.state.toByte, byteOf t.backoff] ++ optional 12 openOrderOctets t.order
    ++ [byteOf (s.car (s.gov c)).tac.nextId, byteOf t.target]
    ++ optByte t.latestAdvice ++ optional 1 (fun x => [byteOfInt x]) t.pendingPower
    ++ [byteOf t.atten, byteOf (s.headroom c), byteOf (s.cap c)]

/-- The LAC Controller's records (R124). -/
def Lac.octets (l : Lac) : List Byte :=
  optional 2 bytes16 l.peerDigest ++ optional 1 (fun x : LinkState => [x.toByte]) l.peerState
    ++ optional 1 (fun q : Byte => [q]) l.peerSeq ++ optional 1 (fun b => [boolByte b]) l.peerPair
    ++ [boolByte l.mismatch]

/-- One carrier's whole state, in the order of R143. -/
def State.carrierOctets (s : State) (c : Carrier) : List Byte :=
  let k := s.car c
  recordOctets (s.paired c) k.sup.record
    ++ [k.sup.link.toByte] ++ nat16 k.sup.miss ++ [byteOf k.sup.holdoff] ++ nat16 k.sup.seek
    ++ k.est.octets ++ k.rac.octets (s.isUpper c) ++ s.tacOctets c ++ k.lac.octets
    ++ optional 10 openFadeOctets k.fade

/-- GET_CARRIER with its arguments (R143): the reply clears the sticky clip (R31). -/
def takeGetCarrier (f : Frame) (s : State) : State :=
  match carrierOf (natAt f.body 0) with
  | none => reply f [statusBadArgument] s
  | some c => modEst c (fun e => { e with stickyClip := false }) (reply f (statusOk :: s.carrierOctets c) s)

/-- GET_CARRIER (R143). -/
def execGetCarrier (s : State) : Answer := running (serve kindGetCarrier takeGetCarrier) s

/-! ### READ_PROFILES -/

/-- The places of the table that is read. -/
def State.placesOf (s : State) (pending : Bool) : List (Option Entry) :=
  if pending then s.tables.pending else s.tables.active.map some

/-- Whether start and count name places of a table (R44, R45). -/
def placesInRange (start count : Nat) : Bool := decide (start ≤ 15 ∧ 1 ≤ count ∧ count ≤ 16 ∧ start + count ≤ 16)

/-- The contents of the READ_PROFILES reply (R45; log entry 19). -/
def State.profileOctets (s : State) (pending : Bool) (start count : Nat) : List Byte :=
  [boolByte pending, byteOf start, byteOf count,
   byteOf (if pending then presentPrefix s.tables.pending else s.nUsed),
   s.tables.completeness.toByte, s.tables.owner.toByte]
    ++ optByte (s.tables.scheduled.map List.length)
    ++ (List.range count).flatMap fun i => placeOctets (start + i) ((s.placesOf pending).getD (start + i) none)

/-- READ_PROFILES with its arguments (R45). -/
def takeReadProfiles (f : Frame) (s : State) : State :=
  match pendingAt f.body 0 with
  | none => reply f [statusBadArgument] s
  | some pending =>
    if placesInRange (natAt f.body 1) (natAt f.body 2) then
      reply f (statusOk :: s.profileOctets pending (natAt f.body 1) (natAt f.body 2)) s
    else reply f [statusBadArgument] s

/-- READ_PROFILES (R45). -/
def execReadProfiles (s : State) : Answer := running (serve kindReadProfiles takeReadProfiles) s

/-! ### READ_FADES -/

/-- The contents of the READ_FADES reply (R152; chapter 12). -/
def FadeLog.octets (n : Nat) (l : FadeLog) : List Byte :=
  [boolByte l.overrun, byteOf (l.log.length - n), byteOf (min n l.log.length)]
    ++ (l.log.take n).flatMap fadeRecordOctets

/-- READ_FADES with its arguments (R152). -/
def takeReadFades (f : Frame) (s : State) : State :=
  let n := natAt f.body 0
  if 1 ≤ n ∧ n ≤ 16 then
    { reply f (statusOk :: s.fades.octets n) s with fades := ⟨s.fades.log.drop n, false⟩ }
  else reply f [statusBadArgument] s

/-- READ_FADES (R152). -/
def execReadFades (s : State) : Answer := running (serve kindReadFades takeReadFades) s

end Sys2Proof.Machine
end

