-- ==== Sys2Proof/Machine/Requests.lean ====
section
/-! DEFINITION. The requests that change the part: SET_TIMEBASE (R6), SET_CARRIER and RESTART_CARRIER (R128 to R132,
R142), the profile requests (R44, R47, R57), the transfer requests (R160, R165, R167, R171), SET_NOTICES (R157),
SAVE_SETTINGS (R185) and RESTART (R177). -/

namespace Sys2Proof.Machine

/-! ### SET_TIMEBASE -/

/-- SET_TIMEBASE with its arguments: the new P governs at once (R6). -/
def takeSetTimebase (f : Frame) (s : State) : State :=
  let p := nat16At f.body 0
  if 1000 ≤ p ∧ p ≤ 20000 then
    actWhenDue (modTimebase (fun t => { t with period := p }) (reply f [statusOk] s))
  else reply f [statusBadArgument] s

/-- SET_TIMEBASE (R6), served `elapsed` µs after the clock last moved. -/
def execSetTimebase (elapsed : Nat) (s : State) : Answer :=
  running (serve kindSetTimebase takeSetTimebase) (modTimebase (Timebase.advance elapsed) s)

/-! ### SET_CARRIER and RESTART_CARRIER -/

/-- The pairing of a carrier's position (R130). -/
def setPaired (c : Carrier) (paired : Bool) (s : State) : State :=
  if lowerOf c = 0 then { s with pairedA := paired } else { s with pairedB := paired }

/-- A change of the paired field (R130): the position is paired or not from here on, and the T and V places of both
carriers are empty.  DEDUCED (log entry 38): a REFUSE that R70 put into the V place of a DISABLED carrier is
emptied with them. -/
def changePairing (c : Carrier) (paired : Bool) (s : State) : State :=
  if paired = s.paired c then s else setPaired c paired (clearCarrier (partner c) (clearCarrier c s))

/-- A raised atten_min lifts the attenuation (R103). -/
def raiseFloor (c : Carrier) (s : State) : State :=
  let floor := (s.car c).sup.record.attenMin
  if (s.car c).tac.atten < floor then
    let s' := modTac c (fun t => { t with atten := floor }) s
    if s.enabled c then emit (.setAtten (carrierMask c) floor) s' else s'
  else s

/-- The record's values, and the SELECT_BRANCH that a change to SELECT makes due (R34, R129). -/
def putRecord (c : Carrier) (r : CarrierRecord) (s : State) : State :=
  let due := r.diversity == .select && (s.car c).sup.record.diversity != .select
  modEst c (fun e => { e with selectDue := e.selectDue || due }) (modSup c (fun x => { x with record := r }) s)

/-- An enabled field that differs from the link state makes an entry (R131, R132). -/
def followEnabled (c : Carrier) (s : State) : State :=
  let wanted := (s.car c).sup.record.enabled
  if wanted && !s.enabled c then haltedEntry c .enable s
  else if !wanted && s.enabled c then disabledEntry c s
  else s

/-- An accepted SET_CARRIER, applied as one event (R129 to R132).  DESIGN CHOICE (log entry 37): a raised atten_min
lifts the attenuation, with its SET_ATTEN, before the entry that a changed enabled field makes, with its own
directives (R103, R131). -/
def applyRecord (c : Carrier) (paired : Bool) (r : CarrierRecord) (s : State) : State :=
  followEnabled c (raiseFloor c (putRecord c r (changePairing c paired s)))

/-- Whether a change of pairing must wait (R128). -/
def State.pairingBlocked (s : State) (c : Carrier) (paired : Bool) : Bool :=
  paired != s.paired c && (s.enabled c || s.enabled (partner c))

/-- SET_CARRIER with its arguments (R128). -/
def takeSetCarrier (f : Frame) (s : State) : State :=
  match carrierOf (natAt f.body 0), recordAt f.body 1 with
  | some c, some (paired, r) =>
    if recordInRange r then
      if s.pairingBlocked c paired then reply f [statusNotNow] s
      else reply f [statusOk] (applyRecord c paired r s)
    else reply f [statusBadArgument] s
  | _, _ => reply f [statusBadArgument] s

/-- SET_CARRIER (R128). -/
def execSetCarrier (s : State) : Answer := running (serve kindSetCarrier takeSetCarrier) s

/-- RESTART_CARRIER with its arguments (R142). -/
def takeRestartCarrier (f : Frame) (s : State) : State :=
  match carrierOf (natAt f.body 0) with
  | none => reply f [statusBadArgument] s
  | some c =>
    if s.enabled c then reply f [statusOk] (haltedEntry c .restart s) else reply f [statusNotEnabled] s

/-- RESTART_CARRIER (R142). -/
def execRestartCarrier (s : State) : Answer := running (serve kindRestartCarrier takeRestartCarrier) s

/-! ### Enable sets -/

/-- Change the enable sets of the carriers a carrier mask names (R57). -/
def changeEnables (mask : Nat) (change : BitVec 16 → BitVec 16) : State → State :=
  modTables fun t => { t with
    enableSets := allCarriers.foldl
      (fun sets c => if mask.testBit c.val then sets.set c (change (sets.get c)) else sets) t.enableSets }

/-- Whether a carrier mask names a carrier, and none above 3 (R57). -/
def carrierMaskInRange (mask : Nat) : Bool := decide (1 ≤ mask ∧ mask ≤ 15)

/-- ENABLE_PROFILES with its arguments (R57). -/
def takeEnableProfiles (f : Frame) (s : State) : State :=
  if carrierMaskInRange (natAt f.body 0) then
    reply f [statusOk] (changeEnables (natAt f.body 0) (fun m => m ||| word16At f.body 1) s)
  else reply f [statusBadArgument] s

/-- ENABLE_PROFILES (R57). -/
def execEnableProfiles (s : State) : Answer := running (serve kindEnableProfiles takeEnableProfiles) s

/-- DISABLE_PROFILES with its arguments; the removal of profile 0 is ignored (R57). -/
def takeDisableProfiles (f : Frame) (s : State) : State :=
  if carrierMaskInRange (natAt f.body 0) then
    reply f [statusOk] (changeEnables (natAt f.body 0) (fun m => m &&& (~~~(word16At f.body 1) ||| 1)) s)
  else reply f [statusBadArgument] s

/-- DISABLE_PROFILES (R57). -/
def execDisableProfiles (s : State) : Answer := running (serve kindDisableProfiles takeDisableProfiles) s

/-! ### WRITE_PROFILES and APPLY_TABLE -/

/-- The entries of a WRITE_PROFILES body, with the indices they carry. -/
def entriesAt (b : List Byte) (i : Nat) : Nat → List (Nat × Entry)
  | 0 => []
  | k + 1 => entryAt b i :: entriesAt b (i + 6) k

/-- Whether entries are those of places `i`, `i + 1`, … with fields in range, entry 0 being QPSK 1/2 (R44). -/
def entriesFit (i : Nat) : List (Nat × Entry) → Bool
  | [] => true
  | (j, e) :: rest =>
    j == i && entryInRange e && (i != 0 || (e.modulation == 0 && e.code == 0)) && entriesFit (i + 1) rest

/-- WRITE_PROFILES with its arguments (R44). -/
def takeWriteProfiles (f : Frame) (s : State) : State :=
  let start := natAt f.body 0
  let count := natAt f.body 1
  let given := entriesAt f.body 2 ((f.body.length - 2) / 6)
  if placesInRange start count && given.length == count && entriesFit start given then
    if s.tables.owner = .transfer then reply f [statusBusy] s
    else reply f [statusOk] (modTables (fun t => { t with
      pending := writePlaces t.pending start (given.map Prod.snd), completeness := .complete }) s)
  else reply f [statusBadArgument] s

/-- WRITE_PROFILES (R44). -/
def execWriteProfiles (s : State) : Answer := running (serve kindWriteProfiles takeWriteProfiles) s

/-- APPLY_TABLE with its arguments (R47). -/
def takeApplyTable (f : Frame) (s : State) : State :=
  match s.applyChecks (natAt f.body 0) with
  | .badArgument => reply f [statusBadArgument] s
  | .badTable i => reply f [statusBadTable, byteOf i] s
  | .inUse c => reply f [statusInUse, carrierByte c] s
  | .busy => reply f [statusBusy] s
  | .ok entries => reply f [statusOk] (scheduleApply entries s)

/-- APPLY_TABLE (R47). -/
def execApplyTable (s : State) : Answer := running (serve kindApplyTable takeApplyTable) s

/-! ### Transfers -/

/-- The table PUSH_TABLE sends; none when the Pending Table is not fit to send (R160 check 4). -/
def State.pushSource (s : State) (pending : Bool) : Option (List Entry) :=
  if pending then
    if s.tables.completeness = .complete ∧ 1 ≤ presentPrefix s.tables.pending then
      allPresent (s.tables.pending.take (presentPrefix s.tables.pending))
    else none
  else some s.tables.active

/-- PUSH_TABLE with its arguments (R160). -/
def takePushTable (f : Frame) (s : State) : State :=
  match pendingAt f.body 0 with
  | none => reply f [statusBadArgument] s
  | some pending =>
    if s.sender.state = .idle ∨ s.sender.state = .done then
      if s.anyActive then
        match s.pushSource pending with
        | none => reply f [statusBadArgument] s
        | some table => reply f [statusOk] (startPush table s)
      else reply f [statusNoPeer] s
    else reply f [statusBusy] s

/-- PUSH_TABLE (R160). -/
def execPushTable (s : State) : Answer := running (serve kindPushTable takePushTable) s

/-- The sender's transfer ends with a TABLE_ABORT (R165). -/
def abortPush (s : State) : State :=
  modSender (fun x => { x with state := .idle, last := some outcomeAborted, wait := none, resume := none })
    (placeMessage .s (.tableAbort s.sender.id) s)

/-- ABORT_PUSH with its arguments (R165). -/
def takeAbortPush (f : Frame) (s : State) : State :=
  if s.sender.state = .idle then reply f [statusNotNow] s else reply f [statusOk] (abortPush s)

/-- ABORT_PUSH (R165). -/
def execAbortPush (s : State) : Answer := running (serve kindAbortPush takeAbortPush) s

/-- Both permissions; withdrawing remote_write ends a reception (R167, R171). -/
def setRemote (write apply : Bool) (s : State) : State :=
  let s' := modReceiver (fun x => { x with remoteWrite := write, remoteApply := apply }) s
  match s.receiver.state, s.receiver.id with
  | .receiving, some i => if write then s' else refuseReception i s'
  | _, _ => s'

/-- SET_REMOTE with its arguments (R167). -/
def takeSetRemote (f : Frame) (s : State) : State :=
  match boolAt f.body 0, boolAt f.body 1 with
  | some write, some apply => reply f [statusOk, boolByte write, boolByte apply] (setRemote write apply s)
  | _, _ => reply f [statusBadArgument] s

/-- SET_REMOTE (R167). -/
def execSetRemote (s : State) : Answer := running (serve kindSetRemote takeSetRemote) s

/-! ### SET_NOTICES -/

/-- A set with the members of one mask set and of another clear; the clear mask governs (R157). -/
def changeSet {n : Nat} (old set clear : BitVec n) : BitVec n := (old ||| set) &&& ~~~clear

/-- Both enable sets changed, and ALERT formed again (R157). -/
def setNotices (nSet nClear : BitVec 10) (aSet aClear : BitVec 6) (s : State) : State :=
  formAlert { s with alarms := { s.alarms with
    noticeEnable := changeSet s.alarms.noticeEnable nSet nClear
    alertEnable := changeSet s.alarms.alertEnable aSet aClear } }

/-- Both sets, as the SET_NOTICES reply carries them. -/
def State.enableOctets (s : State) : List Byte :=
  bytes16 (s.alarms.noticeEnable.setWidth 16) ++ [s.alarms.alertEnable.setWidth 8]

/-- SET_NOTICES with its arguments (R157). -/
def takeSetNotices (f : Frame) (s : State) : State :=
  let b := f.body
  if nat16At b 0 < 1024 ∧ nat16At b 2 < 1024 ∧ natAt b 4 < 64 ∧ natAt b 5 < 64 then
    let s' := setNotices (BitVec.ofNat 10 (nat16At b 0)) (BitVec.ofNat 10 (nat16At b 2))
      (BitVec.ofNat 6 (natAt b 4)) (BitVec.ofNat 6 (natAt b 5)) s
    reply f (statusOk :: s'.enableOctets) s'
  else reply f [statusBadArgument] s

/-- SET_NOTICES (R157). -/
def execSetNotices (s : State) : Answer := running (serve kindSetNotices takeSetNotices) s

/-! ### SAVE_SETTINGS and RESTART -/

/-- The settings as they stand (R184, R185). -/
def State.image (s : State) : Image :=
  { active := s.tables.active, records := s.carriers.map fun k => k.sup.record
    pairedA := s.pairedA, pairedB := s.pairedB, enableSets := s.tables.enableSets
    noticeEnable := s.alarms.noticeEnable, alertEnable := s.alarms.alertEnable
    remoteWrite := s.receiver.remoteWrite, remoteApply := s.receiver.remoteApply }

def modSettings (f : Settings → Settings) (s : State) : State := { s with settings := f s.settings }

/-- SAVE_SETTINGS: the save starts, its reply held, or is refused (R185). -/
def takeSaveSettings (f : Frame) (s : State) : State :=
  if s.settings.saveState = .idle then
    modSettings (fun x => { x with saveState := .writing, heldReply := some f.tag, writing := imageOctets s.image }) s
  else reply f [statusBusy] s

/-- SAVE_SETTINGS (R185). -/
def execSaveSettings (s : State) : Answer := running (serve kindSaveSettings takeSaveSettings) s

/-- RESTART: its OK reply, after which no request is served (R177). -/
def takeRestart (f : Frame) (s : State) : State :=
  modPort (fun p => { p with restarting := true }) (reply f [statusOk] s)

/-- RESTART (R177). -/
def execRestart (s : State) : Answer := running (serve kindRestart takeRestart) s

end Sys2Proof.Machine
end

