-- ==== Sys2Proof/Machine/Resets.lean ====
section
/-! DEFINITION. The end of a save (R186), the resets (R187, R189) and the start-up (R188), and the commands that may
make a RESTART take effect. -/

namespace Sys2Proof.Machine

/-! ### The end of a save -/

/-- The status of a held reply (R186). -/
def saveStatus (good : Bool) : Byte := if good then statusOk else statusStoreFailed

/-- What nonvolatile memory holds after a write (R186): the image, or, when the read-back differs, no intact image, so
that a power-on reset loads the factory settings until a later save succeeds.  DESIGN CHOICE (log entry 42): so also
where what reads back is itself an intact and valid image, which R187 alone would load. -/
def nvmAfterWrite (good : Bool) (readBack : List Byte) : List Byte := if good then readBack else []

/-- The write has ended, and nonvolatile memory reads back as `readBack` (R186).  The held reply becomes the delayed
reply; a reply already in the reply buffer was ready first (R178). -/
def endWrite (readBack : List Byte) (tag : Byte) (s : State) : State :=
  let good := readBack == s.settings.writing
  let s := modSettings (fun x => { x with nvm := nvmAfterWrite good readBack, storeValid := good, saveState := .replying }) s
  modPort (fun p => { p with
    delayed := some ⟨replyKind kindSaveSettings, tag, [saveStatus good]⟩, delayedFirst := false })
    (setStoreWire (!good) s)

/-- SAVE_WRITE_END (R186), in WRITING. -/
def execSaveWriteEnd (readBack : List Byte) (s : State) : Answer :=
  running (fun s =>
    match s.settings.saveState, s.settings.heldReply with
    | .writing, some tag => endWrite readBack tag s
    | _, _ => s) s

/-! ### Reset values -/

/-- The line rate of the straps (R173; Introduction, Pins). -/
def Straps.rate (p : Straps) : LineRate :=
  match p.br1, p.br0 with
  | false, false => .r19200
  | false, true => .r57600
  | true, false => .r115200
  | true, true => .r460800

/-- The tables after a reset: the Pending Table a copy of the Active Table, no apply scheduled (R43, R51). -/
def TableStore.afterReset (active : List Entry) (enableSets : Four (BitVec 16)) : TableStore :=
  { active, digest := digestOf active, pending := pendingCopy active, completeness := .complete, owner := .host
    scheduled := none, enableSets, effectDue := false }

/-- No wire asserted, no collapsed wire, ALERT released (R153, R155). -/
def Alarms.afterReset (noticeEnable : BitVec 10) (alertEnable : BitVec 6) : Alarms :=
  { timebaseWire := false, storeWire := false, collapsed := 0, alert := false, noticeEnable, alertEnable }

/-- The port after a reset; its bad-frame count and flags are given (R180). -/
def Port.afterReset (rate : LineRate) (badFrames : Nat) (noticesDropped requestsDropped : Bool) : Port :=
  { lineRate := rate, framer := Framer.hunting, queue := [], busy := [], reply := none, delayed := none
    delayedFirst := false, sending := none, notices := [], badFrames, noticesDropped, requestsDropped
    restarting := false }

/-- The timebase after a reset (chapter 1, The Timebase Unit). -/
def Timebase.afterReset (period rejected : Nat) : Timebase :=
  { state := .internal, superframe := 0, sinceBoundary := 0, period, rejected, atBoundary := false }

/-! ### The start-up -/

/-- Whether an enabled carrier makes a start-up entry of its own: the upper carrier of a pair goes with its enabled
lower carrier (R188). -/
def State.startsItself (s : State) (c : Carrier) : Bool :=
  s.enabled c && !(s.isUpper c && s.enabled (lowerOf c))

/-- The start-up entries in increasing carrier number (R188 step 3). -/
def startCarriers (s : State) : State :=
  allCarriers.foldl (fun s c => if s.startsItself c then haltedEntry c .startUp s else s) s

/-- The start-up (R188). -/
def startUp (s : State) : State :=
  let s := setTimebaseWire true s
  let s := if s.settings.storeValid then s else setStoreWire true s
  startCarriers s

/-! ### Power-on reset -/

/-- A carrier as a power-on reset leaves it, from its record. -/
def CarrierState.powerOn (r : CarrierRecord) : CarrierState := CarrierState.afterReset r CarrierStats.zero

/-- Every block at its power-on values with the settings of `i` (R187). -/
def powerOnWith (i : Image) (valid : Bool) (nvm : List Byte) (s : State) : State :=
  { timebase := Timebase.afterReset 4000 0
    modem := { discarded := 0, partialRecord := [], outbound := [] }
    carriers := i.records.map CarrierState.powerOn
    pairedA := i.pairedA, pairedB := i.pairedB
    tables := TableStore.afterReset i.active i.enableSets
    outQueue := []
    sender := Sender.afterReset 0
    receiver := Receiver.afterReset i.remoteWrite i.remoteApply 0
    alarms := Alarms.afterReset i.noticeEnable i.alertEnable
    fades := { log := [], overrun := false }
    port := Port.afterReset s.straps.rate 0 false false
    settings := { nvm, storeValid := valid, saveState := .idle, heldReply := none, writing := [] }
    resetHeld := false
    straps := s.straps
    choices := s.choices
    pending := s.pending }

/-- What nonvolatile memory holds when power returns: a write under way left no intact image (log entry 8). -/
def State.nvmAtReset (s : State) : List Byte := if s.settings.saveState = .writing then [] else s.settings.nvm

/-- POWER_ON_RESET (R187, R188). -/
def powerOn (s : State) : State :=
  match readImage s.nvmAtReset with
  | some i => startUp (powerOnWith i true s.nvmAtReset s)
  | none => startUp (powerOnWith factoryImage false s.nvmAtReset s)

/-- POWER_ON_RESET, in every state. -/
def execPowerOnReset (s : State) : Answer := .next (powerOn s)

/-! ### Line reset and RESTART -/

/-- A carrier's open fade enters the log with ended-by RESET, without a notice (R150). -/
def closeFadeAtReset (c : Carrier) (s : State) : State :=
  match (s.car c).fade with
  | none => s
  | some f => { s with fades := s.fades.append ⟨c, f, .reset⟩ }

/-- A save in progress is abandoned (R189). -/
def abandonSave (x : Settings) : Settings :=
  { nvm := if x.saveState = .writing then [] else x.nvm
    storeValid := x.storeValid && x.saveState != .writing
    saveState := .idle, heldReply := none, writing := [] }

/-- Every block at its values for line reset and RESTART, with what R189 keeps. -/
def blockReset (s : State) : State :=
  { timebase := Timebase.afterReset s.timebase.period s.timebase.rejected
    modem := { discarded := s.modem.discarded, partialRecord := [], outbound := [] }
    carriers := s.carriers.map fun k => CarrierState.afterReset k.sup.record k.stats
    pairedA := s.pairedA, pairedB := s.pairedB
    tables := TableStore.afterReset s.tables.active s.tables.enableSets
    outQueue := []
    sender := Sender.afterReset s.sender.stale
    receiver := Receiver.afterReset s.receiver.remoteWrite s.receiver.remoteApply s.receiver.stale
    alarms := Alarms.afterReset s.alarms.noticeEnable s.alarms.alertEnable
    fades := s.fades
    port := Port.afterReset s.straps.rate s.port.badFrames s.port.noticesDropped s.port.requestsDropped
    settings := abandonSave s.settings
    resetHeld := s.resetHeld
    straps := s.straps
    choices := s.choices
    pending := s.pending }

/-- Fades close first, the save is abandoned, and the blocks take their reset values (R189, R150). -/
def resetBlocks (s : State) : State :=
  blockReset (allCarriers.foldl (fun s c => closeFadeAtReset c s) s)

/-- The part resets as for a line reset and starts up at once (R189, R188). -/
def restartEffect (s : State) : State := startUp (resetBlocks s)

/-- LINE_RESET (R189): RESET goes low; while it is already low nothing changes. -/
def execLineReset (s : State) : Answer := running (fun s => { resetBlocks s with resetHeld := true }) s

/-- RESET_RELEASE (R188): RESET returns high, and the part makes its start-up. -/
def execResetRelease (s : State) : Answer :=
  .next (if s.resetHeld then startUp { s with resetHeld := false } else s)

/-- RESTART_TAKES_EFFECT (R177, R189): the last octet of the RESTART reply has been sent. -/
def execRestartTakesEffect (s : State) : Answer :=
  running (fun s => if s.port.restartSent then restartEffect s else s) s

/-- FRAME_TRANSMIT (R178): the transmitter is idle or has sent a frame, and starts the next; after the RESTART reply
the restart takes effect (R177; log entry 25). -/
def execFrameTransmit (s : State) : Answer :=
  running (fun s => if s.port.restartSent then restartEffect s else startNext s) s

end Sys2Proof.Machine
end

