-- ==== Sys2Proof/Machine/Dispatch.lean ====
section
/-! DEFINITION. The meaning of every command: one arm per constructor of Instr. -/

namespace Sys2Proof.Machine

def exec (i : Instr) (s : State) : Host.Outcome State Fault Refusal :=
  match i with
  | .powerOnReset => Sys2Proof.Machine.execPowerOnReset s
  | .lineReset => Sys2Proof.Machine.execLineReset s
  | .resetRelease => Sys2Proof.Machine.execResetRelease s
  | .restartTakesEffect => Sys2Proof.Machine.execRestartTakesEffect s
  | .sfsStrobe elapsed => Sys2Proof.Machine.execSfsStrobe elapsed s
  | .supervisionExpiry => Sys2Proof.Machine.execSupervisionExpiry s
  | .internalBoundary => Sys2Proof.Machine.execInternalBoundary s
  | .branchLoss c => Sys2Proof.Machine.execBranchLoss c s
  | .backoffExpiry c => Sys2Proof.Machine.execBackoffExpiry c s
  | .orderDeadline c => Sys2Proof.Machine.execOrderDeadline c s
  | .armTx c => Sys2Proof.Machine.execArmTx c s
  | .orderSwitch c => Sys2Proof.Machine.execOrderSwitch c s
  | .applyEffect => Sys2Proof.Machine.execApplyEffect s
  | .quietEntry c => Sys2Proof.Machine.execQuietEntry c s
  | .lockLossHalt c => Sys2Proof.Machine.execLockLossHalt c s
  | .silenceHalt c => Sys2Proof.Machine.execSilenceHalt c s
  | .holdoffExpiry c => Sys2Proof.Machine.execHoldoffExpiry c s
  | .seekTimeout c => Sys2Proof.Machine.execSeekTimeout c s
  | .ackWaitExpiry => Sys2Proof.Machine.execAckWaitExpiry s
  | .recordCutShort newOctets => Sys2Proof.Machine.execRecordCutShort newOctets s
  | .inboundRecordDiscarded record => Sys2Proof.Machine.execInboundRecordDiscarded record s
  | .frameReport carrier frameIndex flags snrA snrB rslA rslB => Sys2Proof.Machine.execFrameReport carrier frameIndex flags snrA snrB rslA rslB s
  | .slotIn carrier octets => Sys2Proof.Machine.execSlotIn carrier octets s
  | .slotRequest carrier => Sys2Proof.Machine.execSlotRequest carrier s
  | .frameGapTimeout => Sys2Proof.Machine.execFrameGapTimeout s
  | .badFrame octets => Sys2Proof.Machine.execBadFrame octets s
  | .requestFrame octets => Sys2Proof.Machine.execRequestFrame octets s
  | .unknownKind => Sys2Proof.Machine.execUnknownKind s
  | .frameTransmit => Sys2Proof.Machine.execFrameTransmit s
  | .identify => Sys2Proof.Machine.execIdentify s
  | .getStatus => Sys2Proof.Machine.execGetStatus s
  | .getStats => Sys2Proof.Machine.execGetStats s
  | .setTimebase elapsed => Sys2Proof.Machine.execSetTimebase elapsed s
  | .getCarrier => Sys2Proof.Machine.execGetCarrier s
  | .setCarrier => Sys2Proof.Machine.execSetCarrier s
  | .restartCarrier => Sys2Proof.Machine.execRestartCarrier s
  | .enableProfiles => Sys2Proof.Machine.execEnableProfiles s
  | .disableProfiles => Sys2Proof.Machine.execDisableProfiles s
  | .writeProfiles => Sys2Proof.Machine.execWriteProfiles s
  | .readProfiles => Sys2Proof.Machine.execReadProfiles s
  | .applyTable => Sys2Proof.Machine.execApplyTable s
  | .pushTable => Sys2Proof.Machine.execPushTable s
  | .abortPush => Sys2Proof.Machine.execAbortPush s
  | .setRemote => Sys2Proof.Machine.execSetRemote s
  | .readFades => Sys2Proof.Machine.execReadFades s
  | .setNotices => Sys2Proof.Machine.execSetNotices s
  | .saveSettings => Sys2Proof.Machine.execSaveSettings s
  | .saveWriteEnd readBack => Sys2Proof.Machine.execSaveWriteEnd readBack s
  | .restart => Sys2Proof.Machine.execRestart s

end Sys2Proof.Machine
end

