-- ==== Sys2Proof/Safety.lean ====
section
/-! DEFINITION. What counts as a lawful state: the laws of the part (laws 1, 2, 4, 6 to 12 of the manual), with the
facts they lean on, each a property of one state that every step should keep. -/

namespace Sys2Proof.Machine

/-! ### The LAC Out Queue (law 6, R110) -/

/-- The messages a place may hold: those of its role, and for a carrier's place those that name that carrier. -/
def Place.holds (p : Place) (m : LacMsg) : Bool :=
  match p, m with
  | .t c, .order d _ _ _ => d == c
  | .t c, .cancel d _ _ => d == c
  | .v c, .confirm d _ _ => d == c
  | .v c, .refuse d _ _ => d == c
  | .s, .tableEntry _ _ _ => true
  | .s, .tableEnd _ _ _ => true
  | .s, .tableAbort _ => true
  | .q, .tableAck _ _ => true
  | .q, .tableResult _ _ => true
  | _, _ => false

/-- Each place holds at most one message, of its own role. -/
def QueueLaw (s : State) : Prop :=
  (s.outQueue.map Placed.place).Nodup ∧ ∀ m ∈ s.outQueue, m.place.holds m.msg = true

/-! ### Bounded queues (law 7, R151, R176, R179) -/

/-- At most 32 fade records, four requests, eight BUSY answers and eight notices. -/
def BoundsLaw (s : State) : Prop :=
  s.fades.log.length ≤ 32 ∧ s.port.queue.length ≤ 4 ∧ s.port.busy.length ≤ 8 ∧ s.port.notices.length ≤ 8

/-! ### Alarm wires (R153 to R155) -/

/-- The conditions of R153's table hold exactly while their wires are asserted. -/
def CarrierState.wiresFollow (k : CarrierState) : Prop :=
  k.wires.fade = k.fade.isSome ∧ k.wires.diversity = k.est.branchLost ∧ k.wires.mismatch = k.lac.mismatch ∧
    k.wires.link = (k.sup.link == .halted || k.sup.link == .seeking || k.sup.link == .quiet)

/-- A carrier while RESET is held low: no wire, no fade, no branch lost, no mismatch, HALTED or DISABLED. -/
def CarrierState.quietAtReset (k : CarrierState) : Prop :=
  k.wires = CarrierWires.clear ∧ k.fade = none ∧ k.est.branchLost = false ∧ k.lac.mismatch = false ∧
    (k.sup.link = .halted ∨ k.sup.link = .disabled)

/-- The collapsed wires and ALERT follow the wires, and the wires follow the part's conditions. -/
def AlarmLaw (s : State) : Prop :=
  (∀ k : AlarmKind, s.collapsedWire k = s.wireOr k) ∧
  s.alarms.alert = (!s.resetHeld && s.alarms.collapsed &&& s.alarms.alertEnable != 0) ∧
  (if s.resetHeld then
    s.alarms.timebaseWire = false ∧ s.alarms.storeWire = false ∧ s.timebase.state = .internal ∧
      ∀ c : Carrier, (s.car c).quietAtReset
  else
    s.alarms.timebaseWire = (s.timebase.state == .internal) ∧ s.alarms.storeWire = !s.settings.storeValid ∧
      ∀ c : Carrier, (s.car c).wiresFollow)

/-! ### The estimator (law 1) -/

/-- A carrier's accumulators and filter values lie within their ranges. -/
def Estimator.bounded (e : Estimator) : Prop :=
  (∀ x ∈ e.minC, x ≤ 255) ∧ (∀ x ∈ e.f, x ≤ 1020) ∧ (∀ x ∈ e.p, x ≤ 1020) ∧
    (∀ x ∈ e.g, -1020 ≤ x ∧ x ≤ 1020)

/-- Law 1: every carrier's f and p lie within 0..1020 and its g within −1020..1020. -/
def EstimatorLaw (s : State) : Prop := ∀ c : Carrier, (s.car c).est.bounded

/-! ### Configuration and attenuation (R126, law 8) -/

/-- Every record, as set and as in force, is one that SET_CARRIER would accept. -/
def RecordLaw (s : State) : Prop :=
  ∀ c : Carrier, recordInRange (s.car c).sup.record = true ∧ recordInRange (s.car c).sup.inForce = true

/-- Law 8: each carrier's attenuation stays within its atten_min..30 dB. -/
def AttenuationLaw (s : State) : Prop :=
  RecordLaw s ∧ ∀ c : Carrier, (s.car c).sup.record.attenMin ≤ (s.car c).tac.atten ∧ (s.car c).tac.atten ≤ 30

/-! ### Orders (laws 2, 4, 9, 10) -/

/-- What holds of one carrier's order, given its link state and pairing: an open order is held exactly in ORDERED
and COMMITTED, and a carrier that is out of service is at base with nothing open and nothing armed (law 10). -/
def CarrierState.orderly (paired inService : Bool) (k : CarrierState) : Prop :=
  k.tac.order.isSome = k.tac.isOpen ∧ (∀ o ∈ k.tac.order, o.pair = paired) ∧
    (inService = false →
      k.tac.state = .steady ∧ k.tac.current = 0 ∧ k.rac.current = 0 ∧ k.rac.armed = none ∧ k.rac.advice = 0)

/-- The two carriers of a pair share one order and one TX current profile (laws 2 and 4). -/
def State.pairAgrees (s : State) (c : Carrier) : Prop :=
  (s.car c).tac.state = (s.car (partner c)).tac.state ∧ (s.car c).tac.order = (s.car (partner c)).tac.order ∧
    (s.car c).tac.current = (s.car (partner c)).tac.current

/-- Laws 2, 4, 9 and 10. -/
def OrderLaw (s : State) : Prop :=
  ∀ c : Carrier, (s.car c).orderly (s.paired c) (s.inService c) ∧ (s.paired c = true → s.pairAgrees c) ∧
    (s.timebase.state = .internal → (s.car c).tac.isOpen = false)

/-! ### Advice (law 11) -/

/-- Law 11: the advice never exceeds the RX current profile plus the up_step in force; out of service both are 0 and
nothing is armed. -/
def AdviceLaw (s : State) : Prop :=
  ∀ c : Carrier, (s.car c).rac.advice ≤ (s.car c).rac.current + (s.govInForce c).upStep ∧
    (s.inService c = false →
      (s.car c).rac.current = 0 ∧ (s.car c).rac.advice = 0 ∧ (s.car c).rac.armed = none)

/-! ### Tables (R40, R41, R53, law 12) -/

/-- A table that may be in service: N_used 1..16, fields in range, valid by R41, entry 0 QPSK 1/2. -/
def tableInService (t : List Entry) : Bool := imageTableValid t

/-- The Active Table is valid and its digest is its own; a scheduled apply holds a valid table, and the Store has done its
work of the last boundary; the Pending Table has sixteen places with fields in range and a base entry 0. -/
def TableLaw (s : State) : Prop :=
  tableInService s.tables.active = true ∧ s.tables.digest = digestOf s.tables.active ∧
  (∀ t ∈ s.tables.scheduled, tableInService t = true) ∧ s.tables.effectDue = false ∧
  s.tables.pending.length = 16 ∧ (∀ e, some e ∈ s.tables.pending → entryInRange e = true) ∧
  (∀ e, s.tables.pending.head? = some (some e) → e.modulation = 0 ∧ e.code = 0)

/-- Every profile that a context uses is below `n`. -/
def CarrierState.profilesBelow (n : Nat) (k : CarrierState) : Prop :=
  k.tac.current < n ∧ k.rac.current < n ∧ (∀ o ∈ k.tac.order, o.target < n) ∧ (∀ a ∈ k.rac.armed, a.target < n) ∧
    k.tac.order.isSome = k.tac.isOpen

/-- Law 12: every current, armed and open-order target profile is below the Active Table's N_used. -/
def ProfileLaw (s : State) : Prop := TableLaw s ∧ ∀ c : Carrier, (s.car c).profilesBelow s.nUsed

/-! ### Transfers and saves -/

/-- The Pending Table is owned by TRANSFER exactly while a reception runs (R46, R167 to R171), and the sender's
counts stay in their ranges (chapter 9, The sender). -/
def TransferLaw (s : State) : Prop :=
  (s.receiver.state = .receiving ↔ s.tables.owner = .transfer) ∧
  (s.receiver.state = .receiving ↔ s.receiver.id.isSome = true) ∧
  (s.tables.owner = .transfer → s.tables.completeness = .incomplete) ∧
  s.sender.retry ≤ 16 ∧ (∀ w ∈ s.sender.wait, w ≤ 8) ∧ s.sender.id ≤ 255

/-- A save in progress has a held reply, and its delayed reply is ready exactly in REPLYING (R185, R186). -/
def SaveLaw (s : State) : Prop :=
  (s.settings.saveState = .idle ↔ s.settings.heldReply = none) ∧
  (s.settings.saveState = .replying ↔ s.port.delayed.isSome = true)

/-! ### Time -/

/-- P is one that SET_TIMEBASE accepts, and the clock has not passed the instant at which the timebase acts. -/
def TimeLaw (s : State) : Prop :=
  1000 ≤ s.timebase.period ∧ s.timebase.period ≤ 20000 ∧ s.timebase.sinceBoundary ≤ s.timebase.due

/-! ### Terms of the statements about one command -/

/-- The oldest waiting request is `f`, and can be served: the reply buffer is empty, no RESTART has been served, and
RESET is high (R177). -/
def Waiting (s : State) (f : Frame) (rest : List Frame) : Prop :=
  s.resetHeld = false ∧ s.port.reply = none ∧ s.port.restarting = false ∧ s.port.queue = f :: rest

/-- The port after the service of `f`: the request has left the queue, and its reply is in the reply buffer with its
TAG and its KIND plus or minus 0x80 (R177).  A delayed reply already waiting was ready first (R178). -/
def State.answered (s : State) (f : Frame) (rest : List Frame) (body : List Byte) : Port :=
  { s.port with
    queue := rest, reply := some ⟨f.kind ^^^ 0x80, f.tag, body⟩, delayedFirst := s.port.delayed.isSome }

/-- A port that differs from `p` in its notice queue and its notices-dropped flag alone. -/
def Port.sameButNotices (p q : Port) : Prop :=
  q = { p with notices := q.notices, noticesDropped := q.noticesDropped }

/-- The carriers other than `c` are as before. -/
def OthersSame (c : Carrier) (s t : State) : Prop := ∀ d : Carrier, d ≠ c → t.car d = s.car d

/-- The parts of the device that a carrier's change of link state does not reach are as before: everything but the
carriers, the Out Queue, the outbound records, the wires, the Fade Log, the sender and the port. -/
def DeviceSame (s t : State) : Prop :=
  t = { s with
    carriers := t.carriers, modem := { s.modem with outbound := t.modem.outbound }, outQueue := t.outQueue
    sender := t.sender, fades := t.fades, port := t.port
    alarms := { s.alarms with collapsed := t.alarms.collapsed, alert := t.alarms.alert } }

/-- The estimator after HALTED entry (R19). -/
def EstimatorHalted (e e' : Estimator) : Prop :=
  e' = { e with f := none, g := none, p := none, rslMin := none, dynamicClip := false }

/-- The RAC after HALTED or DISABLED entry (R61). -/
def RacHalted (r r' : Rac) : Prop :=
  r' = { r with
    current := 0, armed := none, lastCancelled := none, lastSwitched := none, hold := 0, advice := 0, power := 0
    peerHeadroom := none, peerAtten := none, peerCap := none, unlocked := 0 }

/-- The TAC after HALTED or DISABLED entry (R83). -/
def TacHalted (attenMin : Nat) (t t' : Tac) : Prop :=
  t' = { t with
    current := 0, order := none, state := .steady, backoff := 0, target := 0, latestAdvice := none
    pendingPower := none, atten := attenMin }

/-- What HALTED entry makes of one carrier, whose T_hold is `tHold` (R137): the contexts at base, the holdoff begun,
the LINK wire asserted, the fade closed, the Supervisor's counts `x`, an open order counted as dropped at a carrier that
is not `upper` of a pair (R83, R106); its record, its peer records, its report set and its other counts are kept. -/
def CarrierHalted (tHold : Nat) (upper : Bool) (x : SupStats) (k k' : CarrierState) : Prop :=
  EstimatorHalted k.est k'.est ∧ RacHalted k.rac k'.rac ∧ TacHalted k.sup.record.attenMin k.tac k'.tac ∧
    k'.lac = k.lac ∧ k'.sup = { k.sup with link := .halted, miss := 0, seek := 0, holdoff := tHold } ∧
    k'.fade = none ∧ k'.wires = { k.wires with link := true, fade := k.wires.fade && k.fade.isNone } ∧
    k'.reports = k.reports ∧
    k'.stats = { k.stats with
      tac := { k.stats.tac with
        dropped := if k.tac.order ≠ none ∧ upper = false then min (k.stats.tac.dropped + 1) 4294967295
          else k.stats.tac.dropped }
      sup := x }

/-- What DISABLED entry makes of one carrier (R131, and R19, R61, R83, R122, R141): as HALTED entry, but for the link
state, the holdoff, the wires, the estimator and the peer records; no cause and no rendezvous is counted. -/
def CarrierDisabled (upper : Bool) (k k' : CarrierState) : Prop :=
  k'.est = { k.est with
      absentA := 0, absentB := 0, branchLost := false, minC := none, minRsl := none, minA := none, minB := none
      clipSeen := false, f := none, g := none, p := none, rslMin := none, dynamicClip := false
      lastA := ⟨false, 0, 0⟩, lastB := ⟨false, 0, 0⟩ } ∧
    RacHalted k.rac k'.rac ∧ TacHalted k.sup.record.attenMin k.tac k'.tac ∧ k'.lac = ⟨none, none, none, none, false⟩ ∧
    k'.sup = { k.sup with link := .disabled, miss := 0, seek := 0, holdoff := 0 } ∧ k'.fade = none ∧
    k'.wires = ⟨k.wires.fade && k.fade.isNone, false, false, false⟩ ∧ k'.reports = k.reports ∧
    k'.stats = { k.stats with
      tac := { k.stats.tac with
        dropped := if k.tac.order ≠ none ∧ upper = false then min (k.stats.tac.dropped + 1) 4294967295
          else k.stats.tac.dropped } }

/-- The Out Queue without what the T and V places of a carrier held (R110). -/
def withoutCarrier (c : Carrier) (q : List Placed) : List Placed :=
  q.filter fun m => m.place != .t c && m.place != .v c

/-- The Out Queue after a place has taken a message: the place's old message is gone, and the new one is the newest
(R111). -/
def queueWith (p : Place) (m : LacMsg) (q : List Placed) : List Placed :=
  q.filter (fun x => x.place != p) ++ [⟨p, m, false⟩]

/-- The sender and the Out Queue of `t` after a change of link state at `s`, `q` being the queue before the sender acts
(R164): with no carrier ACTIVE a transfer pauses, its S place emptied and its phase kept; with one ACTIVE a PAUSED
transfer goes on in its phase and places that phase's message; else both are as they were; a FAILED
sender stays FAILED (log entry 47). -/
def SenderFollows (q : List Placed) (s t : State) : Prop :=
  ((∀ c : Carrier, t.link c ≠ .active) → s.sender.state = .sending ∨ s.sender.state = .awaitingResult →
    t.sender = { s.sender with
      state := .paused, wait := none
      resume := some (if s.sender.state = .sending then .sending else .awaitingResult) } ∧
    t.outQueue = q.filter fun m => m.place != .s) ∧
  ((∀ c : Carrier, t.link c ≠ .active) → s.sender.state ≠ .sending → s.sender.state ≠ .awaitingResult →
    t.sender = s.sender ∧ t.outQueue = q) ∧
  ((∃ c : Carrier, t.link c = .active) →
    (s.sender.state ≠ .paused ∨ s.sender.resume = none → t.sender = s.sender ∧ t.outQueue = q) ∧
    (s.sender.state = .paused → s.sender.resume = some .sending →
      t.sender = { s.sender with state := .sending, resume := none } ∧
      t.outQueue = queueWith .s (.tableEntry s.sender.id s.sender.next
        (s.sender.buffer.getD s.sender.next ⟨0, 0, 0, 0⟩)) q) ∧
    (s.sender.state = .paused → s.sender.resume = some .awaitingResult →
      t.sender = { s.sender with state := .awaitingResult, resume := none } ∧
      t.outQueue = queueWith .s (.tableEnd s.sender.id s.sender.buffer.length (transferCheck s.sender.buffer)) q))

/-- The carriers that an entry of `c` takes: with its partner when they are a pair and the partner is not DISABLED
(R131, R138). -/
def TakesPartner (s : State) (c : Carrier) : Prop := s.paired c = true ∧ s.link (partner c) ≠ .disabled

/-- The records issued at an entry (R137 step 3): FORCE_BASE, and SET_ATTEN to each carrier's atten_min, for `c` alone
or for both carriers of its pair, the lower's SET_ATTEN first (DESIGN CHOICE, log entry 45: R137 names no order). -/
def entryRecords (pair : Bool) (s : State) (c : Carrier) : List Directive :=
  let atten (d : Carrier) : Directive := .setAtten (carrierMask d) (s.car d).sup.record.attenMin
  if pair then [.forceBase (carrierMask (lowerOf c) ||| carrierMask (upperOf c)), atten (lowerOf c), atten (upperOf c)]
  else [.forceBase (carrierMask c), atten c]

/-- The Fade Log after the open fades of some carriers have closed in order, each with its ended-by (R149, R150). -/
def fadesClosed (xs : List (Carrier × EndedBy)) (s : State) : FadeLog :=
  xs.foldl (fun l x => ((s.car x.1).fade.map fun f => l.append ⟨x.1, f, x.2⟩).getD l) s.fades

/-- The Supervisor's counts after HALTED entry with cause partner (R137, R138). -/
def SupStats.partnerHalted (x : SupStats) : SupStats :=
  { x with rendezvous := min (x.rendezvous + 1) 4294967295, partner := min (x.partner + 1) 4294967295 }

/-- HALTED entry of carrier `c`, its Supervisor's counts `x` after it (R110, R137, R138, R149, R164).  Of a pair, with
the partner not DISABLED, both carriers halt in the same event, the other with cause partner, and FORCE_BASE names both;
the T and V places of both are emptied, DISABLED or not.  Nothing else of the part changes but the collapsed wires,
ALERT and the port. -/
def Halted (c : Carrier) (x : SupStats) (s t : State) : Prop :=
  CarrierHalted (s.govRecord c).tHold (s.isUpper c) x (s.car c) (t.car c) ∧ DeviceSame s t ∧
  SenderFollows (if s.paired c then withoutCarrier (partner c) (withoutCarrier c s.outQueue)
    else withoutCarrier c s.outQueue) s t ∧
  (TakesPartner s c →
    CarrierHalted (s.govRecord c).tHold (s.isUpper (partner c)) (s.car (partner c)).stats.sup.partnerHalted
      (s.car (partner c)) (t.car (partner c)) ∧
    (∀ d : Carrier, d ≠ c → d ≠ partner c → t.car d = s.car d) ∧
    t.modem.outbound = s.modem.outbound ++ entryRecords true s c ∧
    t.fades = fadesClosed [(lowerOf c, .halted), (upperOf c, .halted)] s) ∧
  (¬ TakesPartner s c →
    OthersSame c s t ∧ t.modem.outbound = s.modem.outbound ++ entryRecords false s c ∧
    t.fades = fadesClosed [(c, .halted)] s)

/-- DISABLED entry of carrier `c` (R110, R131, R149, R164): as `Halted`, but that `c` becomes DISABLED, its own fade is
ended by DISABLED, and the places of a DISABLED partner are kept.  It draws a free value for the order of the LINK wires
of a pair (R154; log entry 46). -/
def Disabled (c : Carrier) (s t : State) : Prop :=
  CarrierDisabled (s.isUpper c) (s.car c) (t.car c) ∧ DeviceSame (drawn s) t ∧
  (TakesPartner s c →
    SenderFollows (withoutCarrier (partner c) (withoutCarrier c s.outQueue)) s t ∧
    CarrierHalted (s.govRecord c).tHold (s.isUpper (partner c)) (s.car (partner c)).stats.sup.partnerHalted
      (s.car (partner c)) (t.car (partner c)) ∧
    (∀ d : Carrier, d ≠ c → d ≠ partner c → t.car d = s.car d) ∧
    t.modem.outbound = s.modem.outbound ++ entryRecords true s c ∧
    t.fades = fadesClosed (if c = lowerOf c then [(c, .disabled), (partner c, .halted)]
      else [(partner c, .halted), (c, .disabled)]) s) ∧
  (¬ TakesPartner s c →
    SenderFollows (withoutCarrier c s.outQueue) s t ∧
    OthersSame c s t ∧ t.modem.outbound = s.modem.outbound ++ entryRecords false s c ∧
    t.fades = fadesClosed [(c, .disabled)] s)

/-- The carriers after the TAC of `c`, which is no upper carrier, has closed its order with the order statistics `x`:
its partner in a pair, when enabled, holds copies of the order state and the open order (R86). -/
def OrderClosed (c : Carrier) (st : OrderState) (backoff : Nat) (x : TacStats) (s t : State) : Prop :=
  t.car c = { s.car c with
    tac := { (s.car c).tac with order := none, state := st, backoff }
    stats := { (s.car c).stats with tac := x } } ∧
  (∀ d : Carrier, d ≠ c → s.paired c = true → d = partner c → s.link d ≠ .disabled →
    t.car d = { s.car d with tac := { (s.car d).tac with order := none, state := st } }) ∧
  (∀ d : Carrier, d ≠ c → s.paired c = false ∨ d ≠ partner c ∨ s.link d = .disabled → t.car d = s.car d)

/-- The port after a notice: placed when its enable is set (R156); when the queue has room, at its end, else by the
rules of R179 for a full queue. -/
def Noticed (n : Notice) (s : State) (p : Port) : Prop :=
  s.port.sameButNotices p ∧
  (s.alarms.noticeEnable.getLsbD n.bit = false → p = s.port) ∧
  (s.alarms.noticeEnable.getLsbD n.bit = true →
    (s.port.notices.length < 8 → p = { s.port with notices := s.port.notices ++ [n] }) ∧
    (8 ≤ s.port.notices.length → p = enqueueNotice n s.port))

/-- What follows when a wire of a kind has been set at `u` (R154, R155): its collapsed wire is asserted exactly while
one of its wires is; a change of it places ALARM and forms ALERT anew; nothing else changes. -/
def WireFormed (k : AlarmKind) (u t : State) : Prop :=
  t = { u with
    port := t.port, alarms := { u.alarms with collapsed := t.alarms.collapsed, alert := t.alarms.alert } } ∧
  (∀ j : AlarmKind, t.collapsedWire j = if j = k then u.wireOr k else u.collapsedWire j) ∧
  (u.wireOr k = u.collapsedWire k → t = u) ∧
  (u.wireOr k ≠ u.collapsedWire k →
    Noticed (.alarm k (u.wireOr k)) u t.port ∧
    (t.alarms.alert = true ↔
      u.resetHeld = false ∧ ∃ j : AlarmKind, t.collapsedWire j = true ∧ u.alarms.alertEnable.getLsbD j.index = true))

/-- What every boundary makes of the device: the number advances, the time and the report sets begin anew, the records
come into force (R1, R129); what no block changes at a boundary stays.  The blocks do their work at it, with the
Supervisor's turn for each carrier at one of the six places among them (log entry 4) and the carriers in some order for
the wires of each kind (R154; log entry 46), on the part as it stands but for
the timebase, the TIMEBASE wire and what follows it. -/
def BoundaryTaken (s t : State) : Prop :=
  t.timebase.superframe = s.timebase.superframe + 1 ∧ t.timebase.sinceBoundary = 0 ∧
    t.timebase.period = s.timebase.period ∧ t.timebase.rejected = s.timebase.rejected ∧
    (∀ c : Carrier, (t.car c).reports = 0 ∧ (t.car c).sup.record = (s.car c).sup.record ∧
      (t.car c).sup.inForce = (s.car c).sup.record) ∧
    (∀ m ∈ t.outQueue, m.ridden = false) ∧
    t.receiver = s.receiver ∧ t.settings = s.settings ∧ t.straps = s.straps ∧ t.resetHeld = s.resetHeld ∧
    t.pairedA = s.pairedA ∧ t.pairedB = s.pairedB ∧ t.pending = s.pending ∧
    t.tables.pending = s.tables.pending ∧ t.tables.owner = s.tables.owner ∧
    t.tables.completeness = s.tables.completeness ∧ t.tables.enableSets = s.tables.enableSets ∧
    t.modem.discarded = s.modem.discarded ∧ s.port.sameButNotices t.port ∧
    ∃ (place : Carrier → Nat) (order : AlarmKind → List Carrier) (u : State),
      (∀ c, place c < 6) ∧ (∀ k, (order k).Perm allCarriers) ∧ t = boundaryWith place order u ∧
      u = { s with
        timebase := u.timebase, port := u.port
        alarms := { s.alarms with
          timebaseWire := u.alarms.timebaseWire, collapsed := u.alarms.collapsed, alert := u.alarms.alert } } ∧
      u.timebase.superframe = s.timebase.superframe ∧ s.port.sameButNotices u.port

/-- No test of the Supervisor is met by carrier `c`: no lock loss, no silence, no end of a holdoff or of a seek (R134,
R135, R139, R140). -/
def NoTestMet (s : State) (c : Carrier) : Prop :=
  (s.inService c = true → (s.car c).rac.unlocked < (s.govInForce c).kLock) ∧
  (s.link c = .active → (s.car c).sup.miss < (s.govInForce c).w1) ∧
  (s.link c = .quiet → (s.car c).sup.miss < (s.govInForce c).w2) ∧
  (s.link c = .halted → 0 < (s.car c).sup.holdoff) ∧ (s.link c = .seeking → 0 < (s.car c).sup.seek)

end Sys2Proof.Machine
end

