-- ==== Sys2Proof/WellFormed.lean ====
section
/-! DEFINITION. Which command terms a link can carry: the fixed lengths of the Modem Link's records
(spec/12_record_and_frame_layouts.md, Modem Link records). -/

namespace Sys2Proof

/-- A SLOT_IN brings sixteen octets, a whole record has twenty, a record cut short has fewer than twenty. -/
def Instr.wellFormed (i : Instr) : Bool :=
  match i with
  | .slotIn _ octets => octets.length == 16
  | .inboundRecordDiscarded record => record.length == 20
  | .recordCutShort newOctets => decide (newOctets.length < 20)
  | .powerOnReset => true
  | .lineReset => true
  | .resetRelease => true
  | .restartTakesEffect => true
  | .sfsStrobe _ => true
  | .supervisionExpiry => true
  | .internalBoundary => true
  | .branchLoss _ => true
  | .backoffExpiry _ => true
  | .orderDeadline _ => true
  | .armTx _ => true
  | .orderSwitch _ => true
  | .applyEffect => true
  | .quietEntry _ => true
  | .lockLossHalt _ => true
  | .silenceHalt _ => true
  | .holdoffExpiry _ => true
  | .seekTimeout _ => true
  | .ackWaitExpiry => true
  | .frameReport _ _ _ _ _ _ _ => true
  | .slotRequest _ => true
  | .frameGapTimeout => true
  | .badFrame _ => true
  | .requestFrame _ => true
  | .unknownKind => true
  | .frameTransmit => true
  | .identify => true
  | .getStatus => true
  | .getStats => true
  | .setTimebase _ => true
  | .getCarrier => true
  | .setCarrier => true
  | .restartCarrier => true
  | .enableProfiles => true
  | .disableProfiles => true
  | .writeProfiles => true
  | .readProfiles => true
  | .applyTable => true
  | .pushTable => true
  | .abortPush => true
  | .setRemote => true
  | .readFades => true
  | .setNotices => true
  | .saveSettings => true
  | .saveWriteEnd _ => true
  | .restart => true

end Sys2Proof
end

