-- ==== Sys2Proof/Certificates/Slice0/Obligations.lean ====
section
/-! DEFINITION. The statements for the provers. -/

open Sys2Proof Sys2Proof.Machine

/-! ### The step and the whole machine -/

/-- A step takes the command at the front of the queue and runs it with the queue's rest (the model's, log 1). -/
def Obligations.StepRunsFrontCommand : Prop :=
  ∀ (s : State) (i : Instr) (rest : List Instr), s.pending = i :: rest →
    step s = exec i { s with pending := rest }

/-- With no command waiting a step lets one microsecond pass, while RESET is held low too (the model's choices, logs 1
and 24).  When the due instant is then reached, or had been, INTERNAL gives the internal boundary of R5 and in EXTERNAL
the supervision of R3 expires; while RESET is held low the number alone advances (log 24). -/
def Obligations.IdleStepPassesTime : Prop :=
  ∀ s : State, s.pending = [] →
    (s.timebase.sinceBoundary + 1 < s.timebase.due →
      step s = .next { s with timebase := { s.timebase with
        sinceBoundary := s.timebase.sinceBoundary + 1, atBoundary := false } }) ∧
    (s.timebase.due ≤ s.timebase.sinceBoundary + 1 →
      (s.resetHeld = false → ∃ t, step s = .next t ∧ BoundaryTaken s t ∧ t.timebase.state = .internal) ∧
      (s.resetHeld = true → s.timebase.state = .internal → step s = .next { s with timebase := { s.timebase with
        superframe := s.timebase.superframe + 1, sinceBoundary := 0, atBoundary := true } }))

/-- The reset state is lawful. -/
def Obligations.ResetIsLawful : Prop :=
  QueueLaw State.reset ∧ BoundsLaw State.reset ∧ AlarmLaw State.reset ∧ EstimatorLaw State.reset ∧
    AttenuationLaw State.reset ∧ OrderLaw State.reset ∧ AdviceLaw State.reset ∧ ProfileLaw State.reset ∧
    TransferLaw State.reset ∧ SaveLaw State.reset ∧ TimeLaw State.reset

/-- Every command that a link can carry ends in a next state, in every state.  While RESET is held low every command but
POWER_ON_RESET and RESET_RELEASE leaves the part as it is (R189 for octets, records and strobes; the model's choice for
the others, log 24), but for time: the operands of SFS_STROBE and SET_TIMEBASE move the clock, and INTERNAL_BOUNDARY
advances the number alone (R5 counts from the reset; log 24). -/
def Obligations.CommandsCompleteAndHeldPartWaits : Prop :=
  (∀ (s : State) (i : Instr), i.wellFormed = true → ∃ t, exec i s = .next t) ∧
  (∀ (s : State) (i : Instr), s.resetHeld = true → i.wellFormed = true → i ≠ .powerOnReset → i ≠ .resetRelease →
     i ≠ .internalBoundary → (∀ e, i ≠ .sfsStrobe e) → (∀ e, i ≠ .setTimebase e) → exec i s = .next s) ∧
  (∀ (s : State) (elapsed : Nat), s.resetHeld = true → s.timebase.sinceBoundary + elapsed ≤ s.timebase.due →
     exec (.sfsStrobe elapsed) s = exec (.setTimebase elapsed) s ∧
     exec (.sfsStrobe elapsed) s = .next { s with timebase := { s.timebase with
       sinceBoundary := s.timebase.sinceBoundary + elapsed
       atBoundary := s.timebase.atBoundary && elapsed == 0 } }) ∧
  (∀ s : State, s.resetHeld = true →
     (s.timebase.state = .internal → exec .internalBoundary s = .next { s with timebase := { s.timebase with
       superframe := s.timebase.superframe + 1, sinceBoundary := 0, atBoundary := true } }) ∧
     (s.timebase.state = .external → exec .internalBoundary s = .next s))

/-- Every step keeps law 6 of the Out Queue, law 7 of the Fade Log, and the bounds of the port's queues. -/
def Obligations.StepKeepsQueueLaws : Prop :=
  ∀ s t : State, QueueLaw s → BoundsLaw s → step s = .next t → QueueLaw t ∧ BoundsLaw t ∧ t.outQueue.length ≤ 10

/-- Every step keeps the collapsed wires and ALERT formed from the wires, and the wires from the conditions. -/
def Obligations.StepKeepsAlarmLaw : Prop :=
  ∀ s t : State, AlarmLaw s → step s = .next t → AlarmLaw t

/-- Every step keeps law 1 (f and p within 0..1020, g within −1020..1020), law 8 (each attenuation within
atten_min..30, with the records in range) and law 11 (no advice above the RX current profile plus up_step). -/
def Obligations.StepKeepsRangeLaws : Prop :=
  ∀ s t : State, step s = .next t →
    (EstimatorLaw s → EstimatorLaw t) ∧ (AttenuationLaw s → AttenuationLaw t) ∧ (AdviceLaw s → AdviceLaw t)

/-- Every step keeps laws 2, 4, 9 and 10 of orders. -/
def Obligations.StepKeepsOrderLaw : Prop :=
  ∀ s t : State, OrderLaw s → step s = .next t → OrderLaw t

/-- Law 3: over a step from a lawful state a TX current profile changes only to the target of an order that was
COMMITTED, at that order's boundary E, or to profile 0 with the carrier HALTED or DISABLED (R94). -/
def Obligations.TransmitProfileChangesOnlyAtTheSwitch : Prop :=
  ∀ (s t : State) (c : Carrier), OrderLaw s → step s = .next t → (t.car c).tac.current ≠ (s.car c).tac.current →
    ((t.car c).tac.current = 0 ∧ (t.link c = .halted ∨ t.link c = .disabled)) ∨
    (∃ o, (s.car c).tac.order = some o ∧ (s.car c).tac.state = .committed ∧
      o.effect = t.timebase.superframe ∧ (t.car c).tac.current = o.target)

/-- Law 5: over a step a CONFIRM enters the Out Queue only when the command is a slot whose optional part is an ORDER
of the same carrier, id and target, and that carrier's RAC then holds it as its armed order (R71). -/
def Obligations.ConfirmAnswersAnAcceptedOrder : Prop :=
  ∀ (s t : State) (m : Placed) (c : Carrier) (id target : Nat), step s = .next t → m ∈ t.outQueue →
    m.msg = .confirm c id target → (∀ y ∈ s.outQueue, y.place = m.place → y.msg ≠ m.msg) →
    ∃ (i : Instr) (rest : List Instr) (d : Carrier) (octets pad : List Byte) (x : Slot) (pair : Bool),
      s.pending = i :: rest ∧
      (i = .slotIn (carrierByte d) octets ∨ i = .inboundRecordDiscarded (0x02 :: carrierByte d :: octets ++ pad)) ∧
      decodeSlot d octets = some x ∧ x.part = .message (.order c id target pair) ∧
      (∃ a, (t.car c).rac.armed = some a ∧ a.id = id ∧ a.target = target) ∧ m.place = .v c

/-- Every step keeps law 12: every profile in use below N_used, with a valid Active Table and its digest. -/
def Obligations.StepKeepsProfileLaw : Prop :=
  ∀ s t : State, ProfileLaw s → step s = .next t → ProfileLaw t

/-- Every step keeps the ownership of the Pending Table, the bounds of the sender, the save state and the clock. -/
def Obligations.StepKeepsBookkeeping : Prop :=
  ∀ s t : State, TransferLaw s → SaveLaw s → TimeLaw s → step s = .next t →
    TransferLaw t ∧ SaveLaw t ∧ TimeLaw t

/-! ### Encodings -/

/-- The octets of a frame, received without a line error by a hunting framer, hand on exactly that frame: into the
request queue, or as a BUSY answer, or dropped (R173, R174, R176). -/
def Obligations.FrameOctetsHandOnTheFrame : Prop :=
  ∀ (s : State) (f : Frame), s.resetHeld = false → s.port.framer.state = .hunt → f.body.length ≤ 240 →
    ∃ p : Port,
      exec (.requestFrame ((frameOctets f).map fun b => ⟨b, false⟩)) s = .next { s with port := p } ∧
      (s.port.queue.length < 4 →
        p = { s.port with framer := p.framer, queue := s.port.queue ++ [f] }) ∧
      (4 ≤ s.port.queue.length → s.port.busy.length < 8 →
        p = { s.port with framer := p.framer, busy := s.port.busy ++ [⟨f.kind ^^^ 0x80, f.tag, [0x04]⟩] }) ∧
      (4 ≤ s.port.queue.length → 8 ≤ s.port.busy.length →
        p = { s.port with framer := p.framer, requestsDropped := true }) ∧
      p.framer.state = .hunt

/-- A slot built from a header in range and a message in range has the octets of chapter 12 (version 1, R108; the message
octets filled with 0) and CRC-8 over the first fifteen, and decodes to that header and that message (R191). -/
def Obligations.SlotDecodesToItsContents : Prop :=
  ∀ (h : SlotHeader) (m : Option LacMsg),
    (h.link = .seeking ∨ h.link = .active ∨ h.link = .quiet) → h.advice < 16 → h.cap < 16 → h.atten < 256 →
    h.headroom < 256 → -1 ≤ h.power → h.power ≤ 3 →
    (∀ x ∈ m, match x with
      | .confirm _ id profile => id < 16 ∧ profile < 256
      | .refuse _ id reason => id < 16 ∧ reason < 256
      | .cancel _ id _ => id < 16
      | .tableAbort t => t < 256
      | .order _ id profile _ => id < 16 ∧ profile < 256
      | .tableEntry t i e => t < 256 ∧ i < 16 ∧ entryInRange e = true
      | .tableAck t n => t < 256 ∧ n < 256
      | .tableEnd t n _ => t < 256 ∧ n < 256
      | .tableResult t o => t < 256 ∧ o < 256) →
    (slotOctets h m).length = 16 ∧ slotOctets h m = (slotOctets h m).take 15 ++ [crc8 ((slotOctets h m).take 15)] ∧
    (slotOctets h m).take 15 =
      [byteOf (16 + h.link.toByte.toNat), byteOf (16 * h.carrier.val + if h.pair then 1 else 0), h.seq,
        byteOf (16 * h.advice + h.cap), byteOfInt h.power, byteOf h.atten, byteOf h.headroom,
        h.digest.extractLsb' 8 8, h.digest.extractLsb' 0 8]
      ++ (match m with
        | none => [0, 0, 0, 0, 0, 0]
        | some (.confirm c id profile) => [byteOf (0x10 + id), carrierByte c, byteOf profile, 0, 0, 0]
        | some (.refuse c id reason) => [byteOf (0x20 + id), carrierByte c, byteOf reason, 0, 0, 0]
        | some (.cancel c id pair) => [byteOf (0x30 + id), carrierByte c, boolByte pair, 0, 0, 0]
        | some (.tableAbort t) => [0x40, byteOf t, 0, 0, 0, 0]
        | some (.order c id profile pair) => [byteOf (0x50 + id), carrierByte c, byteOf profile, boolByte pair, 0, 0]
        | some (.tableEntry t i e) =>
          [byteOf (0x60 + e.code), byteOf t, byteOf (16 * i + e.modulation), byteOf (e.thr / 256), byteOf e.thr,
            byteOf e.hyst]
        | some (.tableAck t n) => [0x70, byteOf t, byteOf n, 0, 0, 0]
        | some (.tableEnd t n check) =>
          [0x80, byteOf t, byteOf n, check.extractLsb' 8 8, check.extractLsb' 0 8, 0]
        | some (.tableResult t outcome) => [0x90, byteOf t, byteOf outcome, 0, 0, 0]) ∧
    decodeSlot h.carrier (slotOctets h m) = some
      { link := h.link, pair := h.pair, seq := h.seq, advice := h.advice, power := h.power, cap := h.cap,
        atten := h.atten, headroom := h.headroom, digest := h.digest,
        part := match m with
          | none => .empty
          | some x => .message x }

/-- A settings image written from lawful settings is read back as the same settings (R184; the octets are the model's,
log 7). -/
def Obligations.ImageReadsBackItsSettings : Prop :=
  ∀ i : Image, imageTableValid i.active = true → (∀ c : Carrier, recordInRange (i.records.get c) = true) →
    (∀ c : Carrier, (i.enableSets.get c).getLsbD 0 = true) → readImage (imageOctets i) = some i

/-! ### Requests that read the part -/

/-- IDENTIFY replies OK with the part code 0x0412, the revision 2, the digest and the timebase state, and changes
nothing else (R181). -/
def Obligations.IdentifyReports : Prop :=
  ∀ (s : State) (f : Frame) (rest : List Frame), Waiting s f rest → f.kind = 0x01 → f.body = [] →
    exec .identify s = .next { s with
      port := s.answered f rest [0x00, 0x04, 0x12, 0x02, s.tables.digest.extractLsb' 8 8,
        s.tables.digest.extractLsb' 0 8, if s.timebase.state = .external then 0 else 1] }

/-- GET_STATUS replies with the device-wide state in the order of R182, and clears the seven counts and flags it
names, and nothing else (R124, R158, R172, R182).  The requests waiting exclude the one served (log 18), the resume
phase has the code of its sender state and the sender's stale count comes first (log 19), and the N_used of an empty
buffer is 0 (log 39). -/
def Obligations.GetStatusReportsAndClears : Prop :=
  ∀ (s : State) (f : Frame) (rest : List Frame), Waiting s f rest → f.kind = 0x02 → f.body = [] →
    ∃ body : List Byte,
      exec .getStatus s = .next { s with
        timebase := { s.timebase with rejected := 0 }
        modem := { s.modem with discarded := 0 }
        sender := { s.sender with stale := 0 }
        receiver := { s.receiver with stale := 0 }
        port := { s.answered f rest body with badFrames := 0, noticesDropped := false, requestsDropped := false } } ∧
      body = ([0x00] : List Byte) ++ bytes32 s.timebase.superframe
        ++ [if s.timebase.state = .external then (0 : Byte) else 1]
        ++ nat16 s.timebase.period ++ nat16 s.timebase.rejected ++ nat16 s.modem.discarded ++ nat16 s.port.badFrames
        ++ [boolByte s.port.noticesDropped, boolByte s.port.requestsDropped, byteOf rest.length,
            byteOf s.port.notices.length]
        ++ [(s.link 0).toByte, (s.link 1).toByte, (s.link 2).toByte, (s.link 3).toByte]
        ++ byteOf s.outQueue.length :: ([.t 0, .t 1, .t 2, .t 3, .v 0, .v 1, .v 2, .v 3, .s, .q].map
            fun p : Place => byteOf (((s.messageAt p).map LacMsg.kindCode).getD 0))
        ++ ([.fade, .link, .diversity, .mismatch].flatMap fun k : AlarmKind =>
            [boolByte ((s.car 0).wires.get k), boolByte ((s.car 1).wires.get k), boolByte ((s.car 2).wires.get k),
             boolByte ((s.car 3).wires.get k), boolByte (s.collapsedWire k)])
        ++ [boolByte s.alarms.timebaseWire, boolByte s.alarms.storeWire, boolByte s.alarms.alert]
        ++ bytes16 (s.alarms.noticeEnable.setWidth 16) ++ [s.alarms.alertEnable.setWidth 8]
        ++ [byteOf s.fades.log.length, boolByte s.fades.overrun]
        ++ nat16 s.sender.stale ++ nat16 s.receiver.stale
        ++ [s.sender.state.toByte, byteOf s.sender.id, byteOf s.sender.buffer.length, byteOf s.sender.next,
            byteOf s.sender.retry]
        ++ optByte s.sender.wait ++ optional 1 (fun p : ResumePhase => [p.toByte]) s.sender.resume
        ++ optByte s.sender.last
        ++ [s.receiver.state.toByte] ++ optByte s.receiver.id ++ [byteOf s.receiver.next]
        ++ optByte s.receiver.lastId ++ optByte s.receiver.lastResult
        ++ [boolByte s.receiver.remoteWrite, boolByte s.receiver.remoteApply]
        ++ [if s.settings.storeValid then (0 : Byte) else 1, s.settings.saveState.toByte]

/-- GET_STATS replies with the counts of the part asked for in the order of chapter 12, four octets each; with clear 1 every count of the carrier
is then 0, whichever part was asked for, and with clear 0 nothing changes (R183).  A body of two octets asks for part
0.  A carrier, clear or part out of range is BAD_ARGUMENT. -/
def Obligations.GetStatsReportsAndClears : Prop :=
  ∀ (s : State) (f : Frame) (rest : List Frame) (c : Carrier) (x : CarrierStats), Waiting s f rest → f.kind = 0x03 →
    x = (s.car c).stats →
    (∀ clear second : Bool,
      f.body = [carrierByte c, boolByte clear, boolByte second] ∨
        (second = false ∧ f.body = [carrierByte c, boolByte clear]) →
      exec .getStats s = .next { s with
        port := s.answered f rest (0x00 :: (if second then
            [x.tac.opened, x.tac.switched, x.tac.refNotActive, x.tac.refMismatch, x.tac.refNoProfile,
              x.tac.refPairSplit, x.tac.timeouts, x.tac.superseded, x.tac.timebaseCancels, x.tac.dropped,
              x.tac.repeatedConfirms, x.tac.late, x.tac.powerSteps]
            ++ [x.lac.sent, x.lac.silent, x.lac.sentClass1, x.lac.sentClass2, x.lac.sentClass3, x.lac.valid,
              x.lac.invalid, x.lac.halted, x.lac.haltedByReceipt, x.lac.unknown, x.lac.breaks, x.lac.pairDisagreements]
            ++ [x.sup.rendezvous, x.sup.lockLoss, x.sup.silence, x.sup.seekingPeer, x.sup.seekTimeouts, x.sup.partner,
              x.sup.quietEntries, x.sup.linkUps]
          else [x.duplicates] ++ x.occupancy ++ [x.outage]
            ++ [x.rac.accepted, x.rac.repeated, x.rac.replaced, x.rac.ignored, x.rac.refNotActive, x.rac.refMismatch,
              x.rac.refNoProfile, x.rac.refPairSplit, x.rac.disarming, x.rac.unexpected]).flatMap fun n =>
          [byteOf (n / 16777216), byteOf (n / 65536), byteOf (n / 256), byteOf n])
        carriers := if clear then s.carriers.set c { s.car c with stats := CarrierStats.zero } else s.carriers }) ∧
    (∀ a b d : Byte, f.body = [a, b, d] ∨ (d = 0 ∧ f.body = [a, b]) →
      4 ≤ a.toNat ∨ 2 ≤ b.toNat ∨ 2 ≤ d.toNat →
      exec .getStats s = .next { s with port := s.answered f rest [0x03] })

/-- GET_CARRIER replies with the carrier's record, its supervisor's, estimator's, RAC's, TAC's and LAC Controller's state
and its open fade in the order of R143 (R38, R80, R107, R124), the ids of an upper carrier's RAC as none, its next order id
the lower carrier's, and clears its sticky clip alone (R31); READ_PROFILES replies with the places asked for and changes nothing (R45).  Arguments out of
range are BAD_ARGUMENT.  The octets of a place, of the scheduled N_used and of the last branch values (presence, SNR,
RSL), and those before any report, are the model's (log 19). -/
def Obligations.CarrierAndProfileReads : Prop :=
  ∀ (s : State) (f : Frame) (rest : List Frame), Waiting s f rest →
    (∀ (c : Carrier) (k : CarrierState) (r : CarrierRecord), f.kind = 0x05 → f.body = [carrierByte c] → k = s.car c →
      r = k.sup.record →
      exec .getCarrier s = .next { s with
        port := s.answered f rest ([0x00]
          ++ [boolByte r.enabled, boolByte (s.paired c), r.diversity.toByte, byteOf r.selHyst, byteOf r.divLost,
              byteOf r.releaseShift, byteOf r.lead, byteOf r.margin, byteOf r.upHold, byteOf r.upStep,
              byteOf r.ceiling, r.adapt.toByte, byteOf r.fixedProfile, byteOf r.attenMin, byteOfInt r.rslLo,
              byteOfInt r.rslHi]
          ++ nat16 r.fadeLow ++ nat16 r.fadeHigh ++ [byteOf r.w1, byteOf r.w2, byteOf r.kLock, byteOf r.tHold]
          ++ nat16 r.tSeek
          ++ [k.sup.link.toByte] ++ nat16 k.sup.miss ++ [byteOf k.sup.holdoff] ++ nat16 k.sup.seek
          ++ [k.est.selection.toByte, byteOf k.est.absentA, byteOf k.est.absentB, boolByte k.est.branchLost]
          ++ optional 2 nat16 k.est.f ++ optional 2 int16 k.est.g ++ optional 2 nat16 k.est.p
          ++ optional 1 (fun rsl => [byteOfInt rsl]) k.est.rslMin
          ++ [boolByte k.est.dynamicClip, boolByte k.est.stickyClip,
              boolByte k.est.lastA.present, byteOf k.est.lastA.snr, byteOfInt k.est.lastA.rsl,
              boolByte k.est.lastB.present, byteOf k.est.lastB.snr, byteOfInt k.est.lastB.rsl]
          ++ [byteOf k.rac.current]
          ++ optional 3 (fun a : ArmedOrder => [byteOf a.id, byteOf a.target, boolByte a.pair]) k.rac.armed
          ++ (if s.isUpper c then [0, 0, 0, 0] else optByte k.rac.lastCancelled ++ optByte k.rac.lastSwitched)
          ++ [byteOf k.rac.hold, byteOf k.rac.advice, byteOfInt k.rac.power]
          ++ optByte k.rac.peerHeadroom ++ optByte k.rac.peerAtten ++ optByte k.rac.peerCap ++ [byteOf k.rac.unlocked]
          ++ [byteOf k.tac.current, k.tac.state.toByte, byteOf k.tac.backoff]
          ++ optional 12 (fun o : OpenOrder => [byteOf o.id, byteOf o.target] ++ bytes32 o.openedAt
              ++ bytes32 o.effect ++ [boolByte o.pair, boolByte o.armed]) k.tac.order
          ++ [byteOf (s.car (if s.isUpper c then lowerOf c else c)).tac.nextId, byteOf k.tac.target]
          ++ optByte k.tac.latestAdvice ++ optional 1 (fun power => [byteOfInt power]) k.tac.pendingPower
          ++ [byteOf k.tac.atten, byteOf (k.tac.atten - r.attenMin), byteOf (s.cap c)]
          ++ optional 2 bytes16 k.lac.peerDigest ++ optional 1 (fun x : LinkState => [x.toByte]) k.lac.peerState
          ++ optional 1 (fun q : Byte => [q]) k.lac.peerSeq ++ optional 1 (fun b => [boolByte b]) k.lac.peerPair
          ++ [boolByte k.lac.mismatch]
          ++ optional 10 (fun x : OpenFade => bytes32 x.start ++ nat16 x.duration ++ nat16 x.minF
              ++ [byteOf x.profileAtStart, byteOf x.lowest]) k.fade)
        carriers := s.carriers.set c { k with est := { k.est with stickyClip := false } } }) ∧
    (∀ a : Byte, f.kind = 0x05 → f.body = [a] → 4 ≤ a.toNat →
      exec .getCarrier s = .next { s with port := s.answered f rest [0x03] }) ∧
    (∀ which start count : Byte, f.kind = 0x0B → f.body = [which, start, count] →
      which.toNat ≤ 1 → 1 ≤ count.toNat → start.toNat + count.toNat ≤ 16 →
      exec .readProfiles s = .next { s with
        port := s.answered f rest ([0x00, which, start, count]
          ++ [byteOf (if which = 0 then s.tables.active.length
                else (s.tables.pending.takeWhile Option.isSome).length),
            s.tables.completeness.toByte, s.tables.owner.toByte]
          ++ optByte (s.tables.scheduled.map List.length)
          ++ (List.range count.toNat).flatMap fun i =>
            optional 6 (fun e : Entry => [byteOf (start.toNat + i), byteOf e.modulation, byteOf e.code]
                ++ nat16 e.thr ++ [byteOf e.hyst])
              (if which = 0 then s.tables.active[start.toNat + i]?
                else s.tables.pending.getD (start.toNat + i) none)) }) ∧
    (∀ which start count : Byte, f.kind = 0x0B → f.body = [which, start, count] →
      2 ≤ which.toNat ∨ 16 ≤ start.toNat ∨ count.toNat = 0 ∨ 16 < start.toNat + count.toNat →
      exec .readProfiles s = .next { s with port := s.answered f rest [0x03] })

/-! ### Time (chapter 1) -/

/-- SFS_STROBE, `elapsed` µs on (R2, R4): in EXTERNAL a strobe before P/2 is counted as a glitch and changes nothing
else, a later one is a boundary; in INTERNAL every strobe is a boundary and returns the state to EXTERNAL.
SUPERVISION_EXPIRY in EXTERNAL makes the timebase INTERNAL with a boundary, its wire asserted and no order left open
(R3, R98); INTERNAL_BOUNDARY in INTERNAL is a boundary, and the state stays INTERNAL (R5). -/
def Obligations.StrobesAndOwnBoundaries : Prop :=
  (∀ (s : State) (elapsed : Nat), s.resetHeld = false →
     s.timebase.sinceBoundary + elapsed ≤ s.timebase.due →
     (s.timebase.state = .external → 2 * (s.timebase.sinceBoundary + elapsed) < s.timebase.period →
       exec (.sfsStrobe elapsed) s = .next { s with timebase := { s.timebase with
         sinceBoundary := s.timebase.sinceBoundary + elapsed
         atBoundary := s.timebase.atBoundary && elapsed == 0
         rejected := min (s.timebase.rejected + 1) 65535 } }) ∧
     (s.timebase.state = .external → s.timebase.period ≤ 2 * (s.timebase.sinceBoundary + elapsed) →
       ∃ t, exec (.sfsStrobe elapsed) s = .next t ∧ BoundaryTaken s t ∧ t.timebase.state = .external ∧
         t.alarms.timebaseWire = s.alarms.timebaseWire) ∧
     (s.timebase.state = .internal →
       ∃ t, exec (.sfsStrobe elapsed) s = .next t ∧ BoundaryTaken s t ∧ t.timebase.state = .external ∧
         t.alarms.timebaseWire = false)) ∧
  (∀ s : State, s.resetHeld = false →
     (s.timebase.state = .external →
       ∃ t, exec .supervisionExpiry s = .next t ∧ BoundaryTaken s t ∧ t.timebase.state = .internal ∧
         t.alarms.timebaseWire = true ∧ (OrderLaw s → ∀ c : Carrier, (t.car c).tac.isOpen = false)) ∧
     (s.timebase.state = .internal →
       ∃ t, exec .internalBoundary s = .next t ∧ BoundaryTaken s t ∧ t.timebase.state = .internal ∧
         t.alarms.timebaseWire = s.alarms.timebaseWire))

/-- SET_TIMEBASE, served `elapsed` µs on: P outside 1000..20000 is BAD_ARGUMENT and unchanged; else P governs at once,
and when the time since the last boundary has then reached 2×P in EXTERNAL or P in INTERNAL, the boundary of R3 or R5
is given at once (R6). -/
def Obligations.SetTimebaseGovernsAtOnce : Prop :=
  ∀ (s : State) (f : Frame) (rest : List Frame) (hi lo : Byte) (elapsed now limit : Nat),
    Waiting s f rest → f.kind = 0x04 → f.body = [hi, lo] →
    now = s.timebase.sinceBoundary + elapsed → now ≤ s.timebase.due →
    limit = (if s.timebase.state = .external then 2 else 1) * (256 * hi.toNat + lo.toNat) →
    (256 * hi.toNat + lo.toNat < 1000 ∨ 20000 < 256 * hi.toNat + lo.toNat →
      exec (.setTimebase elapsed) s = .next { s with
        timebase := { s.timebase with
          sinceBoundary := now, atBoundary := s.timebase.atBoundary && elapsed == 0 }
        port := s.answered f rest [0x03] }) ∧
    (1000 ≤ 256 * hi.toNat + lo.toNat → 256 * hi.toNat + lo.toNat ≤ 20000 →
      (now < limit →
        exec (.setTimebase elapsed) s = .next { s with
          timebase := { s.timebase with
            sinceBoundary := now, atBoundary := s.timebase.atBoundary && elapsed == 0
            period := 256 * hi.toNat + lo.toNat }
          port := s.answered f rest [0x00] }) ∧
      (limit ≤ now →
        ∃ t, exec (.setTimebase elapsed) s = .next t ∧ t.timebase.state = .internal ∧
          BoundaryTaken { s with
            timebase := { s.timebase with period := 256 * hi.toNat + lo.toNat }
            port := s.answered f rest [0x00] } t))

/-- What every boundary makes of a carrier, wherever the Supervisor's work falls and in whatever order the carriers'
wires change (R1; logs 4, 46).  The superframe just ended
is counted at the link state and RX profile of its close (R77) and judged locked or not (R76): the unlocked run is so
judged, but 0 for a carrier newly HALTED; no lock is seen yet in the next superframe.  The accumulators are emptied (R26)
and the absent runs counted (R35).  A DISABLED carrier keeps its estimator, its counts and its fade. -/
def Obligations.BoundaryClosesTheSuperframe : Prop :=
  ∀ (place : Carrier → Nat) (order : AlarmKind → List Carrier) (s t : State) (c : Carrier) (k : CarrierState)
    (run : Nat), (∀ kind, (order kind).Perm [0, 1, 2, 3]) → t = boundaryWith place order s → k = s.car c →
    run = (if k.rac.lockSeen = true ∧ k.est.minC ≠ none then 0 else min (k.rac.unlocked + 1) 255) →
    (t.car c).rac.lockSeen = false ∧
    (k.sup.link = .disabled →
      (t.car c).est = k.est ∧ (t.car c).stats = k.stats ∧ (t.car c).fade = k.fade ∧
        (t.car c).rac = { k.rac with lockSeen := false } ∧ t.link c = .disabled) ∧
    (k.sup.link ≠ .disabled →
      (t.car c).stats.duplicates = k.stats.duplicates ∧
      (k.sup.link = .active ∨ k.sup.link = .quiet →
        (t.car c).stats.outage = k.stats.outage ∧
        ∀ i, (t.car c).stats.occupancy[i]? = (k.stats.occupancy[i]?).map fun n =>
          if i = k.rac.current then min (n + 1) 4294967295 else n) ∧
      (k.sup.link = .halted ∨ k.sup.link = .seeking →
        (t.car c).stats.outage = min (k.stats.outage + 1) 4294967295 ∧
        (t.car c).stats.occupancy = k.stats.occupancy) ∧
      (t.link c ≠ .halted ∨ (s.paired c = false ∧ k.sup.link = .halted) → (t.car c).rac.unlocked = run) ∧
      (t.link c = .halted → k.sup.link ≠ .halted → (t.car c).rac.unlocked = 0) ∧
      (t.car c).est.minC = none ∧ (t.car c).est.minRsl = none ∧ (t.car c).est.minA = none ∧
      (t.car c).est.minB = none ∧ (t.car c).est.clipSeen = false ∧
      (t.car c).est.absentA = (if k.est.minA = none then min (k.est.absentA + 1) 255 else 0) ∧
      (t.car c).est.absentB = (if k.est.minB = none then min (k.est.absentB + 1) 255 else 0))

/-- A boundary at which no test of the Supervisor is met: the superframe begins and the one ended is closed at every
carrier (R1, R76, R77, R112, R129), the miss, holdoff and seek counts move (R133, R139, R140), and then the estimators,
the Fade Monitors, the RACs, the TACs, the transfer sender and the table store do their work, each on what those before
it left, with the presence of the superframe just ended (R26, R32, R50, R100), wherever the Supervisor's counts fall
among them (log 4).  The order of these blocks is the model's, and so is that of the carriers for the RACs and the TACs
(log 5); for the estimators, the Fade Monitors and the mismatch of an apply, whose wires change, it is any order (R154;
log 46).  BRANCH_LOSS gives the same piece of work, and so does APPLY_EFFECT where the Store's work of the boundary is not
yet done (log 3). -/
def Obligations.BoundaryRunsTheBlocks : Prop :=
  (∀ (place : Carrier → Nat) (order : AlarmKind → List Carrier) (s v : State),
    (∀ k, (order k).Perm [0, 1, 2, 3]) →
    v = { s with
      timebase := { s.timebase with
        superframe := s.timebase.superframe + 1, sinceBoundary := 0, atBoundary := true }
      outQueue := s.outQueue.map fun m => { m with ridden := false }
      tables := { s.tables with effectDue := true }
      choices := s.choices + 1, carriers := v.carriers } →
    (∀ (c : Carrier) (k : CarrierState), k = s.car c → v.car c = { k with
      reports := 0
      rac := { k.rac with
        lockSeen := false
        unlocked := if k.sup.link = .disabled then k.rac.unlocked
          else if k.rac.lockSeen = true ∧ k.est.minC ≠ none then 0 else min (k.rac.unlocked + 1) 255 }
      stats := { k.stats with
        occupancy := if k.sup.link = .active ∨ k.sup.link = .quiet then
          k.stats.occupancy.modify k.rac.current (fun n => min (n + 1) 4294967295) else k.stats.occupancy
        outage := if k.sup.link = .halted ∨ k.sup.link = .seeking then min (k.stats.outage + 1) 4294967295
          else k.stats.outage }
      sup := { k.sup with
        inForce := k.sup.record
        miss := if k.sup.link = .halted ∨ k.sup.link = .disabled then k.sup.miss else min (k.sup.miss + 1) 65535
        holdoff := if k.sup.link = .halted then k.sup.holdoff - 1 else k.sup.holdoff
        seek := if k.sup.link = .seeking then k.sup.seek - 1 else k.sup.seek } }) →
    (∀ c : Carrier, place c < 6 ∧ NoTestMet v c) →
    ∃ a b d : State,
      a = (order .fade).foldl (fun u c => fadeBoundary (s.car c).est.minC.isSome c u)
        ((order .diversity).foldl (fun u c => estimatorBoundary c u) v) ∧
      b = ([0, 1, 2, 3] : List Carrier).foldl (fun u c => racBoundary (s.car c).est.minC.isSome c u) a ∧
      d = ([0, 1, 2, 3] : List Carrier).foldl (fun u c => tacBoundary c u) b ∧
      boundaryWith place order s = applyBoundary (order .mismatch) (senderBoundary d)) ∧
  (∀ (s : State) (c : Carrier),
    (s.link c = .disabled → estimatorBoundary c s = s) ∧
    (s.link c ≠ .disabled → ∃ x y : State,
      x = selectBranchWork c { s with carriers := s.carriers.set c { s.car c with
        est := reduceSuperframe (s.car c).sup.inForce (s.car c).est } } ∧
      y = judgeBranchLoss c { x with carriers := x.carriers.set c { x.car c with est := { (x.car c).est with
        absentA := if (x.car c).est.minA = none then min ((x.car c).est.absentA + 1) 255 else 0
        absentB := if (x.car c).est.minB = none then min ((x.car c).est.absentB + 1) 255 else 0 } } } ∧
      estimatorBoundary c s = { y with carriers := y.carriers.set c { y.car c with est := { (y.car c).est with
        minC := none, minRsl := none, minA := none, minB := none, clipSeen := false } } } ∧
      (s.resetHeld = false → s.timebase.atBoundary = true →
        exec (.branchLoss c) s = .next (judgeBranchLoss c s))) ∧
    (s.resetHeld = false → s.timebase.atBoundary = true → s.tables.effectDue = true →
      ∃ order : List Carrier, order.Perm [0, 1, 2, 3] ∧
        exec .applyEffect s = .next { applyBoundary order s with choices := s.choices + 1 }))

/-! ### The Modem Link (chapter 1) -/

/-- RECORD_CUT_SHORT discards and counts the record being received, and the new one is received from its start; a whole
record of an unknown kind, or of a carrier above 3, is discarded and counted (R7), and so is a FRAME_REPORT whose frame
index is above 15 (R192), also where the carrier is DISABLED (the model's choice, log 48).  A FRAME_REPORT with an index
of 0..15 for a DISABLED carrier is ignored: it is not counted and marks no frame index (R8).  One whose frame index was seen since the last boundary moves the duplicate count alone, and an unseen index is
marked as seen (R9).  Flag bits 5..7 change nothing (R192); an RSL octet is read as a signed value, then clamped to
−110..−10 (R10). -/
def Obligations.RecordsDiscardedAndReportsNotTaken : Prop :=
  ∀ (s : State), s.resetHeld = false →
    (∀ discarded : State, discarded = { s with modem := { s.modem with
        discarded := min (s.modem.discarded + 1) 65535, partialRecord := [] } } →
      (∀ kind carrier : Byte, ∀ rest : List Byte, rest.length = 18 →
        kind.toNat = 0 ∨ 4 ≤ kind.toNat ∨ 4 ≤ carrier.toNat →
        exec (.inboundRecordDiscarded (kind :: carrier :: rest)) s = .next discarded) ∧
      (∀ carrier : Byte, 4 ≤ carrier.toNat →
        (∀ i fl a b x y : Byte, exec (.frameReport carrier i fl a b x y) s = .next discarded) ∧
        (∀ slot : List Byte, slot.length = 16 → exec (.slotIn carrier slot) s = .next discarded) ∧
        exec (.slotRequest carrier) s = .next discarded) ∧
      (∀ carrier i fl a b x y : Byte, 16 ≤ i.toNat → exec (.frameReport carrier i fl a b x y) s = .next discarded)) ∧
    (∀ octets : List Byte, octets.length < 20 →
      exec (.recordCutShort octets) s = .next { s with modem := { s.modem with
        discarded := min (s.modem.discarded + 1) 65535, partialRecord := octets } }) ∧
    (∀ high carrier i fl a b x y : Byte,
      exec (.frameReport carrier i ((high &&& 0xE0) ||| (fl &&& 0x1F)) a b x y) s =
        exec (.frameReport carrier i fl a b x y) s) ∧
    (∀ (c : Carrier) (i fl a b x y : Byte), i.toNat ≤ 15 →
      (s.link c = .disabled →
        exec (.frameReport (carrierByte c) i fl a b x y) s =
          .next { s with modem := { s.modem with partialRecord := [] } }) ∧
      (s.link c ≠ .disabled → (s.car c).reports.getLsbD i.toNat = true →
        exec (.frameReport (carrierByte c) i fl a b x y) s = .next { s with
          modem := { s.modem with partialRecord := [] }
          carriers := s.carriers.set c { s.car c with
            stats := { (s.car c).stats with
              duplicates := min ((s.car c).stats.duplicates + 1) 4294967295 } } }) ∧
      (s.link c ≠ .disabled → (s.car c).reports.getLsbD i.toNat = false →
        ∃ t, exec (.frameReport (carrierByte c) i fl a b x y) s = .next t ∧
          (t.car c).reports = (s.car c).reports ||| BitVec.twoPow 16 i.toNat ∧
          (t.car c).est.lastA = ⟨fl.getLsbD 0, a.toNat, max (-110) (min x.toInt (-10))⟩ ∧
          (t.car c).est.lastB = ⟨fl.getLsbD 1, b.toNat, max (-110) (min y.toInt (-10))⟩))

/-! ### Diversity and quality estimation (chapter 2) -/

/-- A FRAME_REPORT on an unseen frame index of a carrier that is not DISABLED, without a valid toggle: the frame's
value, its RSL and its clip are formed by the diversity mode and taken into the accumulators, and nothing else of the
part changes but the report set, the payload lock seen and the last branch values (R9, R10, R20 to R25). -/
def Obligations.ReportIsCombined : Prop :=
  ∀ (s : State) (c : Carrier) (i fl snrA snrB rslA rslB : Byte) (a b : BranchValue) (mode : DiversityMode),
    s.resetHeld = false → s.link c ≠ .disabled → i.toNat ≤ 15 → (s.car c).reports.getLsbD i.toNat = false →
    (fl.getLsbD 4 && fl.getLsbD 2) = false → mode = (s.car c).sup.record.diversity →
    a = ⟨fl.getLsbD 0, snrA.toNat, max (-110) (min rslA.toInt (-10))⟩ →
    b = ⟨fl.getLsbD 1, snrB.toNat, max (-110) (min rslB.toInt (-10))⟩ →
    ∃ e : Estimator,
      exec (.frameReport (carrierByte c) i fl snrA snrB rslA rslB) s = .next { s with
        modem := { s.modem with partialRecord := [] }
        carriers := s.carriers.set c { s.car c with
          est := e
          rac := { (s.car c).rac with lockSeen := (s.car c).rac.lockSeen || fl.getLsbD 3 }
          reports := (s.car c).reports ||| BitVec.twoPow 16 i.toNat } } ∧
      e = { (s.car c).est with
        minC := e.minC, minRsl := e.minRsl, clipSeen := e.clipSeen, lastA := a, lastB := b
        minA := if a.present then lowerOpt (s.car c).est.minA a.snr else (s.car c).est.minA
        minB := if b.present then lowerOpt (s.car c).est.minB b.snr else (s.car c).est.minB } ∧
      (mode = .combine → a.present = true → b.present = true →
        ∃ sum : Nat, sum = max a.snr b.snr
          + ([12, 10, 8, 7, 6, 5, 4, 3, 3, 2, 2, 1, 1, 1, 1, 1].getD ((max a.snr b.snr - min a.snr b.snr) / 4) 0) ∧
        e.minC = lowerOpt (s.car c).est.minC (min 255 sum) ∧
        e.minRsl = lowerOpt (s.car c).est.minRsl (max a.rsl b.rsl) ∧
        e.clipSeen = ((s.car c).est.clipSeen || decide (255 < sum ∨ a.snr = 255 ∨ b.snr = 255))) ∧
      (a.present = true →
        (mode = .branchA ∨ ((mode = .combine ∨ mode = .select) ∧ b.present = false) ∨
          (mode = .select ∧ (s.car c).est.selection = .a)) →
        e.minC = lowerOpt (s.car c).est.minC a.snr ∧ e.minRsl = lowerOpt (s.car c).est.minRsl a.rsl) ∧
      (b.present = true →
        (mode = .branchB ∨ ((mode = .combine ∨ mode = .select) ∧ a.present = false) ∨
          (mode = .select ∧ (s.car c).est.selection = .b)) →
        e.minC = lowerOpt (s.car c).est.minC b.snr ∧ e.minRsl = lowerOpt (s.car c).est.minRsl b.rsl) ∧
      ((a.present = false ∧ b.present = false) ∨ (mode = .branchA ∧ a.present = false) ∨
          (mode = .branchB ∧ b.present = false) →
        e.minC = (s.car c).est.minC ∧ e.minRsl = (s.car c).est.minRsl ∧ e.clipSeen = (s.car c).est.clipSeen) ∧
      (mode = .branchA ∨ mode = .branchB ∨ mode = .select ∨ a.present = false ∨ b.present = false →
        e.clipSeen = ((s.car c).est.clipSeen ||
          decide ((mode ≠ .branchB ∧ a.present = true ∧ a.snr = 255) ∨
            (mode ≠ .branchA ∧ b.present = true ∧ b.snr = 255))))

/-- The reduction of a superframe: an absent one keeps f, g, p and rsl_min and clears the dynamic clip (R27, R31); a
present one forms f by fast attack or by a release rounded up (R28), g truncated toward zero (R29), p with its floor
at 0 (R30), and the clips (R31). -/
def Obligations.SuperframeReduction : Prop :=
  ∀ (r : CarrierRecord) (e t : Estimator), t = reduceSuperframe r e →
    (e.minC = none → t = { e with dynamicClip := false }) ∧
    (∀ m, e.minC = some m →
      ∃ (f p : Nat) (g : Int) (clip : Bool),
        t = { e with f := some f, g := some g, p := some p, rslMin := e.minRsl, dynamicClip := clip,
                     stickyClip := e.stickyClip || clip } ∧
        (e.f = none → f = 4 * m ∧ g = 0) ∧
        (∀ old, e.f = some old →
          (4 * m ≤ old → f = 4 * m) ∧
          (old < 4 * m → old < f ∧ f ≤ 4 * m ∧ 4 * m - old ≤ 2 ^ r.releaseShift * (f - old) ∧
            2 ^ r.releaseShift * (f - old) < 4 * m - old + 2 ^ r.releaseShift) ∧
          (∀ g', e.g = some g' → ∃ rem : Int, 3 * g' + ((f : Int) - (old : Int)) = 4 * g + rem ∧ rem.natAbs < 4 ∧
            (0 ≤ 3 * g' + ((f : Int) - (old : Int)) → 0 ≤ rem) ∧
            (3 * g' + ((f : Int) - (old : Int)) ≤ 0 → rem ≤ 0))) ∧
        (0 ≤ g → p = f ∧ clip = e.clipSeen) ∧
        (g < 0 → 0 ≤ (f : Int) + g * r.lead → (p : Int) = (f : Int) + g * r.lead ∧ clip = e.clipSeen) ∧
        (g < 0 → (f : Int) + g * r.lead < 0 → p = 0 ∧ clip = true))

/-- BRANCH_LOSS at a boundary of a carrier that is not DISABLED: the branch lost flag is judged by the cases of R36
after the absent runs, and the DIVERSITY wire follows it with its alarms (R153, R154).  Branch choice in SELECT mode:
the other branch is selected by the table of R33, and SELECT_BRANCH is sent on a change or when the mode's change made it
due (R34). -/
def Obligations.BranchLossAndChoice : Prop :=
  (∀ (s : State) (c : Carrier) (r : CarrierRecord) (e : Estimator), s.resetHeld = false →
    s.timebase.atBoundary = true → s.link c ≠ .disabled → r = (s.car c).sup.inForce → e = (s.car c).est →
    ∃ (t : State) (lost : Bool), exec (.branchLoss c) s = .next t ∧
      (r.diversity = .branchA ∨ r.diversity = .branchB → lost = false) ∧
      (r.diversity = .combine ∨ r.diversity = .select →
        (e.absentA = 0 → e.absentB = 0 → lost = false) ∧
        (¬(e.absentA = 0 ∧ e.absentB = 0) → r.divLost ≤ e.absentA ∨ r.divLost ≤ e.absentB → lost = true) ∧
        (¬(e.absentA = 0 ∧ e.absentB = 0) → e.absentA < r.divLost → e.absentB < r.divLost →
          lost = e.branchLost)) ∧
      WireFormed .diversity { s with carriers := s.carriers.set c { s.car c with
        est := { e with branchLost := lost }, wires := { (s.car c).wires with diversity := lost } } } t) ∧
  (∀ (s t : State) (c : Carrier) (r : CarrierRecord) (e : Estimator), t = selectBranchWork c s →
    r = (s.car c).sup.inForce → e = (s.car c).est →
    (r.diversity ≠ .select → t = s) ∧
    (r.diversity = .select → ∃ chosen : Branch,
      (∀ selected other : Option Nat,
        (e.selection = .a ∧ selected = e.minA ∧ other = e.minB) ∨
          (e.selection = .b ∧ selected = e.minB ∧ other = e.minA) →
        (chosen ≠ e.selection ↔
          (selected = none ∧ other ≠ none) ∨
          (∃ x y, selected = some x ∧ other = some y ∧ x + r.selHyst ≤ y ∧ x < y))) ∧
      t = { s with
        carriers := s.carriers.set c { s.car c with est := { e with selection := chosen, selectDue := false } }
        modem := { s.modem with outbound := s.modem.outbound ++
          (if chosen ≠ e.selection ∨ e.selectDue = true then [.selectBranch c chosen] else []) } }))

/-! ### Receive adaptation (chapter 4) -/

/-- A FRAME_REPORT with a valid toggle: with an armed order the RX current profile becomes its target, the armed order
none, the advice the new profile, the hold 0, the last switched id (the lower carrier's for a pair) the order's, and
PROFILE_CHANGED is placed; with none only the unexpected-toggle count moves (R74).  An open fade's lowest profile is
lowered to the target (R147).  The estimator takes the report as without a toggle. -/
def Obligations.ToggleMovesTheProfile : Prop :=
  ∀ (s : State) (c : Carrier) (i fl snrA snrB rslA rslB : Byte), s.resetHeld = false → s.link c ≠ .disabled →
    i.toNat ≤ 15 → (s.car c).reports.getLsbD i.toNat = false → fl.getLsbD 4 = true → fl.getLsbD 2 = true →
    ∃ t u : State,
      exec (.frameReport (carrierByte c) i fl snrA snrB rslA rslB) s = .next t ∧
      exec (.frameReport (carrierByte c) i (fl &&& 0xEF) snrA snrB rslA rslB) s = .next u ∧
      ((s.car c).rac.armed = none →
        t = { u with carriers := u.carriers.set c { u.car c with stats := { (u.car c).stats with
          rac := { (u.car c).stats.rac with
            unexpected := min ((u.car c).stats.rac.unexpected + 1) 4294967295 } } } }) ∧
      (∀ o, (s.car c).rac.armed = some o →
        (t.car c).rac = { (u.car c).rac with
          current := o.target, armed := none, advice := o.target, hold := 0
          lastSwitched := if s.isUpper c then (u.car c).rac.lastSwitched else some o.id } ∧
        (t.car (s.gov c)).rac.lastSwitched = some o.id ∧
        (t.car c).fade = (s.car c).fade.map (fun x => { x with lowest := min x.lowest o.target }) ∧
        t.car c = { u.car c with rac := (t.car c).rac, fade := (t.car c).fade } ∧
        (∀ d : Carrier, d ≠ c → t.car d = { u.car d with rac := { (u.car d).rac with
          lastSwitched := if d = s.gov c then some o.id else (u.car d).rac.lastSwitched } }) ∧
        t = { u with carriers := t.carriers, port := t.port } ∧
        Noticed (.profileChanged c true (s.car c).rac.current o.target) s t.port)

/-- The decision of a RAC on a present superframe (R64 to R67), with the peer values that are none taken as headroom
0, attenuation 30 and cap 0 (R62).  The RAC's work at a boundary (R63): an ACTIVE carrier decides on a present
superframe, from its own p and rsl_min and the governing fields in force; on an absent one, and in QUIET, the power
request is 0 and all else is held; in HALTED, SEEKING and DISABLED nothing is done; and the advice is then bounded by the
RX current profile plus up_step. -/
def Obligations.AdviceDecision : Prop :=
  (∀ (x : DecisionInput) (r t : Rac) (d : Int) (h a ceilP : Nat), t = decideAdvice x r →
      d = ((x.at r.current).thr : Int) - (x.at r.current).hyst - x.p →
      h = r.peerHeadroom.getD 0 → a = r.peerAtten.getD 30 → ceilP = min (x.table.length - 1) (r.peerCap.getD 0) →
      t = { r with advice := t.advice, power := t.power, hold := t.hold } ∧
      (0 < d → d ≤ 16 * (min h 3 : Nat) →
        t.advice = r.current ∧ t.hold = 0 ∧ 16 * (t.power - 1) < d ∧ d ≤ 16 * t.power) ∧
      (0 < d → 16 * (min h 3 : Nat) < d →
        t.hold = 0 ∧ t.power = (min h 3 : Nat) ∧
        ((t.advice < r.current ∧ (x.at t.advice).thr ≤ x.p) ∨ t.advice = 0) ∧
        (∀ i, t.advice < i → i < r.current → x.p < (x.at i).thr)) ∧
      (d ≤ 0 → (∀ i, r.current < i → i ≤ ceilP → x.p < (x.at i).thr + x.margin) →
        t.advice = r.current ∧ t.hold = 0 ∧
        t.power = (if x.rslMin < x.rslLo ∧ 0 < h then 1 else if x.rslHi < x.rslMin ∧ a < 30 then -1 else 0)) ∧
      (∀ u, d ≤ 0 → r.current < u → u ≤ ceilP → (x.at u).thr + x.margin ≤ x.p →
        (∀ i, u < i → i ≤ ceilP → x.p < (x.at i).thr + x.margin) →
        t.hold = min (r.hold + 1) 255 ∧
        t.advice = (if x.upHold ≤ t.hold then min u (r.current + x.upStep) else r.current) ∧
        t.power = (if x.rslMin < x.rslLo ∧ 0 < h then 1 else 0))) ∧
  (∀ (s t : State) (c : Carrier) (present : Bool) (k : CarrierState) (g : CarrierRecord),
    t = racBoundary present c s → k = s.car c → g = s.govInForce c →
    (k.sup.link = .disabled ∨ k.sup.link = .halted ∨ k.sup.link = .seeking → t = s) ∧
    (k.sup.link = .quiet ∨ (k.sup.link = .active ∧ present = false) →
      t = { s with carriers := s.carriers.set c { k with
        rac := { k.rac with power := 0, advice := min k.rac.advice (k.rac.current + g.upStep) } } }) ∧
    (k.sup.link = .active → present = true → ∃ u : Rac,
      u = decideAdvice { p := k.est.p.getD 0, rslMin := k.est.rslMin.getD 0, table := s.tables.active,
                         margin := g.margin, upHold := g.upHold, upStep := g.upStep, rslLo := g.rslLo,
                         rslHi := g.rslHi } k.rac ∧
      t = { s with carriers := s.carriers.set c { k with
        rac := { u with advice := min u.advice (k.rac.current + g.upStep) } } }))

/-- An ORDER reaching the RAC of its named carrier: one whose id is the last cancelled or last switched id is ignored
(R69); else those ids are cleared, and the first check of R70 that fails gives a REFUSE, or it is a repeat, or a new
arming with ARM_RX in place of what the named carrier held (R71; log 35).  With the pair flag set check 2 fails on the
mismatch of either carrier of the position, paired or not (the model's at an unpaired one, log 44).  All else is
unchanged: the RX profiles, the advice and hold, an upper carrier's ids, the other carriers. -/
def Obligations.OrderFromThePeer : Prop :=
  ∀ (s t : State) (c : Carrier) (id target : Nat) (pair : Bool) (k : CarrierState) (x : RacStats) (r : Rac),
    t = takeOrder c id target pair s → k = s.car (s.gov c) → x = k.stats.rac →
    r = (if s.isUpper c then k.rac else { k.rac with lastCancelled := none, lastSwitched := none }) →
    (k.rac.lastCancelled = some id ∨ k.rac.lastSwitched = some id →
      t = { s with carriers := s.carriers.set (s.gov c) { k with
        stats := { k.stats with rac := { x with ignored := min (x.ignored + 1) 4294967295 } } } }) ∧
    (k.rac.lastCancelled ≠ some id → k.rac.lastSwitched ≠ some id →
      (∀ (reason : Nat) (x' : RacStats),
        (reason = 1 ∧ x' = { x with refNotActive := min (x.refNotActive + 1) 4294967295 } ∧
          (s.link c ≠ .active ∨ (pair = true ∧ s.link (partner c) ≠ .active))) ∨
        (s.link c = .active ∧ (pair = true → s.link (partner c) = .active) ∧
          ((reason = 2 ∧ x' = { x with refMismatch := min (x.refMismatch + 1) 4294967295 } ∧
              ((s.car c).lac.mismatch = true ∨ (pair = true ∧ (s.car (partner c)).lac.mismatch = true))) ∨
           ((s.car c).lac.mismatch = false ∧ (pair = true → (s.car (partner c)).lac.mismatch = false) ∧
            ((reason = 3 ∧ x' = { x with refNoProfile := min (x.refNoProfile + 1) 4294967295 } ∧
                s.tables.active.length ≤ target) ∨
             (target < s.tables.active.length ∧ reason = 4 ∧
                x' = { x with refPairSplit := min (x.refPairSplit + 1) 4294967295 } ∧
                (pair ≠ s.paired c ∨ s.isUpper c = true)))))) →
        t = { s with
          carriers := s.carriers.set (s.gov c) { k with rac := r, stats := { k.stats with rac := x' } }
          outQueue := queueWith (.v c) (.refuse c id reason) s.outQueue }) ∧
      (s.link c = .active → (pair = true → s.link (partner c) = .active) → (s.car c).lac.mismatch = false →
        (pair = true → (s.car (partner c)).lac.mismatch = false) → target < s.tables.active.length →
        pair = s.paired c → s.isUpper c = false →
        ((∃ a, k.rac.armed = some a ∧ a.id = id ∧ a.target = target) →
          t = { s with
            carriers := s.carriers.set c { k with
              rac := r, stats := { k.stats with rac := { x with repeated := min (x.repeated + 1) 4294967295 } } }
            outQueue := queueWith (.v c) (.confirm c id target) s.outQueue }) ∧
        ((∀ a, k.rac.armed = some a → a.id ≠ id ∨ a.target ≠ target) →
          t = { s with
            carriers := t.carriers
            modem := { s.modem with outbound := s.modem.outbound ++
              [.armRx (orderMask c pair) (s.entry target).modulation (s.entry target).code] }
            outQueue := queueWith (.v c) (.confirm c id target) s.outQueue } ∧
          ∀ d : Carrier, t.car d =
            if d = c then { k with
              rac := { r with armed := some ⟨id, target, pair⟩ }
              stats := { k.stats with rac := { x with
                accepted := min (x.accepted + 1) 4294967295
                replaced := if k.rac.armed = none then x.replaced else min (x.replaced + 1) 4294967295 } } }
            else if pair = true ∧ d = partner c then
              { s.car d with rac := { (s.car d).rac with armed := some ⟨id, target, pair⟩ } }
            else s.car d)))

/-- A CANCEL reaching the RAC of its named carrier: discarded for a DISABLED carrier or a pair flag that differs from
the pairing; else the last cancelled id becomes its id, in the lower carrier's RAC for a pair (also while that is
DISABLED: log 34), and an armed order of its id is disarmed, its copy with it (R72).  All else is unchanged. -/
def Obligations.CancelFromThePeer : Prop :=
  ∀ (s t : State) (c : Carrier) (id : Nat) (pair : Bool), t = takeCancel c id pair s →
    (s.link c = .disabled ∨ pair ≠ s.paired c → t = s) ∧
    (s.link c ≠ .disabled → pair = s.paired c →
      ((∀ a, (s.car c).rac.armed = some a → a.id ≠ id) →
        t = { s with carriers := s.carriers.set (s.gov c) { s.car (s.gov c) with
          rac := { (s.car (s.gov c)).rac with lastCancelled := some id } } }) ∧
      (∀ a, (s.car c).rac.armed = some a → a.id = id →
        t = { s with
          carriers := t.carriers
          modem := { s.modem with outbound := s.modem.outbound ++ [.disarmRx (orderMask c a.pair)] } } ∧
        ∀ d : Carrier, t.car d = { s.car d with
          rac := { (s.car d).rac with
            armed := if d = c ∨ (a.pair = true ∧ d = partner c) then none else (s.car d).rac.armed
            lastCancelled := if d = s.gov c then some id else (s.car d).rac.lastCancelled }
          stats := { (s.car d).stats with
            rac := if d = s.gov c then { (s.car d).stats.rac with
                disarming := min ((s.car d).stats.rac.disarming + 1) 4294967295 }
              else (s.car d).stats.rac } }))

/-! ### Transmit adaptation (chapter 5) -/

/-- The target of a single carrier or a pair's lower carrier is 0 in mismatch, else the highest candidate at most the
bound of R85; a paired enabled upper carrier copies it; and nothing else changes (R58, R85).  The steps of R85 are the same
in every link state, so that a HALTED carrier in FIXED mode has the fixed target (the model's, log 36). -/
def Obligations.TargetFormed : Prop :=
  ∀ (s t : State) (c : Carrier) (b : Nat), s.isUpper c = false → t = formTarget c s →
    ((s.car c).sup.inForce.adapt = .fixed → b = (s.car c).sup.inForce.fixedProfile) →
    ((s.car c).sup.inForce.adapt = .auto → s.paired c = false → b = (s.car c).tac.latestAdvice.getD 0) →
    ((s.car c).sup.inForce.adapt = .auto → s.paired c = true →
      b = min ((s.car c).tac.latestAdvice.getD 0) ((s.car (partner c)).tac.latestAdvice.getD 0)) →
    (s.tables.enableSets.get c).getLsbD 0 = true →
    ∃ target : Nat,
      t.car c = { s.car c with tac := { (s.car c).tac with target } } ∧
      (∀ d : Carrier, d ≠ c → t.car d =
        if s.paired c = true ∧ d = partner c ∧ s.link d ≠ .disabled then
          { s.car d with tac := { (s.car d).tac with target } } else s.car d) ∧
      t = { s with carriers := t.carriers } ∧
      ((s.car c).lac.mismatch = true ∨ (s.paired c = true ∧ (s.car (partner c)).lac.mismatch = true) → target = 0) ∧
      ((s.car c).lac.mismatch = false → (s.paired c = true → (s.car (partner c)).lac.mismatch = false) →
        target ≤ b ∧ (s.tables.enableSets.get c).getLsbD target = true ∧
        target ≤ (s.car c).sup.inForce.ceiling ∧ (target < s.tables.active.length ∨ target = 0) ∧
        (∀ i, target < i → i ≤ b → i ≤ (s.car c).sup.inForce.ceiling → i < s.tables.active.length →
          (s.tables.enableSets.get c).getLsbD i = false))

/-- The opening test of a single carrier or a pair's lower carrier (R87): an order opens exactly when the conditions
hold, with the values of R88, its ORDER the newest message of the Out Queue. -/
def Obligations.OrderOpens : Prop :=
  ∀ (s t : State) (c : Carrier) (o : OpenOrder), s.isUpper c = false → t = openOrderWork c s →
    o = { id := (s.car c).tac.nextId, target := (s.car c).tac.target, openedAt := s.timebase.superframe,
          effect := s.timebase.superframe + BitVec.ofNat 32 (s.car c).sup.inForce.lead,
          pair := s.paired c, armed := false } →
    ((s.car c).tac.state = .steady → s.link c = .active → (s.paired c = true → s.link (partner c) = .active) →
      s.timebase.state = .external → s.tables.scheduled = none →
      (∀ i p, s.messageAt (.t c) ≠ some (.cancel c i p)) → QueueLaw s →
      (s.car c).tac.target ≠ (s.car c).tac.current →
      t.car c = { s.car c with
        tac := { (s.car c).tac with
          state := .ordered, order := some o, nextId := ((s.car c).tac.nextId + 1) % 16 }
        stats := { (s.car c).stats with tac := { (s.car c).stats.tac with
          opened := min ((s.car c).stats.tac.opened + 1) 4294967295 } } } ∧
      (∀ d : Carrier, d ≠ c → t.car d =
        if s.paired c = true ∧ d = partner c then
          { s.car d with tac := { (s.car d).tac with state := .ordered, order := some o } } else s.car d) ∧
      t = { s with
        carriers := t.carriers, outQueue := queueWith (.t c) (.order c o.id o.target o.pair) s.outQueue }) ∧
    ((s.car c).tac.state ≠ .steady ∨ s.link c ≠ .active ∨ (s.paired c = true ∧ s.link (partner c) ≠ .active) ∨
      s.timebase.state = .internal ∨ s.tables.scheduled ≠ none ∨
      (∃ i p, s.messageAt (.t c) = some (.cancel c i p)) ∨ (s.car c).tac.target = (s.car c).tac.current →
      t = s)

/-- ORDER_DEADLINE at boundary E−1 of an order still ORDERED: it closes into BACKOFF with count 2, CANCEL takes its
place, CHANGE_FAILED(TIMEOUT) is placed and the timeout counted (R91). ARM_TX at boundary E−1 of a COMMITTED order:
the directive names the carrier, or both of the position, with the target's modulation and code, and the armed flag
is set (R93); an order already armed sends nothing, since the boundary's work was done once (the model's, log 3). -/
def Obligations.OrderDeadlineAndArmTx : Prop :=
  (∀ (s : State) (c : Carrier) (o : OpenOrder), s.resetHeld = false → s.timebase.atBoundary = true →
     s.link c ≠ .disabled → s.isUpper c = false → (s.car c).tac.order = some o → (s.car c).tac.state = .ordered →
     o.effect = s.timebase.superframe + 1 →
     ∃ t, exec (.orderDeadline c) s = .next t ∧
       OrderClosed c .backoff 2 { (s.car c).stats.tac with
         timeouts := min ((s.car c).stats.tac.timeouts + 1) 4294967295 } s t ∧
       Noticed (.changeFailed c none) s t.port ∧
       t = { s with
         carriers := t.carriers, port := t.port
         outQueue := queueWith (.t c) (.cancel c o.id o.pair) s.outQueue }) ∧
  (∀ (s : State) (c : Carrier) (o : OpenOrder), s.resetHeld = false → s.timebase.atBoundary = true →
     s.link c ≠ .disabled → s.isUpper c = false → (s.car c).tac.order = some o → (s.car c).tac.state = .committed →
     o.effect = s.timebase.superframe + 1 →
     (o.armed = true → exec (.armTx c) s = .next s) ∧
     (o.armed = false → ∃ t, exec (.armTx c) s = .next t ∧
       t.car c = { s.car c with tac := { (s.car c).tac with order := some { o with armed := true } } } ∧
       (∀ d : Carrier, d ≠ c → t.car d =
         if s.paired c = true ∧ d = partner c ∧ s.link d ≠ .disabled then
           { s.car d with tac := { (s.car d).tac with
             state := .committed, order := some { o with armed := true } } }
         else s.car d) ∧
       t = { s with
         carriers := t.carriers
         modem := { s.modem with outbound := s.modem.outbound ++
           [.armTx (orderMask c o.pair) (s.entry o.target).modulation (s.entry o.target).code] } }))

/-- ORDER_SWITCH at boundary E of a COMMITTED order (R94): the order closes into STEADY, its ORDER leaves the queue,
the TX current profile becomes the target, for both carriers of a pair, each with PROFILE_CHANGED (the lower carrier's
first: log 5), and the switch is counted; then the target
and the opening test of the same boundary are taken. BACKOFF_EXPIRY when the backoff count is 0 (R96): STEADY, with
the target and the opening test of the same boundary. -/
def Obligations.OrderSwitchAndBackoffExpiry : Prop :=
  (∀ (s : State) (c : Carrier) (o : OpenOrder), s.resetHeld = false → s.timebase.atBoundary = true →
     s.link c ≠ .disabled → s.isUpper c = false → (s.car c).tac.order = some o → (s.car c).tac.state = .committed →
     o.effect = s.timebase.superframe → o.pair = s.paired c →
     ∃ u : State, exec (.orderSwitch c) s = .next (openOrderWork c (formTarget c u)) ∧
       u.car c = { s.car c with
         tac := { (s.car c).tac with order := none, state := .steady, backoff := 0, current := o.target }
         stats := { (s.car c).stats with tac := { (s.car c).stats.tac with
           switched := min ((s.car c).stats.tac.switched + 1) 4294967295 } } } ∧
       (s.paired c = true → s.link (partner c) ≠ .disabled →
         u.car (partner c) = { s.car (partner c) with
           tac := { (s.car (partner c)).tac with order := none, state := .steady, current := o.target } }) ∧
       (∀ d : Carrier, d ≠ c → s.paired c = false ∨ d ≠ partner c → u.car d = s.car d) ∧
       (∃ p : Port, Noticed (.profileChanged c false (s.car c).tac.current o.target) s p ∧
         (s.paired c = false → u.port = p) ∧
         (s.paired c = true → Noticed (.profileChanged (partner c) false (s.car (partner c)).tac.current o.target)
           { s with port := p } u.port)) ∧
       u = { s with
         carriers := u.carriers, port := u.port, outQueue := s.outQueue.filter fun m => m.place != .t c }) ∧
  (∀ (s : State) (c : Carrier), s.resetHeld = false → s.timebase.atBoundary = true → s.link c ≠ .disabled →
     s.isUpper c = false → (s.car c).tac.state = .backoff → (s.car c).tac.backoff = 0 →
     ∃ u : State, exec (.backoffExpiry c) s = .next (openOrderWork c (formTarget c u)) ∧
       OrderClosed c .steady 0 (s.car c).stats.tac s u ∧ u = { s with carriers := u.carriers })

/-- A CONFIRM of the open order commits it from ORDERED and is counted as repeated in COMMITTED (R89, R93); a REFUSE of
an ORDERED order closes it into BACKOFF with its notice (R90); every other response is late (R95). -/
def Obligations.ResponsesToAnOrder : Prop :=
  ∀ (s : State) (c : Carrier) (id x : Nat) (st : TacStats), st = (s.car (s.gov c)).stats.tac →
    (s.link c = .disabled → takeConfirm c id x s = s ∧ takeRefuse c id x s = s) ∧
    (s.link c ≠ .disabled →
      (∀ late : State, late = { s with carriers := s.carriers.set (s.gov c) { s.car (s.gov c) with
          stats := { (s.car (s.gov c)).stats with tac := { st with late := min (st.late + 1) 4294967295 } } } } →
        ((s.isUpper c = true ∨ (s.car c).tac.isOpen = false ∨
            (∀ o, (s.car c).tac.order = some o → o.id ≠ id ∨ o.target ≠ x)) →
          takeConfirm c id x s = late) ∧
        ((s.isUpper c = true ∨ (s.car c).tac.state ≠ .ordered ∨
            (∀ o, (s.car c).tac.order = some o → o.id ≠ id)) →
          takeRefuse c id x s = late)) ∧
      (∀ o, s.isUpper c = false → (s.car c).tac.order = some o → o.id = id →
        (o.target = x → (s.car c).tac.state = .ordered →
          takeConfirm c id x s = { s with carriers := (takeConfirm c id x s).carriers } ∧
          (takeConfirm c id x s).car c =
            { s.car c with tac := { (s.car c).tac with state := .committed } } ∧
          (∀ d : Carrier, d ≠ c → (takeConfirm c id x s).car d =
            if s.paired c = true ∧ d = partner c ∧ s.link d ≠ .disabled then
              { s.car d with tac := { (s.car d).tac with state := .committed, order := some o } }
            else s.car d)) ∧
        (o.target = x → (s.car c).tac.state = .committed →
          takeConfirm c id x s = { s with carriers := s.carriers.set c { s.car c with
            stats := { (s.car c).stats with tac := { (s.car c).stats.tac with
              repeatedConfirms := min ((s.car c).stats.tac.repeatedConfirms + 1) 4294967295 } } } }) ∧
        (∀ y : TacStats, (s.car c).tac.state = .ordered →
          (x = 1 ∧ y = { st with refNotActive := min (st.refNotActive + 1) 4294967295 }) ∨
            (x = 2 ∧ y = { st with refMismatch := min (st.refMismatch + 1) 4294967295 }) ∨
            (x = 3 ∧ y = { st with refNoProfile := min (st.refNoProfile + 1) 4294967295 }) ∨
            (x = 4 ∧ y = { st with refPairSplit := min (st.refPairSplit + 1) 4294967295 }) ∨
            ((x = 0 ∨ 5 ≤ x) ∧ y = st) →
          OrderClosed c .backoff 2 y s (takeRefuse c id x s) ∧
          Noticed (.changeFailed c (some x)) s (takeRefuse c id x s).port ∧
          takeRefuse c id x s = { s with
            carriers := (takeRefuse c id x s).carriers, port := (takeRefuse c id x s).port
            outQueue := s.outQueue.filter fun m => m.place != .t c })))

/-- The pending power request moves the attenuation within atten_min..30 and is then none; a change issues SET_ATTEN
and is counted (R102). -/
def Obligations.PowerStepApplied : Prop :=
  ∀ (s t : State) (c : Carrier), t = applyPower c s → (s.car c).tac.atten ≤ 30 →
    (s.car c).sup.record.attenMin ≤ (s.car c).tac.atten →
    ((s.car c).tac.pendingPower = none → t = s) ∧
    (∀ request, (s.car c).tac.pendingPower = some request →
      ∃ a : Nat, (a : Int) = max ((s.car c).sup.record.attenMin : Int) (min ((s.car c).tac.atten - request) 30) ∧
        t = { s with
          carriers := s.carriers.set c { s.car c with
            tac := { (s.car c).tac with atten := a, pendingPower := none }
            stats := { (s.car c).stats with tac := { (s.car c).stats.tac with
              powerSteps := if a = (s.car c).tac.atten then (s.car c).stats.tac.powerSteps
                else min ((s.car c).stats.tac.powerSteps + 1) 4294967295 } } }
          modem := { s.modem with outbound := s.modem.outbound ++
            (if a = (s.car c).tac.atten then [] else [.setAtten (carrierMask c) a]) } })

/-- The steps of the TAC's work at a boundary that no command names.  With the timebase INTERNAL an open order closes,
CANCEL in its place, DISARM_TX to the modem when it was armed (R98); the backoff count decrements and ends at 0 (R96);
an ORDERED upshift whose new target is below the TX current profile is reversed (R92).  The whole work stands in the
sequence of R100, with the steps of ORDER_DEADLINE and ARM_TX as those commands take them (log 3); the carriers take their
turns in increasing number (the model's, log 5). -/
def Obligations.TransmitWorkOfABoundary : Prop :=
  (∀ (s t : State) (c : Carrier) (k : CarrierState), s.isUpper c = false → k = s.car c →
    (t = closeOnTimebaseLoss c s →
      (s.timebase.state = .external ∨ k.tac.order = none ∨ k.tac.state = .steady ∨ k.tac.state = .backoff → t = s) ∧
      (∀ o, s.timebase.state = .internal → k.tac.order = some o → k.tac.state = .ordered ∨ k.tac.state = .committed →
        OrderClosed c .steady 0 { k.stats.tac with
          timebaseCancels := min (k.stats.tac.timebaseCancels + 1) 4294967295 } s t ∧
        t = { s with
          carriers := t.carriers, outQueue := queueWith (.t c) (.cancel c o.id o.pair) s.outQueue
          modem := { s.modem with outbound := s.modem.outbound ++
            (if o.armed then [.disarmTx (orderMask c o.pair)] else []) } })) ∧
    (t = countBackoff c s →
      (k.tac.state ≠ .backoff → t = s) ∧
      (k.tac.state = .backoff → 2 ≤ k.tac.backoff →
        t = { s with carriers := s.carriers.set c { k with tac := { k.tac with backoff := k.tac.backoff - 1 } } }) ∧
      (k.tac.state = .backoff → k.tac.backoff ≤ 1 →
        OrderClosed c .steady 0 k.stats.tac s t ∧ t = { s with carriers := t.carriers })) ∧
    (t = reverseUpshift c s →
      (k.tac.order = none ∨ k.tac.state ≠ .ordered ∨ k.tac.current ≤ k.tac.target → t = s) ∧
      (∀ o, k.tac.order = some o → k.tac.state = .ordered →
        (o.target ≤ k.tac.current → t = s) ∧
        (k.tac.current < o.target → k.tac.target < k.tac.current →
          OrderClosed c .steady 0 { k.stats.tac with
            superseded := min (k.stats.tac.superseded + 1) 4294967295 } s t ∧
          t = { s with
            carriers := t.carriers, outQueue := queueWith (.t c) (.cancel c o.id o.pair) s.outQueue })))) ∧
  (∀ (s : State) (c : Carrier),
    transmitWork s = tacBoundary 3 (tacBoundary 2 (tacBoundary 1 (tacBoundary 0 s))) ∧
    (s.link c = .disabled → tacBoundary c s = s) ∧
    (s.link c ≠ .disabled → s.isUpper c = true → tacBoundary c s = applyPower c s) ∧
    (s.link c ≠ .disabled → s.isUpper c = false →
      tacBoundary c s = applyPower c (openOrderWork c (reverseUpshift c (formTarget c (armAtDeadline c (deadline c
        (switchAtEffect c (countBackoff c (closeOnTimebaseLoss c s)))))))) ∧
      (s.resetHeld = false → s.timebase.atBoundary = true →
        exec (.orderDeadline c) s = .next (deadline c s) ∧ exec (.armTx c) s = .next (armAtDeadline c s) ∧
        (∀ o, (s.car c).tac.order = some o → (s.car c).tac.state = .committed →
          o.effect = s.timebase.superframe →
          exec (.orderSwitch c) s = .next (openOrderWork c (formTarget c (switchAtEffect c s)))))))

/-! ### The Link Adaptation Channel (chapter 6) -/

/-- An invalid slot on carrier `c`, by the checks of R116 on its octets or because the carrier is DISABLED,
increments the invalid-slot count and nothing else is taken from it (R117). A valid slot on a HALTED carrier
increments its halted-slot count and is otherwise ignored (R118). -/
def Obligations.InvalidAndHaltedSlots : Prop :=
  (∀ (s : State) (c : Carrier) (o : List Byte), s.resetHeld = false → o.length = 16 →
     crc8 (o.take 15) ≠ o.getD 15 0 ∨ (o.getD 0 0).toNat / 16 ≠ 1 ∨ (o.getD 1 0).toNat / 16 ≠ c.val ∨
       (o.getD 0 0).toNat % 16 < 2 ∨ 4 < (o.getD 0 0).toNat % 16 ∨ (o.getD 4 0).toInt < -1 ∨
       3 < (o.getD 4 0).toInt ∨ s.link c = .disabled →
     exec (.slotIn (carrierByte c) o) s = .next { s with
       modem := { s.modem with partialRecord := [] }
       carriers := s.carriers.set c { s.car c with stats := { (s.car c).stats with lac := { (s.car c).stats.lac with
         invalid := min ((s.car c).stats.lac.invalid + 1) 4294967295 } } } }) ∧
  (∀ (s : State) (c : Carrier) (o : List Byte), s.resetHeld = false → o.length = 16 → (decodeSlot c o).isSome = true →
     s.link c = .halted →
     exec (.slotIn (carrierByte c) o) s = .next { s with
       modem := { s.modem with partialRecord := [] }
       carriers := s.carriers.set c { s.car c with stats := { (s.car c).stats with lac := { (s.car c).stats.lac with
         halted := min ((s.car c).stats.lac.halted + 1) 4294967295 } } } })

/-- A valid slot on a SEEKING, ACTIVE or QUIET carrier that its receipt does not halt is taken in the stages of R119:
the peer records, sequence break and pair disagreement (R121, R125), the carrier ACTIVE (R135, R140) with its miss
counter 0 and, on entry, its LINK wire clear, its unlocked run 0 and the sender following (R164), the digest and
mismatch (R122), the RAC's and the TAC's peer values (R62, R84), and then the optional part is dispatched: each message
kind to its owner (R120), an unknown one counted, a TABLE_ENTRY out of range stale at the receiver (R191). -/
def Obligations.SlotIsTakenInStages : Prop :=
  (∀ (s : State) (c : Carrier) (o : List Byte) (x : Slot) (k : CarrierState) (differs entered : Bool),
    s.resetHeld = false → o.length = 16 → decodeSlot c o = some x → k = s.car c →
    k.sup.link = .seeking ∨ ((k.sup.link = .active ∨ k.sup.link = .quiet) ∧
      (x.link ≠ .seeking ∨ (k.atBase = true ∧ (s.paired c = true → (s.car (partner c)).atBase = true)))) →
    differs = decide (x.digest ≠ s.tables.digest) → entered = decide (k.sup.link ≠ .active) →
    ∃ u : State, exec (.slotIn (carrierByte c) o) s = .next (dispatch c x.part u) ∧
      u = { s with
        carriers := u.carriers, modem := { s.modem with partialRecord := [] }, port := u.port
        sender := u.sender, outQueue := u.outQueue
        alarms := { s.alarms with collapsed := u.alarms.collapsed, alert := u.alarms.alert } } ∧
      s.port.sameButNotices u.port ∧ OthersSame c s u ∧
      (entered = true → SenderFollows s.outQueue s u) ∧
      (entered = false → u.sender = s.sender ∧ u.outQueue = s.outQueue) ∧
      u.car c = { k with
        rac := { k.rac with
          peerHeadroom := some (min x.headroom 30), peerAtten := some (min x.atten 30), peerCap := some x.cap
          unlocked := if entered then 0 else k.rac.unlocked }
        tac := { k.tac with latestAdvice := some x.advice, pendingPower := some x.power }
        lac := { peerDigest := some x.digest, peerState := some x.link, peerSeq := some x.seq, peerPair := some x.pair,
                 mismatch := differs }
        sup := { k.sup with link := .active, miss := 0, seek := if entered then 0 else k.sup.seek }
        wires := { k.wires with link := k.wires.link && !entered, mismatch := differs }
        stats := { k.stats with
          lac := { k.stats.lac with
            valid := min (k.stats.lac.valid + 1) 4294967295
            breaks := if k.lac.peerSeq = none ∨ k.lac.peerSeq.map (· + 1) = some x.seq then k.stats.lac.breaks
              else min (k.stats.lac.breaks + 1) 4294967295
            pairDisagreements := if x.pair = s.paired c then k.stats.lac.pairDisagreements
              else min (k.stats.lac.pairDisagreements + 1) 4294967295 }
          sup := { k.stats.sup with
            linkUps := if k.sup.link = .seeking then min (k.stats.sup.linkUps + 1) 4294967295
              else k.stats.sup.linkUps } } }) ∧
  (∀ (s : State) (c d : Carrier) (a b : Nat) (pair : Bool) (e : Entry) (check : Word16),
    dispatch c .empty s = s ∧
    dispatch c .unknown s = { s with carriers := s.carriers.set c { s.car c with stats := { (s.car c).stats with
      lac := { (s.car c).stats.lac with unknown := min ((s.car c).stats.lac.unknown + 1) 4294967295 } } } } ∧
    dispatch c .badEntry s = { s with receiver := { s.receiver with stale := min (s.receiver.stale + 1) 65535 } } ∧
    dispatch c (.message (.order d a b pair)) s = takeOrder d a b pair s ∧
    dispatch c (.message (.cancel d a pair)) s = takeCancel d a pair s ∧
    dispatch c (.message (.confirm d a b)) s = takeConfirm d a b s ∧
    dispatch c (.message (.refuse d a b)) s = takeRefuse d a b s ∧
    dispatch c (.message (.tableEntry a b e)) s = takeEntry a b e s ∧
    dispatch c (.message (.tableEnd a b check)) s = takeEnd a b check s ∧
    dispatch c (.message (.tableAbort a)) s = takeAbort a s ∧
    dispatch c (.message (.tableAck a b)) s = takeAck a b s ∧
    dispatch c (.message (.tableResult a b)) s = takeResult a b s)

/-- A valid slot from a SEEKING peer halts an ACTIVE or QUIET carrier when a carrier concerned, itself or either of its
pair, is not at base with nothing open and nothing armed (R136): after stages 1 and 2 (R121, R125, R133) HALTED entry,
cause seeking peer, for a pair of both carriers, the other with cause partner and FORCE_BASE naming both (R137, R138; the
lower carrier's SET_ATTEN first: the model's, log 45), the sender following (R164); and the rest of the slot is discarded
and counted (R119). -/
def Obligations.SeekingPeerHaltsTheCarrier : Prop :=
  ∀ (s : State) (c : Carrier) (o : List Byte) (x : Slot) (k : CarrierState), s.resetHeld = false → o.length = 16 →
    decodeSlot c o = some x → x.link = .seeking → k = s.car c → (k.sup.link = .active ∨ k.sup.link = .quiet) →
    (∃ d : Carrier, (d = c ∨ (s.paired c = true ∧ d = partner c)) ∧
      ((s.car d).tac.current ≠ 0 ∨ (s.car d).rac.current ≠ 0 ∨ (s.car d).tac.order ≠ none ∨
        (s.car d).rac.armed ≠ none)) →
    ∃ u v t : State, exec (.slotIn (carrierByte c) o) s = .next t ∧
      u = { s with
        modem := { s.modem with partialRecord := [] }
        carriers := s.carriers.set c { k with
          lac := { k.lac with peerState := some .seeking, peerSeq := some x.seq, peerPair := some x.pair }
          sup := { k.sup with miss := 0 }
          stats := { k.stats with lac := { k.stats.lac with
            valid := min (k.stats.lac.valid + 1) 4294967295
            breaks := if k.lac.peerSeq = none ∨ k.lac.peerSeq.map (· + 1) = some x.seq then k.stats.lac.breaks
              else min (k.stats.lac.breaks + 1) 4294967295
            pairDisagreements := if x.pair = s.paired c then k.stats.lac.pairDisagreements
              else min (k.stats.lac.pairDisagreements + 1) 4294967295 } } } } ∧
      Halted c { k.stats.sup with
        rendezvous := min (k.stats.sup.rendezvous + 1) 4294967295
        seekingPeer := min (k.stats.sup.seekingPeer + 1) 4294967295 } u v ∧
      s.port.sameButNotices v.port ∧
      t = { v with carriers := v.carriers.set c { v.car c with stats := { (v.car c).stats with
        lac := { (v.car c).stats.lac with
          haltedByReceipt := min ((v.car c).stats.lac.haltedByReceipt + 1) 4294967295 } } } }

/-- SLOT_REQUEST: SILENT for a DISABLED or HALTED carrier, with its count; else one SLOT_OUT with the header of R108
and, for an ACTIVE or QUIET carrier, the message that R114 chooses, whose place changes by R112 (R11, R113).  Arbitration
(R114): the chosen message is a candidate of the lowest class present, and the oldest of that class (the Out Queue stands
from the oldest to the newest: the model's, log 26); NONE exactly when no message is a candidate, an ORDER being one
while its ridden flag is clear.  The cap in the header is the highest member of the candidate set, the same for both
carriers of a pair (R58, R59). -/
def Obligations.SlotRequestAnsweredByArbitration : Prop :=
  (∀ (s : State) (c : Carrier) (x : LacStats) (h : SlotHeader), s.resetHeld = false → x = (s.car c).stats.lac →
      h = { link := s.link c, carrier := c, pair := s.paired c, seq := s.timebase.superframe.setWidth 8
            advice := if s.link c = .seeking then 0 else (s.car c).rac.advice
            power := if s.link c = .seeking then 0 else (s.car c).rac.power
            cap := s.cap c, atten := (s.car c).tac.atten
            headroom := (s.car c).tac.atten - (s.car c).sup.record.attenMin, digest := s.tables.digest } →
      ∃ t : State, exec (.slotRequest (carrierByte c)) s = .next t ∧ OthersSame c s t ∧
        t.car c = { s.car c with stats := { (s.car c).stats with lac := (t.car c).stats.lac } } ∧
        t = { s with
          carriers := t.carriers, outQueue := t.outQueue, sender := t.sender
          modem := { s.modem with partialRecord := [], outbound := t.modem.outbound } } ∧
        (s.link c = .disabled ∨ s.link c = .halted →
          t.modem.outbound = s.modem.outbound ++ [.slotOut c none] ∧ t.outQueue = s.outQueue ∧ t.sender = s.sender ∧
          (t.car c).stats.lac = { x with silent := min (x.silent + 1) 4294967295 }) ∧
        (s.link c = .seeking ∨ ((s.link c = .active ∨ s.link c = .quiet) ∧ s.arbitrated = none) →
          t.modem.outbound = s.modem.outbound ++ [.slotOut c (some (slotOctets h none))] ∧
          t.outQueue = s.outQueue ∧ t.sender = s.sender ∧
          (t.car c).stats.lac = { x with sent := min (x.sent + 1) 4294967295 }) ∧
        (∀ m, s.link c = .active ∨ s.link c = .quiet → s.arbitrated = some m →
          t.modem.outbound = s.modem.outbound ++ [.slotOut c (some (slotOctets h (some m.msg)))] ∧
          t.outQueue = (if m.msg.isOrder then
              s.outQueue.map (fun y => if y.place = m.place then { y with ridden := true } else y)
            else s.outQueue.filter fun y => y.place != m.place) ∧
          t.sender = (if m.place = .s ∧ (s.sender.state = .sending ∨ s.sender.state = .awaitingResult) then
            { s.sender with wait := some 8 } else s.sender) ∧
          (t.car c).stats.lac = { x with
            sent := min (x.sent + 1) 4294967295
            sentClass1 := if m.msg.cls = 1 then min (x.sentClass1 + 1) 4294967295 else x.sentClass1
            sentClass2 := if m.msg.cls = 2 then min (x.sentClass2 + 1) 4294967295 else x.sentClass2
            sentClass3 := if m.msg.cls = 3 then min (x.sentClass3 + 1) 4294967295 else x.sentClass3 })) ∧
  (∀ s : State,
      (s.arbitrated = none ↔ ∀ m ∈ s.outQueue, m.msg.cls = 2 ∧ m.ridden = true) ∧
      (∀ m, s.arbitrated = some m →
        (m.msg.cls ≠ 2 ∨ m.ridden = false) ∧
        ∃ older newer : List Placed, s.outQueue = older ++ m :: newer ∧
          (∀ y ∈ older, y.msg.cls ≠ 2 ∨ y.ridden = false → m.msg.cls < y.msg.cls) ∧
          (∀ y ∈ newer, y.msg.cls ≠ 2 ∨ y.ridden = false → m.msg.cls ≤ y.msg.cls))) ∧
  (∀ (s : State) (c g : Carrier) (member : Nat → Prop), g = (if s.isUpper c then lowerOf c else c) →
      (∀ i, member i ↔ (s.tables.enableSets.get g).getLsbD i = true ∧ i ≤ (s.car g).sup.inForce.ceiling ∧
        i ≤ s.tables.active.length - 1) →
      member 0 → member (s.cap c) ∧ (∀ i, member i → i ≤ s.cap c) ∧ s.cap c ≤ 15 ∧
        (s.paired c = true → s.cap (partner c) = s.cap c))

/-! ### The profile table (chapter 3) -/

/-- WRITE_PROFILES: with arguments that pass, owner HOST, the named places hold the entries given, the others what they
held, and the Pending Table is COMPLETE; with owner TRANSFER it is BUSY; with arguments that fail BAD_ARGUMENT, and
nothing is written (R44).  ENABLE_PROFILES adds and DISABLE_PROFILES removes the named profiles at the named carriers,
never profile 0; a carrier mask that names none, or one above 3, is BAD_ARGUMENT and changes nothing (R57). -/
def Obligations.ProfilesWrittenAndEnabled : Prop :=
  (∀ (s : State) (f : Frame) (rest : List Frame) (start count : Byte) (given : List (Nat × Entry)) (good : Prop),
      Waiting s f rest → f.kind = 0x0A → 1 ≤ given.length → given.length ≤ 16 →
      (∀ x ∈ given, x.1 < 256 ∧ x.2.modulation < 256 ∧ x.2.code < 256 ∧ x.2.thr < 65536 ∧ x.2.hyst < 256) →
      f.body = start :: count :: given.flatMap (fun x => entryOctets x.1 x.2) → s.tables.pending.length = 16 →
      (good ↔ start.toNat ≤ 15 ∧ 1 ≤ count.toNat ∧ start.toNat + count.toNat ≤ 16 ∧ given.length = count.toNat ∧
        ∀ j x, given[j]? = some x → x.1 = start.toNat + j ∧
          x.2.modulation ≤ 10 ∧ x.2.code ≤ 7 ∧ x.2.thr ≤ 1020 ∧
          (start.toNat + j = 0 → x.2.modulation = 0 ∧ x.2.code = 0)) →
      (good → s.tables.owner = .host → ∃ places : List (Option Entry),
        exec .writeProfiles s = .next { s with
          port := s.answered f rest [0x00]
          tables := { s.tables with pending := places, completeness := .complete } } ∧
        places.length = 16 ∧
        (∀ j x, given[j]? = some x → places[start.toNat + j]? = some (some x.2)) ∧
        (∀ i, i < start.toNat ∨ start.toNat + count.toNat ≤ i → places[i]? = s.tables.pending[i]?)) ∧
      (good → s.tables.owner = .transfer →
        exec .writeProfiles s = .next { s with port := s.answered f rest [0x04] }) ∧
      (¬ good → exec .writeProfiles s = .next { s with port := s.answered f rest [0x03] })) ∧
  (∀ (s : State) (f : Frame) (rest : List Frame) (mask hi lo : Byte), Waiting s f rest → f.body = [mask, hi, lo] →
      (mask.toNat = 0 ∨ 16 ≤ mask.toNat →
        (f.kind = 0x08 → exec .enableProfiles s = .next { s with port := s.answered f rest [0x03] }) ∧
        (f.kind = 0x09 → exec .disableProfiles s = .next { s with port := s.answered f rest [0x03] })) ∧
      (1 ≤ mask.toNat → mask.toNat ≤ 15 → ∃ sets : Four (BitVec 16),
        ((f.kind = 0x08 → exec .enableProfiles s = .next { s with
            port := s.answered f rest [0x00], tables := { s.tables with enableSets := sets } }) ∧
          (f.kind = 0x09 → exec .disableProfiles s = .next { s with
            port := s.answered f rest [0x00], tables := { s.tables with enableSets := sets } })) ∧
        ∀ (c : Carrier) (p : Nat), p < 16 →
          (f.kind = 0x08 → (sets.get c).getLsbD p =
            ((s.tables.enableSets.get c).getLsbD p || (mask.getLsbD c.val && (hi ++ lo).getLsbD p))) ∧
          (f.kind = 0x09 → (sets.get c).getLsbD p = ((s.tables.enableSets.get c).getLsbD p &&
            !(mask.getLsbD c.val && (hi ++ lo).getLsbD p && decide (p ≠ 0))))))

/-- APPLY_TABLE makes its checks in the order of R47 and answers the first that fails; when all pass, a copy of the
Pending Table's first n_used entries is scheduled.  The first offending index of a table is the first at which a
condition of R41 fails, and a profile at or above n is in use at a carrier as R48 lists. -/
def Obligations.ApplyTableChecks : Prop :=
  (∀ (s : State) (f : Frame) (rest : List Frame) (n : Byte) (entries : List Entry),
      Waiting s f rest → f.kind = 0x0C → f.body = [n] → s.tables.pending.length = 16 →
      (n.toNat = 0 ∨ 17 ≤ n.toNat ∨ s.tables.completeness = .incomplete ∨
          (∃ i, i < n.toNat ∧ s.tables.pending[i]? = some none) →
        exec .applyTable s = .next { s with port := s.answered f rest [0x03] }) ∧
      (1 ≤ n.toNat → n.toNat ≤ 16 → s.tables.completeness = .complete →
        s.tables.pending.take n.toNat = entries.map some →
        (∀ i, firstOffending entries = some i →
          exec .applyTable s = .next { s with port := s.answered f rest [0x07, byteOf i] }) ∧
        (firstOffending entries = none →
          (∀ c : Carrier, inUseAt n.toNat (s.car c) = true → (∀ d : Carrier, d < c → inUseAt n.toNat (s.car d) = false) →
            exec .applyTable s = .next { s with port := s.answered f rest [0x06, carrierByte c] }) ∧
          ((∀ c : Carrier, inUseAt n.toNat (s.car c) = false) →
            (s.tables.scheduled.isSome = true →
              exec .applyTable s = .next { s with port := s.answered f rest [0x04] }) ∧
            (s.tables.scheduled = none →
              exec .applyTable s = .next { s with
                port := s.answered f rest [0x00], tables := { s.tables with scheduled := some entries } }))))) ∧
  (∀ (table : List Entry) (offends : Nat → Prop),
    (∀ j, offends j ↔ ∃ x y, table[j]? = some x ∧ table[j + 1]? = some y ∧
      ¬ (x.thr < y.thr ∧ y.hyst + x.thr ≤ y.thr ∧ y.modulation ≤ 10 ∧ y.code ≤ 7)) →
    (∀ i, firstOffending table = some i ↔ ∃ j, i = j + 1 ∧ offends j ∧ ∀ m, m < j → ¬ offends m) ∧
    (firstOffending table = none ↔ ∀ j, ¬ offends j)) ∧
  (∀ (n : Nat) (k : CarrierState), inUseAt n k = true ↔
    n ≤ k.tac.current ∨ n ≤ k.rac.current ∨ (∃ a, k.rac.armed = some a ∧ n ≤ a.target) ∨
    (∃ o, k.tac.order = some o ∧ (k.tac.state = .ordered ∨ k.tac.state = .committed) ∧ n ≤ o.target))

/-- APPLY_EFFECT at a boundary at which the Store's work is not yet done (a boundary does it whole: log 3): a scheduled
apply waits while an order is open; else it is abandoned when a profile at or above its n_used is in use (R51), or becomes
the Active Table with its digest (R53), the mismatch of every carrier is formed with the new digest (R50, R122), and
TABLE_EVENT(APPLY, APPLIED) is placed, after the alarms of that (the order of the notices of one event is the model's, log
5).  Away from a boundary, and after the Store's work of one, it does nothing: an apply scheduled, or freed by the close of
an order, after the boundary was taken waits for the next (R47, R50), and every boundary leaves that work done.  The free
values drawn are others next (log 46). -/
def Obligations.ScheduledApplyTakesEffect : Prop :=
  (∀ (s : State) (entries : List Entry) (digest : Word16) (w : State), s.resetHeld = false →
    digest = crc16 (byteOf entries.length ::
      (entries.drop 1).flatMap fun e => [byteOf e.modulation, byteOf e.code]) →
    w = { s with choices := s.choices + 1, tables := { s.tables with effectDue := false } } →
    (s.timebase.atBoundary = false ∨ s.tables.effectDue = false → exec .applyEffect s = .next s) ∧
    (s.timebase.atBoundary = true → s.tables.effectDue = true →
      (s.tables.scheduled = none → exec .applyEffect s = .next w) ∧
      ((∃ c : Carrier, (s.car c).tac.isOpen = true) → exec .applyEffect s = .next w) ∧
      (s.tables.scheduled = some entries → (∀ c : Carrier, (s.car c).tac.isOpen = false) →
        ((∃ c : Carrier, inUseAt entries.length (s.car c) = true) →
          ∃ p : Port, exec .applyEffect s = .next { w with
            port := p, tables := { w.tables with scheduled := none } } ∧ Noticed (.tableEvent .apply 10) s p) ∧
        ((∀ c : Carrier, inUseAt entries.length (s.car c) = false) →
          ∃ t, exec .applyEffect s = .next t ∧
            t = { w with
              carriers := t.carriers, port := t.port
              tables := { w.tables with active := entries, digest, scheduled := none }
              alarms := { s.alarms with collapsed := t.alarms.collapsed, alert := t.alarms.alert } } ∧
            (∃ p : Port, s.port.sameButNotices p ∧ Noticed (.tableEvent .apply 4) { s with port := p } t.port) ∧
            ∀ (c : Carrier) (differs : Bool),
              (differs = true ↔ ∃ d, (s.car c).lac.peerDigest = some d ∧ d ≠ digest) →
              t.car c = { s.car c with
                lac := { (s.car c).lac with mismatch := differs }
                wires := { (s.car c).wires with mismatch := differs } })))) ∧
  (∀ (place : Carrier → Nat) (order : AlarmKind → List Carrier) (s : State),
    (boundaryWith place order s).tables.effectDue = false)

/-! ### Remote table transfer (chapter 9) -/

/-- PUSH_TABLE makes its checks in the order of R160 and answers the first that fails; else the table is copied into
the buffer and its transfer starts with entry 0.  ABORT_PUSH is NOT_NOW in IDLE and else ends the transfer with a
TABLE_ABORT (R165). -/
def Obligations.PushStartsAndAborts : Prop :=
  ∀ (s : State) (f : Frame) (rest : List Frame), Waiting s f rest →
    (∀ source : Byte, f.kind = 0x0D → f.body = [source] →
      (2 ≤ source.toNat → exec .pushTable s = .next { s with port := s.answered f rest [0x03] }) ∧
      (source.toNat ≤ 1 → s.sender.state ≠ .idle → s.sender.state ≠ .done →
        exec .pushTable s = .next { s with port := s.answered f rest [0x04] }) ∧
      (source.toNat ≤ 1 → s.sender.state = .idle ∨ s.sender.state = .done →
        ((∀ c : Carrier, s.link c ≠ .active) →
          exec .pushTable s = .next { s with port := s.answered f rest [0x08] }) ∧
        ((∃ c : Carrier, s.link c = .active) →
          (source = 1 → s.tables.completeness = .incomplete ∨ s.tables.pending.head?.getD none = none →
            exec .pushTable s = .next { s with port := s.answered f rest [0x03] }) ∧
          (∀ table : List Entry, (source = 0 ∧ table = s.tables.active) ∨
              (source = 1 ∧ s.tables.completeness = .complete ∧ table ≠ [] ∧
                s.tables.pending.takeWhile Option.isSome = table.map some) →
            exec .pushTable s = .next { s with
              port := s.answered f rest [0x00]
              sender := { s.sender with
                state := .sending, id := (s.sender.id + 1) % 256, buffer := table, next := 0, retry := 0
                wait := none, last := none }
              outQueue := queueWith .s
                (.tableEntry ((s.sender.id + 1) % 256) 0 (table.getD 0 ⟨0, 0, 0, 0⟩)) s.outQueue })))) ∧
    (f.kind = 0x0E → f.body = [] →
      (s.sender.state = .idle → exec .abortPush s = .next { s with port := s.answered f rest [0x09] }) ∧
      (s.sender.state ≠ .idle → exec .abortPush s = .next { s with
        port := s.answered f rest [0x00]
        sender := { s.sender with state := .idle, last := some 8, wait := none, resume := none }
        outQueue := queueWith .s (.tableAbort s.sender.id) s.outQueue }))

/-- Acknowledgements and results at a sender that is not PAUSED: progress to the entry acknowledged, or to TABLE_END
after the last (R161); a result of the transfer ends it (R163); anything else is only counted as stale.  At a boundary
the wait of a sender in SENDING or AWAITING_RESULT decrements, and at 0 it expires (R161).  ACK_WAIT_EXPIRY: below 16
retries the message of the state is placed again and the retry counted; at 16 the transfer fails with NO_RESPONSE, its
place emptied (R162), also where no carrier is ACTIVE (the model's choice, log 47). -/
def Obligations.SenderAdvancesAndWaits : Prop :=
  (∀ (s : State) (id k outcome : Nat) (stale : State), s.sender.state ≠ .paused →
     stale = { s with sender := { s.sender with stale := min (s.sender.stale + 1) 65535 } } →
     (s.sender.state ≠ .sending ∨ id ≠ s.sender.id ∨ k ≤ s.sender.next ∨ s.sender.buffer.length < k →
       takeAck id k s = stale) ∧
     (s.sender.state = .sending → id = s.sender.id → s.sender.next < k →
       (k < s.sender.buffer.length → takeAck id k s = { s with
         sender := { s.sender with next := k, retry := 0, wait := none }
         outQueue := queueWith .s (.tableEntry id k (s.sender.buffer.getD k ⟨0, 0, 0, 0⟩)) s.outQueue }) ∧
       (k = s.sender.buffer.length → takeAck id k s = { s with
         sender := { s.sender with next := k, retry := 0, wait := none, state := .awaitingResult }
         outQueue := queueWith .s (.tableEnd id k (transferCheck s.sender.buffer)) s.outQueue })) ∧
     ((s.sender.state ≠ .sending ∧ s.sender.state ≠ .awaitingResult) ∨ id ≠ s.sender.id →
       takeResult id outcome s = stale) ∧
     (s.sender.state = .sending ∨ s.sender.state = .awaitingResult → id = s.sender.id →
       ∃ p : Port, takeResult id outcome s = { s with
         port := p
         sender := { s.sender with state := .done, last := some outcome, wait := none }
         outQueue := s.outQueue.filter fun m => m.place != .s } ∧ Noticed (.tableEvent .push outcome) s p)) ∧
  (∀ s : State, s.resetHeld = false → s.timebase.atBoundary = true → s.sender.wait = some 0 →
     (s.sender.state = .sending → s.sender.retry < 16 →
       exec .ackWaitExpiry s = .next { s with
         sender := { s.sender with retry := s.sender.retry + 1, wait := none }
         outQueue := queueWith .s (.tableEntry s.sender.id s.sender.next
           (s.sender.buffer.getD s.sender.next ⟨0, 0, 0, 0⟩)) s.outQueue }) ∧
     (s.sender.state = .awaitingResult → s.sender.retry < 16 →
       exec .ackWaitExpiry s = .next { s with
         sender := { s.sender with retry := s.sender.retry + 1, wait := none }
         outQueue := queueWith .s (.tableEnd s.sender.id s.sender.buffer.length
           (transferCheck s.sender.buffer)) s.outQueue }) ∧
     (s.sender.state = .sending ∨ s.sender.state = .awaitingResult → 16 ≤ s.sender.retry →
       ∃ p : Port, exec .ackWaitExpiry s = .next { s with
         port := p
         sender := { s.sender with state := .failed, last := some 9, wait := none }
         outQueue := s.outQueue.filter fun m => m.place != .s } ∧ Noticed (.tableEvent .push 9) s p)) ∧
  (∀ s t : State, t = senderBoundary s →
     (s.sender.wait = none ∨ (s.sender.state ≠ .sending ∧ s.sender.state ≠ .awaitingResult) → t = s) ∧
     (∀ w, s.sender.wait = some w → s.sender.state = .sending ∨ s.sender.state = .awaitingResult →
       (2 ≤ w → t = { s with sender := { s.sender with wait := some (w - 1) } }) ∧
       (w ≤ 1 → s.resetHeld = false → s.timebase.atBoundary = true →
         exec .ackWaitExpiry { s with sender := { s.sender with wait := some 0 } } = .next t)))

/-- TABLE_ENTRY at the receiver (R168, R169): in RX_IDLE entry 0 of a new id starts a reception with the permission and
is REFUSED without; in RECEIVING the expected entry is written and acknowledged, another is acknowledged again, and entry
0 of another id restarts the reception with the permission, and without it ends both as REFUSED (ids: log 40); another
entry of another id, and in RX_IDLE another index or the id last ended, is stale.  TABLE_END: in RECEIVING a table that
did not arrive whole is CHECK_FAILED and released INCOMPLETE, one that did is released COMPLETE, and is HELD without
remote_apply, else APPLIED, INVALID, IN_USE or BUSY by the checks of R47 (R170); of another id it is stale; in RX_IDLE the
result of the id last ended is placed again unless it was REFUSED, and any other is stale (R168).  TABLE_ABORT of the
current id releases the table INCOMPLETE, empties the Q place and leaves no last result; else it is stale (R171). -/
def Obligations.ReceiverTakesATransfer : Prop :=
  (∀ (s : State) (id index : Nat) (e base : Entry) (stale started : State),
      stale = { s with receiver := { s.receiver with stale := min (s.receiver.stale + 1) 65535 } } →
      base = { e with modulation := 0, code := 0 } →
      started = { s with
        receiver := { s.receiver with state := .receiving, id := some id, next := 1 }
        tables := { s.tables with
          pending := (List.replicate 16 none).set 0 (some base), completeness := .incomplete, owner := .transfer }
        outQueue := queueWith .q (.tableAck id 1) s.outQueue } →
      (s.receiver.state = .idle →
        (index ≠ 0 ∨ s.receiver.lastId = some id → takeEntry id index e s = stale) ∧
        (index = 0 → s.receiver.lastId ≠ some id →
          (s.receiver.remoteWrite = true → takeEntry id index e s = started) ∧
          (s.receiver.remoteWrite = false → ∃ p : Port, takeEntry id index e s = { s with
            port := p
            receiver := { s.receiver with
              state := .idle, id := none, next := 0, lastId := some id, lastResult := some 1 }
            outQueue := queueWith .q (.tableResult id 1) s.outQueue } ∧ Noticed (.tableEvent .receive 1) s p))) ∧
      (∀ i, s.receiver.state = .receiving → s.receiver.id = some i →
        (id = i → index = s.receiver.next → takeEntry id index e s = { s with
          receiver := { s.receiver with next := s.receiver.next + 1 }
          tables := { s.tables with
            pending := s.tables.pending.set index (some (if index = 0 then base else e)) }
          outQueue := queueWith .q (.tableAck i (s.receiver.next + 1)) s.outQueue }) ∧
        (id = i → index ≠ s.receiver.next → takeEntry id index e s = { s with
          outQueue := queueWith .q (.tableAck i s.receiver.next) s.outQueue }) ∧
        (id ≠ i → index ≠ 0 → takeEntry id index e s = stale) ∧
        (id ≠ i → index = 0 → s.receiver.remoteWrite = true → takeEntry id index e s = started) ∧
        (id ≠ i → index = 0 → s.receiver.remoteWrite = false → ∃ p q : Port, takeEntry id index e s = { s with
          port := q
          receiver := { s.receiver with
            state := .idle, id := none, next := 0, lastId := some id, lastResult := some 1 }
          tables := { s.tables with owner := .host, completeness := .incomplete }
          outQueue := queueWith .q (.tableResult id 1) s.outQueue } ∧
          Noticed (.tableEvent .receive 1) s p ∧ Noticed (.tableEvent .receive 1) { s with port := p } q))) ∧
  (∀ (s : State) (i count result : Nat) (check : Word16) (entries : List Entry) (whole : Prop),
      s.receiver.state = .receiving → s.receiver.id = some i →
      (whole ↔ count = s.receiver.next ∧ s.tables.pending.take count = entries.map some ∧
        transferCheck entries = check) →
      (∀ other, s.tables.pending.take count = other.map some → other = entries) →
      s.tables.pending.length = 16 → count ≤ 16 →
      (result = 2 ∧ ¬ whole) ∨
      (whole ∧ ((result = 3 ∧ s.receiver.remoteApply = false) ∨
        (s.receiver.remoteApply = true ∧
          ((result = 5 ∧ (count = 0 ∨ (firstOffending entries).isSome = true)) ∨
           (1 ≤ count ∧ firstOffending entries = none ∧
            ((result = 6 ∧ ∃ c : Carrier, inUseAt count (s.car c) = true) ∨
             ((∀ c : Carrier, inUseAt count (s.car c) = false) ∧
              ((result = 7 ∧ s.tables.scheduled.isSome = true) ∨
               (result = 4 ∧ s.tables.scheduled = none))))))))) →
      ∃ p : Port, takeEnd i count check s = { s with
          port := p
          receiver := { s.receiver with
            state := .idle, id := none, next := 0, lastId := some i, lastResult := some result }
          tables := { s.tables with
            owner := .host, completeness := if result = 2 then .incomplete else .complete
            scheduled := if result = 4 then some entries else s.tables.scheduled }
          outQueue := queueWith .q (.tableResult i result) s.outQueue } ∧
        Noticed (.tableEvent .receive result) s p) ∧
  (∀ (s stale : State) (id count : Nat) (check : Word16),
    stale = { s with receiver := { s.receiver with stale := min (s.receiver.stale + 1) 65535 } } →
    (∀ i, s.receiver.state = .receiving → s.receiver.id = some i → id ≠ i → takeEnd id count check s = stale) ∧
    (s.receiver.state = .idle →
      (s.receiver.lastId ≠ some id ∨ s.receiver.lastResult = none ∨ s.receiver.lastResult = some 1 →
        takeEnd id count check s = stale) ∧
      (∀ r, s.receiver.lastId = some id → s.receiver.lastResult = some r → r ≠ 1 →
        takeEnd id count check s = { s with outQueue := queueWith .q (.tableResult id r) s.outQueue })) ∧
    (s.receiver.state = .idle ∨ s.receiver.id ≠ some id → takeAbort id s = stale) ∧
    (s.receiver.state = .receiving → s.receiver.id = some id → ∃ p : Port, takeAbort id s = { s with
      port := p
      receiver := { s.receiver with state := .idle, id := none, next := 0, lastId := some id, lastResult := none }
      tables := { s.tables with owner := .host, completeness := .incomplete }
      outQueue := s.outQueue.filter fun m => m.place != .q } ∧ Noticed (.tableEvent .receive 8) s p))

/-! ### Carrier configuration and supervision (chapter 7) -/

/-- SET_CARRIER: a carrier above 3, or a record out of the ranges of R126, is BAD_ARGUMENT; a change of pairing with a
carrier of the position in service is NOT_NOW (R128).  Else the record replaces the carrier's whole, with its pairing
for the position, its SELECT_BRANCH due (R34) and its raised attenuation floor (R103, R129, R130), and a change of pairing leaves
the T and V places of both carriers empty (R130; a REFUSE of R70 with them, log 38); with its enabled field as the link
state has it, no entry is made. -/
def Obligations.SetCarrierReplacesTheRecord : Prop :=
  ∀ (s : State) (f : Frame) (rest : List Frame) (n : Byte) (c : Carrier) (paired : Bool) (r : CarrierRecord)
    (k : CarrierState) (bad : Prop), Waiting s f rest → f.kind = 0x06 → f.body = n :: recordOctets paired r →
    k = s.car c →
    r.selHyst < 256 → r.divLost < 256 → r.releaseShift < 256 → r.lead < 256 → r.margin < 256 → r.upHold < 256 →
    r.upStep < 256 → r.ceiling < 256 → r.fixedProfile < 256 → r.attenMin < 256 → -128 ≤ r.rslLo → r.rslLo < 128 →
    -128 ≤ r.rslHi → r.rslHi < 128 → r.fadeLow < 65536 → r.fadeHigh < 65536 → r.w1 < 256 → r.w2 < 256 →
    r.kLock < 256 → r.tHold < 256 → r.tSeek < 65536 →
    (bad ↔ 40 < r.selHyst ∨ r.divLost < 8 ∨ 7 < r.releaseShift ∨ r.lead < 3 ∨ 15 < r.lead ∨ r.upHold = 0 ∨
        r.upStep = 0 ∨ 15 < r.upStep ∨ 15 < r.ceiling ∨ 15 < r.fixedProfile ∨ 30 < r.attenMin ∨ r.rslLo < -110 ∨
        r.rslHi ≤ r.rslLo ∨ -10 < r.rslHi ∨ r.fadeHigh ≤ r.fadeLow ∨ 1020 < r.fadeHigh ∨ r.w1 < 2 ∨ 64 < r.w1 ∨
        r.w2 ≤ r.w1 ∨ r.kLock = 0 ∨ 64 < r.kLock ∨ r.tHold < 4 ∨ r.tSeek < 16 ∨ 4095 < r.tSeek) →
    (bad ↔ recordInRange r = false) ∧
    (4 ≤ n.toNat ∨ bad →
      exec .setCarrier s = .next { s with port := s.answered f rest [0x03] }) ∧
    (n = carrierByte c → ¬ bad →
      (paired ≠ s.paired c → s.link c ≠ .disabled ∨ s.link (partner c) ≠ .disabled →
        exec .setCarrier s = .next { s with port := s.answered f rest [0x09] }) ∧
      (paired = s.paired c ∨ (s.link c = .disabled ∧ s.link (partner c) = .disabled) →
        (r.enabled = true ↔ s.link c ≠ .disabled) →
        exec .setCarrier s = .next { s with
          port := s.answered f rest [0x00]
          pairedA := if c = 0 ∨ c = 1 then paired else s.pairedA
          pairedB := if c = 2 ∨ c = 3 then paired else s.pairedB
          outQueue := if paired = s.paired c then s.outQueue
            else withoutCarrier (partner c) (withoutCarrier c s.outQueue)
          carriers := s.carriers.set c { k with
            sup := { k.sup with record := r }
            est := { k.est with
              selectDue := k.est.selectDue || decide (r.diversity = .select ∧ k.sup.record.diversity ≠ .select) }
            tac := { k.tac with atten := max k.tac.atten r.attenMin } }
          modem := { s.modem with outbound := s.modem.outbound ++
            (if k.tac.atten < r.attenMin ∧ s.link c ≠ .disabled then
              [.setAtten (carrierMask c) r.attenMin] else []) } }))

/-- SET_CARRIER with enabled true brings a DISABLED carrier through HALTED entry, cause enable, with its pairing changed
when both of the position are DISABLED (R130, R132; log 38); with enabled false it takes an enabled one out of service by
DISABLED entry, after the SET_ATTEN of a raised floor (R131; log 37).  RESTART_CARRIER halts an enabled one, is NOT_ENABLED
for a DISABLED one and BAD_ARGUMENT above 3 (R142).  Of a pair the partner halts with it (R138), and the sender follows
(R164).  The model's choices in it: a SELECT_BRANCH due is kept (log 15), one FORCE_BASE names both carriers when one of a
pair is disabled (log 16), the lower carrier's SET_ATTEN goes first when both enter (log 45), and DISABLED entry keeps the
lock seen and the report set (log 27).  The order in which a pair's LINK wires change at DISABLED entry is free: it draws a
free value (R154; log 46). -/
def Obligations.InAndOutOfService : Prop :=
  ∀ (s : State) (f : Frame) (rest : List Frame) (c : Carrier) (paired : Bool) (k : CarrierState) (r : CarrierRecord)
    (due : Bool), Waiting s f rest → k = s.car c → recordInRange r = true →
    due = (k.est.selectDue || decide (r.diversity = .select ∧ k.sup.record.diversity ≠ .select)) →
    (f.kind = 0x06 → f.body = carrierByte c :: recordOctets paired r →
      paired = s.paired c ∨ s.link (partner c) = .disabled → s.link c = .disabled → r.enabled = true →
      ∃ t u : State, exec .setCarrier s = .next t ∧
        u = { s with
          pairedA := if c = 0 ∨ c = 1 then paired else s.pairedA
          pairedB := if c = 2 ∨ c = 3 then paired else s.pairedB
          outQueue := if paired = s.paired c then s.outQueue
            else withoutCarrier (partner c) (withoutCarrier c s.outQueue)
          carriers := s.carriers.set c { k with
            sup := { k.sup with record := r }, est := { k.est with selectDue := due }
            tac := { k.tac with atten := max k.tac.atten r.attenMin } } } ∧
        Halted c { k.stats.sup with rendezvous := min (k.stats.sup.rendezvous + 1) 4294967295 } u t ∧
        (s.answered f rest [0x00]).sameButNotices t.port) ∧
    (f.kind = 0x06 → f.body = carrierByte c :: recordOctets (s.paired c) r → s.link c ≠ .disabled →
      r.enabled = false → ∃ t u : State, exec .setCarrier s = .next t ∧
        u = { s with
          carriers := s.carriers.set c { k with
            sup := { k.sup with record := r }, est := { k.est with selectDue := due }
            tac := { k.tac with atten := max k.tac.atten r.attenMin } }
          modem := { s.modem with outbound := s.modem.outbound ++
            (if k.tac.atten < r.attenMin then [.setAtten (carrierMask c) r.attenMin] else []) } } ∧
        Disabled c u t ∧ (s.answered f rest [0x00]).sameButNotices t.port) ∧
    (f.kind = 0x07 →
      (∀ n : Byte, f.body = [n] → 4 ≤ n.toNat →
        exec .restartCarrier s = .next { s with port := s.answered f rest [0x03] }) ∧
      (f.body = [carrierByte c] → s.link c = .disabled →
        exec .restartCarrier s = .next { s with port := s.answered f rest [0x05] }) ∧
      (f.body = [carrierByte c] → s.link c ≠ .disabled →
        ∃ t : State, exec .restartCarrier s = .next t ∧
          Halted c { k.stats.sup with rendezvous := min (k.stats.sup.rendezvous + 1) 4294967295 } s t ∧
          (s.answered f rest [0x00]).sameButNotices t.port))

/-- The tests of a boundary, with the governing record's limits (R127): lock loss halts an ACTIVE or QUIET carrier
(R134, R135), silence a QUIET one (R135), the end of the seek a SEEKING one (R140), each with its cause counted (R137,
R144) and, of a pair, with its partner (R138; the lower carrier's SET_ATTEN first: the model's, log 45); silence makes an ACTIVE one QUIET (R134); at the end of its holdoff a HALTED
one seeks (R139); and the sender follows each change (R164). -/
def Obligations.SupervisionTests : Prop :=
  ∀ (s : State) (c : Carrier) (k : CarrierState) (g : CarrierRecord) (x : SupStats), s.resetHeld = false →
    s.timebase.atBoundary = true → k = s.car c → g = s.govInForce c → x = k.stats.sup →
    ((k.sup.link = .active ∨ k.sup.link = .quiet) → g.kLock ≤ k.rac.unlocked →
      ∃ t, exec (.lockLossHalt c) s = .next t ∧ s.port.sameButNotices t.port ∧
        Halted c { x with
          rendezvous := min (x.rendezvous + 1) 4294967295, lockLoss := min (x.lockLoss + 1) 4294967295 } s t) ∧
    (k.sup.link = .quiet → k.rac.unlocked < g.kLock → g.w2 ≤ k.sup.miss →
      ∃ t, exec (.silenceHalt c) s = .next t ∧ s.port.sameButNotices t.port ∧
        Halted c { x with
          rendezvous := min (x.rendezvous + 1) 4294967295, silence := min (x.silence + 1) 4294967295 } s t) ∧
    (k.sup.link = .seeking → k.sup.seek = 0 →
      ∃ t, exec (.seekTimeout c) s = .next t ∧ s.port.sameButNotices t.port ∧
        Halted c { x with
          rendezvous := min (x.rendezvous + 1) 4294967295
          seekTimeouts := min (x.seekTimeouts + 1) 4294967295 } s t) ∧
    (k.sup.link = .active → k.rac.unlocked < g.kLock → g.w1 ≤ k.sup.miss →
      ∃ t v, exec (.quietEntry c) s = .next t ∧
        WireFormed .link { s with carriers := s.carriers.set c { k with
          sup := { k.sup with link := .quiet }, wires := { k.wires with link := true }
          stats := { k.stats with sup := { x with quietEntries := min (x.quietEntries + 1) 4294967295 } } } } v ∧
        SenderFollows s.outQueue v t ∧ t = { v with sender := t.sender, outQueue := t.outQueue }) ∧
    (k.sup.link = .halted → k.sup.holdoff = 0 →
      ∃ t v, exec (.holdoffExpiry c) s = .next t ∧
        WireFormed .link { s with carriers := s.carriers.set c { k with
          sup := { k.sup with link := .seeking, seek := (s.govRecord c).tSeek, miss := 0 }
          wires := { k.wires with link := true } } } v ∧
        SenderFollows s.outQueue v t ∧ t = { v with sender := t.sender, outQueue := t.outQueue })

/-- The Supervisor's work at every boundary, wherever it falls and whatever the order of the carriers' wires (logs 4,
46), with the record that came into force there
(R129).  An unpaired carrier: the miss counter (R133), the holdoff (R139) and the seek count (R140) move, and the tests of
R134, R135, R139 and R140 follow in their order, on the unlocked run as the superframe just ended leaves it (R76), with
the counts of R137 and R144.  A pair with both carriers enabled: when either carrier meets a test that halts, both are
HALTED once, with the holdoff of the lower carrier's record (R138). -/
def Obligations.SupervisorAtABoundary : Prop :=
  ∀ (place : Carrier → Nat) (order : AlarmKind → List Carrier) (s t : State) (c : Carrier) (k : CarrierState)
    (r : CarrierRecord) (u : Supervisor) (x : SupStats) (run miss : Nat), (∀ d, place d < 6) →
    (∀ kind, (order kind).Perm [0, 1, 2, 3]) → t = boundaryWith place order s → k = s.car c → x = k.stats.sup →
    run = (if k.rac.lockSeen = true ∧ k.est.minC ≠ none then 0 else min (k.rac.unlocked + 1) 255) →
    miss = min (k.sup.miss + 1) 65535 → u = { k.sup with inForce := k.sup.record } → r = (s.govRecord c) →
    (s.paired c = false → ∀ is : Supervisor → SupStats → Prop,
      (∀ y z, is y z ↔ (t.car c).sup = y ∧ (t.car c).stats.sup = z) →
      (k.sup.link = .disabled → is u x) ∧
      (k.sup.link = .halted →
        (2 ≤ k.sup.holdoff → is { u with holdoff := k.sup.holdoff - 1 } x) ∧
        (k.sup.holdoff ≤ 1 → is { u with link := .seeking, holdoff := 0, seek := r.tSeek, miss := 0 } x)) ∧
      (∀ halted : SupStats → Prop,
        (∀ z, halted z ↔ is { u with link := .halted, miss := 0, seek := 0, holdoff := r.tHold }
          { z with rendezvous := min (x.rendezvous + 1) 4294967295 }) →
        (k.sup.link = .seeking →
          (2 ≤ k.sup.seek → is { u with miss, seek := k.sup.seek - 1 } x) ∧
          (k.sup.seek ≤ 1 → halted { x with seekTimeouts := min (x.seekTimeouts + 1) 4294967295 })) ∧
        (k.sup.link = .active ∨ k.sup.link = .quiet → r.kLock ≤ run →
          halted { x with lockLoss := min (x.lockLoss + 1) 4294967295 }) ∧
        (k.sup.link = .active → run < r.kLock →
          (miss < r.w1 → is { u with miss } x) ∧
          (r.w1 ≤ miss →
            is { u with link := .quiet, miss } { x with quietEntries := min (x.quietEntries + 1) 4294967295 })) ∧
        (k.sup.link = .quiet → run < r.kLock →
          (miss < r.w2 → is { u with miss } x) ∧
          (r.w2 ≤ miss → halted { x with silence := min (x.silence + 1) 4294967295 })))) ∧
    (s.paired c = true → k.sup.link ≠ .disabled → s.link (partner c) ≠ .disabled →
      ((k.sup.link = .active ∨ k.sup.link = .quiet) ∧ r.kLock ≤ run) ∨ (k.sup.link = .quiet ∧ r.w2 ≤ miss) ∨
        (k.sup.link = .seeking ∧ k.sup.seek ≤ 1) →
      ∀ d : Carrier, d = c ∨ d = partner c →
        t.link d = .halted ∧ (t.car d).sup.holdoff = r.tHold ∧ (t.car d).sup.miss = 0 ∧ (t.car d).sup.seek = 0 ∧
        (t.car d).stats.sup.rendezvous = min ((s.car d).stats.sup.rendezvous + 1) 4294967295)

/-! ### Fades and alarms (chapter 8) -/

/-- The Fade Monitor at a boundary: a fade opens on a present superframe with f below fade_low (R146), counts each
superframe and takes the minimum of f (R147), and closes as RECOVERED, as it stands, on a present one with f above
fade_high (R148), with FADE_RECORDED and the FADE wire's alarms (R151, R153, R154); on an absent superframe f may be unset,
and no fade opens or closes.  An append discards the oldest of a
full log and sets the overrun flag (R151).  READ_FADES(n) returns and removes the min(n, held) oldest records and clears
the flag; n of 0 or above 16 is refused and changes neither (R152). -/
def Obligations.FadeMonitorAndLog : Prop :=
  (∀ (s t : State) (c : Carrier) (present : Bool) (fv : Nat) (k : CarrierState), t = fadeBoundary present c s →
    k = s.car c → k.est.f = some fv ∨ (k.est.f = none ∧ present = false) →
    (k.sup.link = .disabled → t = s) ∧
    (k.sup.link ≠ .disabled →
      (k.fade = none → present = false ∨ k.sup.inForce.fadeLow ≤ fv → t = s) ∧
      (k.fade = none → present = true → fv < k.sup.inForce.fadeLow →
        WireFormed .fade { s with carriers := s.carriers.set c { k with
          fade := some ⟨s.timebase.superframe - 1, 1, fv, k.rac.current, k.rac.current⟩
          wires := { k.wires with fade := true } } } t) ∧
      (∀ x, k.fade = some x → present = false ∨ fv ≤ k.sup.inForce.fadeHigh →
        t = { s with carriers := s.carriers.set c { k with fade := some { x with
          duration := min (x.duration + 1) 65535, minF := if present then min x.minF fv else x.minF } } }) ∧
      (∀ x, k.fade = some x → present = true → k.sup.inForce.fadeHigh < fv →
        ∃ p : Port, Noticed (.fadeRecorded c (s.fades.append ⟨c, x, .recovered⟩).log.length) s p ∧
          WireFormed .fade { s with
            carriers := s.carriers.set c { k with fade := none, wires := { k.wires with fade := false } }
            fades := s.fades.append ⟨c, x, .recovered⟩, port := p } t))) ∧
  (∀ (l : FadeLog) (r : FadeRecord), l.log.length ≤ 32 →
    (l.append r).log.length = min (l.log.length + 1) 32 ∧ (l.append r).log.getLast? = some r ∧
    (l.log.length < 32 → (l.append r).overrun = l.overrun ∧ (l.append r).log.dropLast = l.log) ∧
    (l.log.length = 32 → (l.append r).overrun = true ∧ (l.append r).log.dropLast = l.log.drop 1)) ∧
  (∀ (s : State) (f : Frame) (rest : List Frame) (n : Byte), Waiting s f rest → f.kind = 0x10 → f.body = [n] →
    (1 ≤ n.toNat → n.toNat ≤ 16 →
      exec .readFades s = .next { s with
        port := s.answered f rest ([0x00, boolByte s.fades.overrun, byteOf (s.fades.log.length - n.toNat)]
          ++ [byteOf (min n.toNat s.fades.log.length)] ++ (s.fades.log.take n.toNat).flatMap fun r =>
            [carrierByte r.carrier] ++ bytes32 r.fade.start ++ nat16 r.fade.duration ++ nat16 r.fade.minF
              ++ [byteOf r.fade.profileAtStart, byteOf r.fade.lowest, r.endedBy.toByte])
        fades := ⟨s.fades.log.drop n.toNat, false⟩ }) ∧
    (n.toNat = 0 ∨ 17 ≤ n.toNat → exec .readFades s = .next { s with port := s.answered f rest [0x03] }))

/-- The wires: a block that sets a wire of a carrier, or the TIMEBASE or the STORE wire, changes that wire (R153), and its
kind's collapsed wire, the bit of its alarm kind, then is asserted exactly while a carrier's wire of that kind is; a
change of the collapsed wire places ALARM and forms ALERT anew (R154, R155).  Where the one asserted wire of a kind
deasserts and another carrier's asserts together, the deassertion taken first gives two notices, the assertion taken first
none, and the collapsed wire ends asserted; which is first is free (R154; log 46). -/
def Obligations.WiresCollapseWithTheirAlarms : Prop :=
  (∀ (s : State) (c : Carrier) (v : Bool),
    WireFormed .fade { s with carriers := s.carriers.set c { s.car c with
      wires := { (s.car c).wires with fade := v } } } (setWire .fade c v s) ∧
    WireFormed .link { s with carriers := s.carriers.set c { s.car c with
      wires := { (s.car c).wires with link := v } } } (setWire .link c v s) ∧
    WireFormed .diversity { s with carriers := s.carriers.set c { s.car c with
      wires := { (s.car c).wires with diversity := v } } } (setWire .diversity c v s) ∧
    WireFormed .mismatch { s with carriers := s.carriers.set c { s.car c with
      wires := { (s.car c).wires with mismatch := v } } } (setWire .mismatch c v s) ∧
    WireFormed .timebase { s with alarms := { s.alarms with timebaseWire := v } } (setTimebaseWire v s) ∧
    WireFormed .store { s with alarms := { s.alarms with storeWire := v } } (setStoreWire v s)) ∧
  (∀ s : State,
    (s.wireOr .fade = true ↔ ∃ c : Carrier, (s.car c).wires.fade = true) ∧
    (s.wireOr .link = true ↔ ∃ c : Carrier, (s.car c).wires.link = true) ∧
    (s.wireOr .diversity = true ↔ ∃ c : Carrier, (s.car c).wires.diversity = true) ∧
    (s.wireOr .mismatch = true ↔ ∃ c : Carrier, (s.car c).wires.mismatch = true) ∧
    s.wireOr .timebase = s.alarms.timebaseWire ∧ s.wireOr .store = s.alarms.storeWire ∧
    s.collapsedWire .fade = s.alarms.collapsed.getLsbD 0 ∧ s.collapsedWire .link = s.alarms.collapsed.getLsbD 1 ∧
    s.collapsedWire .diversity = s.alarms.collapsed.getLsbD 2 ∧
    s.collapsedWire .mismatch = s.alarms.collapsed.getLsbD 3 ∧
    s.collapsedWire .timebase = s.alarms.collapsed.getLsbD 4 ∧ s.collapsedWire .store = s.alarms.collapsed.getLsbD 5) ∧
  (∀ (s : State) (k : AlarmKind) (c d : Carrier), k ≠ .timebase → k ≠ .store → c ≠ d →
    (∀ e : Carrier, (s.car e).wires.get k = decide (e = c)) → s.collapsedWire k = true →
    s.alarms.noticeEnable.getLsbD k.index = true → s.port.notices.length ≤ 6 →
    (setWire k d true (setWire k c false s)).port.notices = s.port.notices ++ [.alarm k false, .alarm k true] ∧
    (setWire k c false (setWire k d true s)).port.notices = s.port.notices ∧
    (setWire k d true (setWire k c false s)).collapsedWire k = true ∧
    (setWire k c false (setWire k d true s)).collapsedWire k = true)

/-- SET_REMOTE sets both permissions and reports them; a value that is no boolean is BAD_ARGUMENT (R167).
Withdrawing remote_write in RECEIVING ends the reception as REFUSED (R171), with no current id and next 0 (log 40). SET_NOTICES changes both enable sets,
the clear mask governing, forms ALERT again and reports both sets; a mask that names a member its set has not is
BAD_ARGUMENT (R155, R157). No queued notice is removed (R156). -/
def Obligations.PermissionsAndNoticeSets : Prop :=
  (∀ (s : State) (f : Frame) (rest : List Frame) (w a : Byte), Waiting s f rest → f.kind = 0x0F → f.body = [w, a] →
     (2 ≤ w.toNat ∨ 2 ≤ a.toNat → exec .setRemote s = .next { s with port := s.answered f rest [0x03] }) ∧
     (w.toNat ≤ 1 → a.toNat ≤ 1 →
       (s.receiver.state = .idle ∨ w = 1 → exec .setRemote s = .next { s with
         port := s.answered f rest [0x00, w, a]
         receiver := { s.receiver with remoteWrite := w == 1, remoteApply := a == 1 } }) ∧
       (∀ i, s.receiver.state = .receiving → s.receiver.id = some i → w = 0 →
         ∃ p : Port, exec .setRemote s = .next { s with
           port := { s.answered f rest [0x00, w, a] with notices := p.notices, noticesDropped := p.noticesDropped }
           receiver := { s.receiver with
             remoteWrite := false, remoteApply := a == 1, state := .idle, id := none, next := 0
             lastId := some i, lastResult := some 1 }
           tables := { s.tables with owner := .host, completeness := .incomplete }
           outQueue := queueWith .q (.tableResult i 1) s.outQueue } ∧ Noticed (.tableEvent .receive 1) s p))) ∧
  (∀ (s : State) (f : Frame) (rest : List Frame) (a b c d e g : Byte), Waiting s f rest → f.kind = 0x11 →
     f.body = [a, b, c, d, e, g] →
     (4 ≤ a.toNat ∨ 4 ≤ c.toNat ∨ 64 ≤ e.toNat ∨ 64 ≤ g.toNat →
       exec .setNotices s = .next { s with port := s.answered f rest [0x03] }) ∧
     (a.toNat < 4 → c.toNat < 4 → e.toNat < 64 → g.toNat < 64 →
       ∃ (n : BitVec 10) (m : BitVec 6) (alert : Bool),
         exec .setNotices s = .next { s with
           port := s.answered f rest ([0x00] ++ bytes16 (n.setWidth 16) ++ [m.setWidth 8])
           alarms := { s.alarms with
             noticeEnable := n, alertEnable := m, alert } } ∧
         (alert = true ↔ ∃ k : AlarmKind, s.collapsedWire k = true ∧ m.getLsbD k.index = true) ∧
         (∀ i, i < 10 → n.getLsbD i =
           ((s.alarms.noticeEnable.getLsbD i || (a ++ b).getLsbD i) && !(c ++ d).getLsbD i)) ∧
         (∀ i, i < 6 → m.getLsbD i = ((s.alarms.alertEnable.getLsbD i || e.getLsbD i) && !g.getLsbD i))))

/-! ### The Management Port (chapter 10) -/

/-- UNKNOWN_KIND answers a request whose KIND is outside 0x01..0x13 (R177); a request of each of the nineteen kinds whose
body length its kind cannot have is BAD_LENGTH and changes nothing, but that SET_TIMEBASE's operand moves the clock (log
2).  A framer discards a frame without a count on a gap (FRAME_GAP_TIMEOUT) or a LEN above 240, with a count on a line
error or a CRC that differs (R174, R175); a line error on a LEN above 240 is counted (the model's, log 43). -/
def Obligations.BadFramesAndBadRequests : Prop :=
  (∀ (s : State) (f : Frame) (rest : List Frame), Waiting s f rest →
    (f.kind = 0 ∨ 0x14 ≤ f.kind.toNat →
      exec .unknownKind s = .next { s with port := s.answered f rest [0x01] }) ∧
    (∀ (i : Instr) (lengths : List Nat),
      (i, f.kind, lengths) ∈ ([(.identify, 0x01, [0]), (.getStatus, 0x02, [0]), (.getStats, 0x03, [2, 3]),
        (.getCarrier, 0x05, [1]), (.setCarrier, 0x06, [27]), (.restartCarrier, 0x07, [1]), (.enableProfiles, 0x08, [3]),
        (.disableProfiles, 0x09, [3]), (.writeProfiles, 0x0A, (List.range 16).map fun n => 8 + 6 * n),
        (.readProfiles, 0x0B, [3]), (.applyTable, 0x0C, [1]), (.pushTable, 0x0D, [1]), (.abortPush, 0x0E, [0]),
        (.setRemote, 0x0F, [2]), (.readFades, 0x10, [1]), (.setNotices, 0x11, [6]), (.saveSettings, 0x12, [0]),
        (.restart, 0x13, [0])] : List (Instr × Byte × List Nat)) →
      f.body.length ∉ lengths → exec i s = .next { s with port := s.answered f rest [0x02] }) ∧
    (∀ elapsed : Nat, s.timebase.sinceBoundary + elapsed ≤ s.timebase.due → f.kind = 0x04 → f.body.length ≠ 2 →
      exec (.setTimebase elapsed) s = .next { s with
        timebase := { s.timebase with
          sinceBoundary := s.timebase.sinceBoundary + elapsed, atBoundary := s.timebase.atBoundary && elapsed == 0 }
        port := s.answered f rest [0x02] })) ∧
  (∀ s : State, s.resetHeld = false →
    (s.port.framer.state ≠ .hunt → exec .frameGapTimeout s = .next { s with port := { s.port with
      framer := ⟨.hunt, 0, none, 0, [], none⟩ } }) ∧
    (s.port.framer.state = .hunt → exec .frameGapTimeout s = .next s) ∧
    (∀ b : Byte, s.port.framer.state ≠ .hunt → exec (.badFrame [⟨b, true⟩]) s = .next { s with port := { s.port with
      framer := ⟨.hunt, 0, none, 0, [], none⟩, badFrames := min (s.port.badFrames + 1) 65535 } }) ∧
    (∀ b : Byte, s.port.framer.state = .length → 241 ≤ b.toNat →
      exec (.badFrame [⟨b, false⟩]) s = .next { s with port := { s.port with
        framer := ⟨.hunt, 0, none, 0, [], none⟩ } }) ∧
    (∀ (x : Frame) (a b : Byte), s.port.framer.state = .hunt → x.body.length ≤ 240 →
      [a, b] ≠ bytes16 (crc16 ([byteOf x.body.length, x.kind, x.tag] ++ x.body)) →
      exec (.badFrame (([0xC5, byteOf x.body.length, x.kind, x.tag] ++ x.body ++ [a, b]).map (⟨·, false⟩))) s =
        .next { s with port := { s.port with
          framer := ⟨.hunt, 0, none, 0, [], none⟩, badFrames := min (s.port.badFrames + 1) 65535 } }))

/-- FRAME_TRANSMIT starts the next frame by the order of R178, and takes it from its place, also while the reply of a
RESTART served waits in the reply buffer; starting the delayed
reply ends the save (R186). A notice joins a queue with room; in a full one it replaces the oldest of its kind and
key, or is discarded with the notices-dropped flag set (R179). -/
def Obligations.TransmitterAndNoticeQueue : Prop :=
  (∀ s : State, s.resetHeld = false → s.port.restarting = false ∨ s.port.reply ≠ none →
     (∀ b more, s.port.busy = b :: more →
       exec .frameTransmit s = .next { s with port := { s.port with sending := some b, busy := more } }) ∧
     (s.port.busy = [] →
       (∀ r, s.port.reply = some r → s.port.delayed = none ∨ s.port.delayedFirst = false →
         exec .frameTransmit s = .next { s with port := { s.port with
           sending := some r, reply := none, delayedFirst := false } }) ∧
       (∀ d, s.port.delayed = some d → s.port.reply = none ∨ s.port.delayedFirst = true →
         exec .frameTransmit s = .next { s with
           port := { s.port with sending := some d, delayed := none, delayedFirst := false }
           settings := { s.settings with heldReply := none, saveState := .idle } }) ∧
       (s.port.reply = none → s.port.delayed = none →
         (∀ n more, s.port.notices = n :: more →
           exec .frameTransmit s = .next { s with port := { s.port with
             notices := more
             sending := some (match n with
               | .alarm k asserted => ⟨0x40, 0, [byteOf k.index, boolByte asserted]⟩
               | .profileChanged c rx old new => ⟨0x41, 0, [carrierByte c, boolByte rx, byteOf old, byteOf new]⟩
               | .changeFailed c reason =>
                 ⟨0x42, 0, [carrierByte c, boolByte reason.isSome, byteOf (reason.getD 0)]⟩
               | .fadeRecorded c held => ⟨0x43, 0, [carrierByte c, byteOf held]⟩
               | .tableEvent k outcome => ⟨0x44, 0, [k.toByte, byteOf outcome]⟩) } }) ∧
         (s.port.notices = [] → exec .frameTransmit s = .next { s with port := { s.port with sending := none } })))) ∧
  (∀ (n : Notice) (p q : Port), q = enqueueNotice n p → p.sameButNotices q ∧
     (p.notices.length < 8 → q = { p with notices := p.notices ++ [n] }) ∧
     (p.notices.length = 8 → (∀ m ∈ p.notices, m.key ≠ n.key) → q = { p with noticesDropped := true }) ∧
     (∀ older m newer, p.notices = older ++ m :: newer → p.notices.length = 8 → (∀ x ∈ older, x.key ≠ n.key) →
       m.key = n.key → q = { p with notices := older ++ newer ++ [n] }))

/-! ### Settings and resets (chapter 11) -/

/-- SAVE_SETTINGS starts a save in IDLE, its reply held, and is BUSY else (R185); SAVE_WRITE_END compares what is read
back, sets the store-valid state and the STORE wire, and makes the held reply the delayed reply, and a failed save leaves no
intact image, so that a power-on then loads the factory settings (R186; also where the octets read back are an intact image:
log 42); RESTART is
answered OK, and no further request is served (R177): every request command then leaves the part as it is, but that
SET_TIMEBASE's operand moves the clock (log 2). -/
def Obligations.SavesAndRestartRequests : Prop :=
  (∀ (s : State) (f : Frame) (rest : List Frame), Waiting s f rest → f.body = [] →
    (f.kind = 0x12 → s.settings.saveState = .idle →
      exec .saveSettings s = .next { s with
        port := { s.port with queue := rest }
        settings := { s.settings with
          saveState := .writing, heldReply := some f.tag
          writing := imageOctets
            { active := s.tables.active, pairedA := s.pairedA, pairedB := s.pairedB
              records := ⟨(s.car 0).sup.record, (s.car 1).sup.record, (s.car 2).sup.record, (s.car 3).sup.record⟩
              enableSets := s.tables.enableSets
              noticeEnable := s.alarms.noticeEnable, alertEnable := s.alarms.alertEnable
              remoteWrite := s.receiver.remoteWrite, remoteApply := s.receiver.remoteApply } } }) ∧
    (f.kind = 0x12 → s.settings.saveState ≠ .idle →
      exec .saveSettings s = .next { s with port := s.answered f rest [0x04] }) ∧
    (f.kind = 0x13 → exec .restart s = .next { s with
      port := { s.answered f rest [0x00] with restarting := true } })) ∧
  (∀ (s : State) (tag : Byte) (octets : List Byte) (good : Bool), s.resetHeld = false →
    s.settings.saveState = .writing → s.settings.heldReply = some tag → good = decide (octets = s.settings.writing) →
    ∃ t, exec (.saveWriteEnd octets) s = .next t ∧
      t.settings = { s.settings with
        nvm := if good then octets else [], storeValid := good, saveState := .replying } ∧
      (good = false → ∃ v, exec .powerOnReset t = .next v ∧ v.tables.active = factoryTable ∧
        (∀ c : Carrier, (v.car c).sup.record = CarrierRecord.factory (c == 0)) ∧ v.settings.storeValid = false) ∧
      t.alarms.storeWire = !good ∧ t.port.delayed = some ⟨0x92, tag, [if good then 0x00 else 0x0A]⟩ ∧
      t = { s with
        settings := t.settings, port := t.port
        alarms := { s.alarms with
          storeWire := t.alarms.storeWire, collapsed := t.alarms.collapsed, alert := t.alarms.alert } } ∧
      { s.port with delayed := t.port.delayed, delayedFirst := false }.sameButNotices t.port) ∧
  (∀ (s : State) (i : Instr), s.resetHeld = false → s.port.restarting = true →
    i ∈ [.unknownKind, .identify, .getStatus, .getStats, .getCarrier, .setCarrier, .restartCarrier, .enableProfiles,
      .disableProfiles, .writeProfiles, .readProfiles, .applyTable, .pushTable, .abortPush, .setRemote, .readFades,
      .setNotices, .saveSettings, .restart] → exec i s = .next s) ∧
  (∀ (s : State) (elapsed : Nat), s.resetHeld = false → s.port.restarting = true →
    s.timebase.sinceBoundary + elapsed ≤ s.timebase.due →
    exec (.setTimebase elapsed) s = .next { s with timebase := { s.timebase with
      sinceBoundary := s.timebase.sinceBoundary + elapsed, atBoundary := s.timebase.atBoundary && elapsed == 0 } })

/-- POWER_ON_RESET: with no image that is intact and valid the part takes the factory settings and the reset values
(R187), as in the reset state (its choices: log 6) but for what nonvolatile memory, the straps and the queue hold; with a
valid image its settings are loaded and the store is valid.  A write that power-on cut short left no image (log 8), and
RESET is high (log 24).  R184's judgement: no settings are read from an image whose CRC-16 does not match, whose version
is not 1, whose Active Table fails R41 or has an entry 0 other than QPSK 1/2, one of whose records fails R128, or where
the records of a position differ in paired; else the settings its octets hold are read.  The layout of those octets is the
model's (log 7), and so are a length, a thr above 1020 or a permission octet that is not valid, and stray mask bits that
are dropped (log 41). -/
def Obligations.PowerOnLoadsTheSettings : Prop :=
  (∀ (s : State) (nvm : List Byte),
    nvm = (if s.settings.saveState = .writing then [] else s.settings.nvm) →
    (readImage nvm = none → exec .powerOnReset s = .next { State.reset with
      settings := { State.reset.settings with nvm }
      port := { State.reset.port with lineRate := s.straps.rate }
      straps := s.straps, choices := s.choices, pending := s.pending }) ∧
    (∀ i, readImage nvm = some i → ∃ t, exec .powerOnReset s = .next t ∧
      t.tables.active = i.active ∧ t.tables.digest = digestOf i.active ∧ t.tables.enableSets = i.enableSets ∧
      (∀ c : Carrier, (t.car c).sup.record = i.records.get c ∧ (t.car c).sup.inForce = i.records.get c ∧
        (t.car c).sup.link = (if (i.records.get c).enabled then .halted else .disabled)) ∧
      t.pairedA = i.pairedA ∧ t.pairedB = i.pairedB ∧
      t.alarms.noticeEnable = i.noticeEnable ∧ t.alarms.alertEnable = i.alertEnable ∧
      t.receiver.remoteWrite = i.remoteWrite ∧ t.receiver.remoteApply = i.remoteApply ∧
      t.settings = { nvm, storeValid := true, saveState := .idle, heldReply := none, writing := [] } ∧
      t.alarms.timebaseWire = true ∧ t.alarms.storeWire = false ∧ t.resetHeld = false)) ∧
  (∀ (b : List Byte) (n i : Nat) (table : List Entry) (record : Nat → List Byte) (intact valid formed : Prop),
    n = (b.getD 1 0).toNat → i = 2 + 5 * n → (∀ j, record j = (b.drop (i + 26 * j)).take 26) →
    table = (List.range n).map (fun j =>
      ⟨(b.getD (2 + 5 * j) 0).toNat, (b.getD (3 + 5 * j) 0).toNat,
        256 * (b.getD (4 + 5 * j) 0).toNat + (b.getD (5 + 5 * j) 0).toNat, (b.getD (6 + 5 * j) 0).toNat⟩) →
    (intact ↔ 2 ≤ b.length ∧ b.drop (b.length - 2) = bytes16 (crc16 (b.take (b.length - 2))) ∧ b.getD 0 0 = 1) →
    (valid ↔ 1 ≤ n ∧ n ≤ 16 ∧ (∀ e, table[0]? = some e → e.modulation = 0 ∧ e.code = 0) ∧
      (∀ j x y, table[j]? = some x → table[j + 1]? = some y →
        x.thr < y.thr ∧ y.hyst ≤ y.thr - x.thr ∧ y.modulation ≤ 10 ∧ y.code ≤ 7) ∧
      (∀ j, j < 4 → ∃ paired r, record j = recordOctets paired r ∧ recordInRange r = true) ∧
      (record 0).getD 1 0 = (record 1).getD 1 0 ∧ (record 2).getD 1 0 = (record 3).getD 1 0) →
    (formed ↔ b.length = i + 119 ∧ (∀ e ∈ table, e.thr ≤ 1020) ∧ (b.getD (i + 115) 0).toNat ≤ 1 ∧
      (b.getD (i + 116) 0).toNat ≤ 1) →
    (¬ intact → readImage b = none) ∧
    (intact → ¬ valid → readImage b = none) ∧
    (intact → valid → ¬ formed → readImage b = none) ∧
    (intact → valid → formed → ∃ x, readImage b = some x ∧ x.active = table ∧
      (∀ c : Carrier, recordOctets (if c.val < 2 then x.pairedA else x.pairedB) (x.records.get c) = record c.val) ∧
      (∀ (c : Carrier) (p : Nat), p < 16 → (x.enableSets.get c).getLsbD p = (decide (p = 0) ||
        (b.getD (i + 104 + 2 * c.val) 0 ++ b.getD (i + 105 + 2 * c.val) 0).getLsbD p)) ∧
      x.noticeEnable = (b.getD (i + 112) 0 ++ b.getD (i + 113) 0).setWidth 10 ∧
      x.alertEnable = (b.getD (i + 114) 0).setWidth 6 ∧
      b.getD (i + 115) 0 = boolByte x.remoteWrite ∧ b.getD (i + 116) 0 = boolByte x.remoteApply))

/-- LINE_RESET keeps what R189 names and sets the rest to its reset values: its open fades enter the log as RESET (R150),
the framer hunts and the port's queues, replies and frame being sent are gone (R180), a save is abandoned, and the Pending
Table is a COMPLETE copy with owner HOST (R43); an enabled carrier stands HALTED meanwhile (log 13).  RESET_RELEASE then
makes the start-up (R188): the TIMEBASE wire, the STORE wire when the store is invalid, and each enabled carrier HALTED,
its holdoff at T_hold, its LINK wire asserted, its rendezvous counted and its FORCE_BASE and SET_ATTEN issued in increasing
carrier number, the upper carrier of a pair with its enabled lower one (the lower's SET_ATTEN first: the model's, log 45),
with the notices and ALERT of the wires asserted (R154 to R156); with RESET high it has no effect, and the clock, which
ran while RESET was low, stands (log 24).  A RESTART that takes effect does both at once (R177, R189), by
RESTART_TAKES_EFFECT or by FRAME_TRANSMIT in its place (log 25).  A save abandoned in WRITING leaves nonvolatile memory
empty, which R189 takes as not intact (log 8); the branch values before any report are 0 (log 19).  The counter of free values and the command queue, the model's own, are
kept. -/
def Obligations.LineResetReleaseAndRestart : Prop :=
  ∀ s : State, s.resetHeld = false →
    ∃ t u : State, exec .lineReset s = .next t ∧ exec .resetRelease t = .next u ∧
      t.resetHeld = true ∧ u.resetHeld = false ∧ exec .resetRelease s = .next s ∧
      (∀ v : State, v = t ∨ v = u →
        v.tables = { s.tables with
          digest := digestOf s.tables.active, scheduled := none, completeness := .complete, owner := .host
          effectDue := false, pending := (s.tables.active.map some ++ List.replicate 16 none).take 16 } ∧
        (∀ c : Carrier, v.car c = { v.car c with
          est := {
            selection := .a, absentA := 0, absentB := 0, branchLost := false, minC := none, minRsl := none
            minA := none, minB := none, clipSeen := false, f := none, g := none, p := none, rslMin := none
            dynamicClip := false, stickyClip := false, lastA := ⟨false, 0, 0⟩, lastB := ⟨false, 0, 0⟩
            selectDue := false }
          rac := {
            current := 0, armed := none, lastCancelled := none, lastSwitched := none, hold := 0, advice := 0
            power := 0, peerHeadroom := none, peerAtten := none, peerCap := none, unlocked := 0, lockSeen := false }
          tac := {
            current := 0, state := .steady, order := none, nextId := 0, backoff := 0, target := 0
            latestAdvice := none, pendingPower := none, atten := (s.car c).sup.record.attenMin }
          lac := { peerDigest := none, peerState := none, peerSeq := none, peerPair := none, mismatch := false }
          fade := none, reports := 0
          stats := { (s.car c).stats with sup := (v.car c).stats.sup }
          sup := { (v.car c).sup with
            record := (s.car c).sup.record, inForce := (s.car c).sup.record, miss := 0, seek := 0
            link := if (s.car c).sup.record.enabled then .halted else .disabled } }) ∧
        v.timebase = { state := .internal, superframe := 0, sinceBoundary := 0, period := s.timebase.period,
                       rejected := s.timebase.rejected, atBoundary := false } ∧
        v.fades = allCarriers.foldl (fun l c => ((s.car c).fade.map fun x => l.append ⟨c, x, .reset⟩).getD l)
          s.fades ∧
        v.sender = {
          state := .idle, id := 0, buffer := [], next := 0, retry := 0, wait := none, resume := none, last := none
          stale := s.sender.stale } ∧
        v.receiver = { s.receiver with state := .idle, id := none, next := 0, lastId := none, lastResult := none } ∧
        v.outQueue = [] ∧
        v.modem = { discarded := s.modem.discarded, partialRecord := [], outbound := v.modem.outbound } ∧
        v.settings = {
          nvm := if s.settings.saveState = .writing then [] else s.settings.nvm
          storeValid := s.settings.storeValid && s.settings.saveState != .writing
          saveState := .idle, heldReply := none, writing := [] } ∧
        v.port = {
          lineRate := s.straps.rate, framer := ⟨.hunt, 0, none, 0, [], none⟩, queue := [], busy := []
          reply := none, delayed := none, delayedFirst := false, sending := none, notices := v.port.notices
          badFrames := s.port.badFrames, noticesDropped := s.port.noticesDropped
          requestsDropped := s.port.requestsDropped, restarting := false } ∧
        v.alarms.noticeEnable = s.alarms.noticeEnable ∧ v.alarms.alertEnable = s.alarms.alertEnable ∧
        v.pairedA = s.pairedA ∧ v.pairedB = s.pairedB ∧ v.straps = s.straps ∧ v.choices = s.choices ∧
        v.pending = s.pending) ∧
      t.modem.outbound = [] ∧ t.port.notices = [] ∧
      t.alarms = { s.alarms with timebaseWire := false, storeWire := false, collapsed := 0, alert := false } ∧
      (∀ c : Carrier, (t.car c).stats = (s.car c).stats ∧ (t.car c).wires = ⟨false, false, false, false⟩ ∧
        (t.car c).sup.holdoff = 0) ∧
      u.modem.outbound = ([0, 1, 2, 3] : List Carrier).flatMap (fun c =>
        if (s.car c).sup.record.enabled = false ∨
            (s.isUpper c = true ∧ (s.car (lowerOf c)).sup.record.enabled = true) then []
        else entryRecords (s.paired c && (s.car (partner c)).sup.record.enabled) s c) ∧
      (∀ c : Carrier, (u.car c).stats.sup = { (s.car c).stats.sup with
        rendezvous := if (s.car c).sup.record.enabled then min ((s.car c).stats.sup.rendezvous + 1) 4294967295
          else (s.car c).stats.sup.rendezvous
        partner := if (s.car c).sup.record.enabled = true ∧ s.isUpper c = true ∧
            (s.car (lowerOf c)).sup.record.enabled = true then min ((s.car c).stats.sup.partner + 1) 4294967295
          else (s.car c).stats.sup.partner }) ∧
      (∀ c : Carrier,
        (u.car c).sup.holdoff = (if (s.car c).sup.record.enabled then (s.govRecord c).tHold else 0) ∧
        (u.car c).wires = ⟨false, (s.car c).sup.record.enabled, false, false⟩) ∧
      u.alarms.timebaseWire = true ∧ u.alarms.storeWire = !u.settings.storeValid ∧
      (∀ k : AlarmKind, u.collapsedWire k = (match k with
        | .timebase => true
        | .store => !u.settings.storeValid
        | .link => ([0, 1, 2, 3] : List Carrier).any fun c => (s.car c).sup.record.enabled
        | .fade => false
        | .diversity => false
        | .mismatch => false)) ∧
      u.alarms.alert = (u.alarms.collapsed &&& s.alarms.alertEnable != 0) ∧
      u.port.notices = (([.timebase, .store, .link] : List AlarmKind).filter fun k =>
        u.collapsedWire k && s.alarms.noticeEnable.getLsbD k.index).map (fun k => .alarm k true) ∧
      (∀ w : State, w.resetHeld = true → ∃ x, exec .resetRelease w = .next x ∧ x.timebase = w.timebase ∧
        x.resetHeld = false) ∧
      (s.port.restarting = true → s.port.reply = none → s.port.sending.isSome = true →
        exec .restartTakesEffect s = .next u ∧ exec .frameTransmit s = .next u)
end

