-- ==== Sys2Proof/Laws/Four.lean ====
section
/-! SUPPORT. The laws of the four-fold record and of the carriers' contexts: what is read after a change. -/

namespace Sys2Proof

/-- Reading the carrier just written gives the value written. -/
@[simp] theorem Four.get_set_same {α : Type} (v : Four α) (c : Carrier) (x : α) : (v.set c x).get c = x := by
  match c with
  | 0 => rfl
  | 1 => rfl
  | 2 => rfl
  | 3 => rfl

/-- Reading another carrier gives what it held. -/
theorem Four.get_set_other {α : Type} (v : Four α) (x : α) {c d : Carrier} (h : d ≠ c) :
    (v.set c x).get d = v.get d := by
  match c, d with
  | 0, 0 => exact absurd rfl h
  | 0, 1 => rfl
  | 0, 2 => rfl
  | 0, 3 => rfl
  | 1, 0 => rfl
  | 1, 1 => exact absurd rfl h
  | 1, 2 => rfl
  | 1, 3 => rfl
  | 2, 0 => rfl
  | 2, 1 => rfl
  | 2, 2 => exact absurd rfl h
  | 2, 3 => rfl
  | 3, 0 => rfl
  | 3, 1 => rfl
  | 3, 2 => rfl
  | 3, 3 => exact absurd rfl h

/-- Reading any carrier after a write. -/
theorem Four.get_set {α : Type} (v : Four α) (c d : Carrier) (x : α) :
    (v.set c x).get d = if d = c then x else v.get d := by
  by_cases h : d = c
  · subst h
    simp
  · simp [h, Four.get_set_other v x h]

@[simp] theorem Four.get_same {α : Type} (x : α) (c : Carrier) : (Four.same x).get c = x := by
  match c with
  | 0 => rfl
  | 1 => rfl
  | 2 => rfl
  | 3 => rfl

@[simp] theorem Four.get_map {α β : Type} (v : Four α) (f : α → β) (c : Carrier) : (v.map f).get c = f (v.get c) := by
  match c with
  | 0 => rfl
  | 1 => rfl
  | 2 => rfl
  | 3 => rfl

/-- Writing back what is there changes nothing. -/
@[simp] theorem Four.set_get {α : Type} (v : Four α) (c : Carrier) : v.set c (v.get c) = v := by
  match c with
  | 0 => rfl
  | 1 => rfl
  | 2 => rfl
  | 3 => rfl

/-- A second write to a carrier replaces the first. -/
@[simp] theorem Four.set_set {α : Type} (v : Four α) (c : Carrier) (x y : α) : (v.set c x).set c y = v.set c y := by
  match c with
  | 0 => rfl
  | 1 => rfl
  | 2 => rfl
  | 3 => rfl

/-- Two records that agree on every carrier are equal. -/
theorem Four.ext_get {α : Type} {v w : Four α} (h : ∀ c, v.get c = w.get c) : v = w := by
  cases v
  cases w
  have h0 := h 0
  have h1 := h 1
  have h2 := h 2
  have h3 := h 3
  simp only [Four.get] at h0 h1 h2 h3
  simp [h0, h1, h2, h3]

namespace Machine

@[simp] theorem State.car_setCar_same (s : State) (c : Carrier) (x : CarrierState) : (s.setCar c x).car c = x := by
  simp [State.car, State.setCar]

theorem State.car_setCar (s : State) (c d : Carrier) (x : CarrierState) :
    (s.setCar c x).car d = if d = c then x else s.car d := by
  simp [State.car, State.setCar, Four.get_set]

/-- What a carrier holds after a change of one carrier. -/
theorem car_modCar (c d : Carrier) (f : CarrierState → CarrierState) (s : State) :
    (modCar c f s).car d = if d = c then f (s.car c) else s.car d := by
  simp [modCar, State.car_setCar]

@[simp] theorem car_modCar_same (c : Carrier) (f : CarrierState → CarrierState) (s : State) :
    (modCar c f s).car c = f (s.car c) := by
  simp [car_modCar]

theorem car_modCar_other (f : CarrierState → CarrierState) (s : State) {c d : Carrier} (h : d ≠ c) :
    (modCar c f s).car d = s.car d := by
  simp [car_modCar, h]

/-- A carrier is its partner's partner, and never its own. -/
@[simp] theorem partner_partner (c : Carrier) : partner (partner c) = c := by
  revert c
  decide

theorem partner_ne (c : Carrier) : partner c ≠ c := by
  revert c
  decide

end Machine

end Sys2Proof
end

