-- ==== Sys2Proof/Laws/Work.lean ====
section
/-! SUPPORT. What no block changes in its work at a boundary or at an entry: one relation, kept by every shared
operation of that work, so that a statement about a boundary never unfolds it. -/

namespace Sys2Proof.Machine

/-! ### The port -/

theorem Port.sameButNotices_refl (p : Port) : p.sameButNotices p := rfl

theorem Port.sameButNotices_trans {p q r : Port} (h : p.sameButNotices q) (k : q.sameButNotices r) :
    p.sameButNotices r := by
  unfold Port.sameButNotices at *
  rw [h] at k
  exact k

theorem enqueueNotice_same (n : Notice) (p : Port) : p.sameButNotices (enqueueNotice n p) := by
  unfold enqueueNotice Port.sameButNotices
  split
  · rfl
  · split <;> rfl

/-! ### The relation -/

/-- What a carrier keeps through boundary work and entries: its records and its report set. -/
def CarrierState.keeps (k k' : CarrierState) : Prop :=
  k'.sup.record = k.sup.record ∧ k'.sup.inForce = k.sup.inForce ∧ k'.reports = k.reports

/-- What the part keeps through boundary work and entries. -/
structure WorkFrame (s t : State) : Prop where
  timebase : t.timebase = s.timebase
  receiver : t.receiver = s.receiver
  settings : t.settings = s.settings
  straps : t.straps = s.straps
  resetHeld : t.resetHeld = s.resetHeld
  pairedA : t.pairedA = s.pairedA
  pairedB : t.pairedB = s.pairedB
  pending : t.pending = s.pending
  choices : t.choices = s.choices
  tablePlaces : t.tables.pending = s.tables.pending
  completeness : t.tables.completeness = s.tables.completeness
  owner : t.tables.owner = s.tables.owner
  enableSets : t.tables.enableSets = s.tables.enableSets
  discarded : t.modem.discarded = s.modem.discarded
  partialRecord : t.modem.partialRecord = s.modem.partialRecord
  timebaseWire : t.alarms.timebaseWire = s.alarms.timebaseWire
  storeWire : t.alarms.storeWire = s.alarms.storeWire
  noticeEnable : t.alarms.noticeEnable = s.alarms.noticeEnable
  alertEnable : t.alarms.alertEnable = s.alarms.alertEnable
  carriers : ∀ c, (s.car c).keeps (t.car c)
  ridden : ∀ m ∈ t.outQueue, m.ridden = true → m ∈ s.outQueue
  port : s.port.sameButNotices t.port

namespace WorkFrame

theorem refl (s : State) : WorkFrame s s where
  timebase := rfl
  receiver := rfl
  settings := rfl
  straps := rfl
  resetHeld := rfl
  pairedA := rfl
  pairedB := rfl
  pending := rfl
  choices := rfl
  tablePlaces := rfl
  completeness := rfl
  owner := rfl
  enableSets := rfl
  discarded := rfl
  partialRecord := rfl
  timebaseWire := rfl
  storeWire := rfl
  noticeEnable := rfl
  alertEnable := rfl
  carriers := fun _ => ⟨rfl, rfl, rfl⟩
  ridden := fun _ h _ => h
  port := rfl

theorem trans {s t u : State} (h : WorkFrame s t) (k : WorkFrame t u) : WorkFrame s u where
  timebase := k.timebase.trans h.timebase
  receiver := k.receiver.trans h.receiver
  settings := k.settings.trans h.settings
  straps := k.straps.trans h.straps
  resetHeld := k.resetHeld.trans h.resetHeld
  pairedA := k.pairedA.trans h.pairedA
  pairedB := k.pairedB.trans h.pairedB
  pending := k.pending.trans h.pending
  choices := k.choices.trans h.choices
  tablePlaces := k.tablePlaces.trans h.tablePlaces
  completeness := k.completeness.trans h.completeness
  owner := k.owner.trans h.owner
  enableSets := k.enableSets.trans h.enableSets
  discarded := k.discarded.trans h.discarded
  partialRecord := k.partialRecord.trans h.partialRecord
  timebaseWire := k.timebaseWire.trans h.timebaseWire
  storeWire := k.storeWire.trans h.storeWire
  noticeEnable := k.noticeEnable.trans h.noticeEnable
  alertEnable := k.alertEnable.trans h.alertEnable
  carriers := fun c => ⟨(k.carriers c).1.trans (h.carriers c).1, (k.carriers c).2.1.trans (h.carriers c).2.1,
    (k.carriers c).2.2.trans (h.carriers c).2.2⟩
  ridden := fun m hm hr => h.ridden m (k.ridden m hm hr) hr
  port := Port.sameButNotices_trans h.port k.port

/-- A step of the work put behind what came before it. -/
theorem step {s t : State} (f : State → State) (h : WorkFrame s t) (k : ∀ u, WorkFrame u (f u)) :
    WorkFrame s (f t) := h.trans (k t)

/-- A list of steps, one for each member. -/
theorem foldl {α : Type} (f : State → α → State) (k : ∀ u a, WorkFrame u (f u a)) (xs : List α) (s : State) :
    WorkFrame s (xs.foldl f s) := by
  induction xs generalizing s with
  | nil => exact refl s
  | cons x xs ih => exact (k s x).trans (ih (f s x))

/-- A choice between two steps. -/
theorem ite {c : Prop} [Decidable c] {s t u : State} (h : WorkFrame s t) (k : WorkFrame s u) :
    WorkFrame s (if c then t else u) := by
  split
  · exact h
  · exact k

end WorkFrame

/-! ### The shared operations -/

theorem modCar_frame (c : Carrier) (f : CarrierState → CarrierState) (s : State)
    (h : ∀ k : CarrierState, k.keeps (f k)) : WorkFrame s (modCar c f s) where
  __ := WorkFrame.refl s
  carriers := by
    intro d
    rw [car_modCar]
    split
    · rename_i e
      subst e
      exact h _
    · exact ⟨rfl, rfl, rfl⟩
  ridden := fun _ h _ => h
  port := rfl

theorem emit_frame (d : Directive) (s : State) : WorkFrame s (emit d s) := { WorkFrame.refl s with }

theorem placeMessage_frame (p : Place) (m : LacMsg) (s : State) : WorkFrame s (placeMessage p m s) where
  __ := WorkFrame.refl s
  carriers := fun _ => ⟨rfl, rfl, rfl⟩
  ridden := by
    intro x hx hr
    simp only [placeMessage, List.mem_append, List.mem_filter, List.mem_singleton] at hx
    rcases hx with hx | rfl
    · exact hx.1
    · cases hr
  port := rfl

theorem clearPlace_frame (p : Place) (s : State) : WorkFrame s (clearPlace p s) where
  __ := WorkFrame.refl s
  carriers := fun _ => ⟨rfl, rfl, rfl⟩
  ridden := fun _ hx _ => (List.mem_filter.1 hx).1
  port := rfl

theorem placeNotice_frame (n : Notice) (s : State) : WorkFrame s (placeNotice n s) := by
  unfold placeNotice
  split
  · exact { WorkFrame.refl s with carriers := fun _ => ⟨rfl, rfl, rfl⟩, port := enqueueNotice_same n s.port }
  · exact WorkFrame.refl s

theorem formAlert_frame (s : State) : WorkFrame s (formAlert s) :=
  { WorkFrame.refl s with carriers := fun _ => ⟨rfl, rfl, rfl⟩ }

theorem formCollapsed_frame (k : AlarmKind) (s : State) : WorkFrame s (formCollapsed k s) := by
  unfold formCollapsed
  simp only []
  refine WorkFrame.ite (WorkFrame.refl s) ?_
  have h : WorkFrame s
      { s with alarms := { s.alarms with collapsed := withBit s.alarms.collapsed k.index (s.wireOr k) } } :=
    { WorkFrame.refl s with carriers := fun _ => ⟨rfl, rfl, rfl⟩ }
  exact (h.trans (placeNotice_frame _ _)).trans (formAlert_frame _)

theorem setWire_frame (k : AlarmKind) (c : Carrier) (v : Bool) (s : State) : WorkFrame s (setWire k c v s) :=
  (modCar_frame c _ s (by intro; exact ⟨rfl, rfl, rfl⟩)).trans (formCollapsed_frame k _)

theorem appendFade_frame (r : FadeRecord) (s : State) : WorkFrame s (appendFade r s) := by
  have h : WorkFrame s { s with fades := s.fades.append r } :=
    { WorkFrame.refl s with carriers := fun _ => ⟨rfl, rfl, rfl⟩ }
  exact h.trans (placeNotice_frame _ _)

theorem closeFade_frame (e : EndedBy) (c : Carrier) (s : State) : WorkFrame s (closeFade e c s) := by
  unfold closeFade
  split
  · exact WorkFrame.refl s
  · exact ((modCar_frame c _ s (by intro; exact ⟨rfl, rfl, rfl⟩)).trans (appendFade_frame _ _)).trans (setWire_frame _ _ _ _)

theorem modSender_frame (f : Sender → Sender) (s : State) : WorkFrame s (modSender f s) :=
  { WorkFrame.refl s with carriers := fun _ => ⟨rfl, rfl, rfl⟩ }

/-! ### The blocks -/

theorem selectBranchWork_frame (c : Carrier) (s : State) : WorkFrame s (selectBranchWork c s) := by
  unfold selectBranchWork
  simp only []
  split
  · split
    · exact (modCar_frame c _ s (by intro; exact ⟨rfl, rfl, rfl⟩)).trans (emit_frame _ _)
    · exact modCar_frame c _ s (by intro; exact ⟨rfl, rfl, rfl⟩)
  · exact WorkFrame.refl s

theorem judgeBranchLoss_frame (c : Carrier) (s : State) : WorkFrame s (judgeBranchLoss c s) :=
  (modCar_frame c _ s (by intro; exact ⟨rfl, rfl, rfl⟩)).trans (setWire_frame _ _ _ _)

theorem modEst_frame (c : Carrier) (f : Estimator → Estimator) (s : State) : WorkFrame s (modEst c f s) :=
  modCar_frame c _ s (by intro; exact ⟨rfl, rfl, rfl⟩)

theorem modRac_frame (c : Carrier) (f : Rac → Rac) (s : State) : WorkFrame s (modRac c f s) :=
  modCar_frame c _ s (by intro; exact ⟨rfl, rfl, rfl⟩)

theorem modTac_frame (c : Carrier) (f : Tac → Tac) (s : State) : WorkFrame s (modTac c f s) :=
  modCar_frame c _ s (by intro; exact ⟨rfl, rfl, rfl⟩)

theorem modLac_frame (c : Carrier) (f : Lac → Lac) (s : State) : WorkFrame s (modLac c f s) :=
  modCar_frame c _ s (by intro; exact ⟨rfl, rfl, rfl⟩)

theorem modStats_frame (c : Carrier) (f : CarrierStats → CarrierStats) (s : State) :
    WorkFrame s (modStats c f s) :=
  modCar_frame c _ s (by intro; exact ⟨rfl, rfl, rfl⟩)

theorem estimatorBoundary_frame (c : Carrier) (s : State) : WorkFrame s (estimatorBoundary c s) := by
  unfold estimatorBoundary
  split
  · exact ((((modEst_frame c _ s).trans (selectBranchWork_frame c _)).trans (modEst_frame c _ _)).trans
      (judgeBranchLoss_frame c _)).trans (modEst_frame c _ _)
  · exact WorkFrame.refl s

theorem openFade_frame (c : Carrier) (f : Nat) (s : State) : WorkFrame s (openFade c f s) :=
  (modCar_frame c _ s (by intro; exact ⟨rfl, rfl, rfl⟩)).trans (setWire_frame _ _ _ _)

theorem fadeBoundary_frame (p : Bool) (c : Carrier) (s : State) : WorkFrame s (fadeBoundary p c s) := by
  unfold fadeBoundary
  simp only []
  split
  · split
    · exact WorkFrame.ite (openFade_frame c _ s) (WorkFrame.refl s)
    · exact WorkFrame.ite (closeFade_frame _ c s) (modCar_frame c _ s (by intro; exact ⟨rfl, rfl, rfl⟩))
  · exact WorkFrame.refl s

theorem racBoundary_frame (p : Bool) (c : Carrier) (s : State) : WorkFrame s (racBoundary p c s) := by
  unfold racBoundary
  simp only []
  split
  · exact WorkFrame.refl s
  · exact WorkFrame.refl s
  · exact WorkFrame.refl s
  · exact modRac_frame c _ s
  · exact WorkFrame.ite (modRac_frame c _ s) (modRac_frame c _ s)

theorem mirrorOrder_frame (c : Carrier) (s : State) : WorkFrame s (mirrorOrder c s) := by
  unfold mirrorOrder
  exact WorkFrame.ite (modTac_frame _ _ s) (WorkFrame.refl s)

theorem closeOrder_frame (c : Carrier) (st : OrderState) (b : Nat) (s : State) : WorkFrame s (closeOrder c st b s) :=
  (modTac_frame c _ s).trans (mirrorOrder_frame c _)

theorem takeTarget_frame (c : Carrier) (t : Nat) (s : State) : WorkFrame s (takeTarget c t s) :=
  (modTac_frame c _ s).trans (placeNotice_frame _ _)

theorem closeOnTimebaseLoss_frame (c : Carrier) (s : State) : WorkFrame s (closeOnTimebaseLoss c s) := by
  unfold closeOnTimebaseLoss
  split
  · exact WorkFrame.refl s
  · refine WorkFrame.ite ?_ (WorkFrame.refl s)
    simp only []
    refine WorkFrame.trans ?_ (modStats_frame c _ _)
    refine WorkFrame.ite ?_ ?_
    · exact ((placeMessage_frame _ _ s).trans (closeOrder_frame c _ _ _)).trans (emit_frame _ _)
    · exact (placeMessage_frame _ _ s).trans (closeOrder_frame c _ _ _)

theorem countBackoff_frame (c : Carrier) (s : State) : WorkFrame s (countBackoff c s) := by
  unfold countBackoff
  simp only []
  refine WorkFrame.ite (WorkFrame.ite ?_ ?_) (WorkFrame.refl s)
  · exact (modTac_frame c _ s).trans (closeOrder_frame c _ _ _)
  · exact modTac_frame c _ s

theorem switchOrder_frame (c : Carrier) (o : OpenOrder) (s : State) : WorkFrame s (switchOrder c o s) := by
  unfold switchOrder
  simp only []
  have h : WorkFrame s (takeTarget c o.target (closeOrder c .steady 0 (clearPlace (.t c) s))) :=
    ((clearPlace_frame _ s).trans (closeOrder_frame c _ _ _)).trans (takeTarget_frame c _ _)
  refine WorkFrame.trans ?_ (modStats_frame c _ _)
  split
  · exact h.trans (takeTarget_frame _ _ _)
  · exact h

theorem switchAtEffect_frame (c : Carrier) (s : State) : WorkFrame s (switchAtEffect c s) := by
  unfold switchAtEffect
  split
  · exact switchOrder_frame c _ s
  · exact WorkFrame.refl s

theorem deadline_frame (c : Carrier) (s : State) : WorkFrame s (deadline c s) := by
  unfold deadline
  split
  · exact (((placeMessage_frame _ _ s).trans (closeOrder_frame c _ _ _)).trans (modStats_frame c _ _)).trans
      (placeNotice_frame _ _)
  · exact WorkFrame.refl s

theorem armAtDeadline_frame (c : Carrier) (s : State) : WorkFrame s (armAtDeadline c s) := by
  unfold armAtDeadline
  split
  · refine WorkFrame.ite (WorkFrame.refl s) ?_
    exact ((emit_frame _ s).trans (modTac_frame c _ _)).trans (mirrorOrder_frame c _)
  · exact WorkFrame.refl s

theorem formTarget_frame (c : Carrier) (s : State) : WorkFrame s (formTarget c s) := by
  unfold formTarget
  simp only []
  exact WorkFrame.ite ((modTac_frame c _ s).trans (modTac_frame _ _ _)) (modTac_frame c _ s)

theorem reverseUpshift_frame (c : Carrier) (s : State) : WorkFrame s (reverseUpshift c s) := by
  unfold reverseUpshift
  simp only []
  split
  · exact WorkFrame.refl s
  · exact WorkFrame.ite (((placeMessage_frame _ _ s).trans (closeOrder_frame c _ _ _)).trans (modStats_frame c _ _))
      (WorkFrame.refl s)

theorem openOrderWork_frame (c : Carrier) (s : State) : WorkFrame s (openOrderWork c s) := by
  unfold openOrderWork
  simp only []
  refine WorkFrame.ite ?_ (WorkFrame.refl s)
  exact (((modTac_frame c _ s).trans (mirrorOrder_frame c _)).trans (placeMessage_frame _ _ _)).trans
    (modStats_frame c _ _)

theorem applyPower_frame (c : Carrier) (s : State) : WorkFrame s (applyPower c s) := by
  unfold applyPower
  simp only []
  split
  · exact WorkFrame.refl s
  · exact WorkFrame.ite (modTac_frame c _ s)
      (((modTac_frame c _ s).trans (modStats_frame c _ _)).trans (emit_frame _ _))

theorem orderBoundary_frame (c : Carrier) (s : State) : WorkFrame s (orderBoundary c s) :=
  (((((((closeOnTimebaseLoss_frame c s).trans (countBackoff_frame c _)).trans (switchAtEffect_frame c _)).trans
    (deadline_frame c _)).trans (armAtDeadline_frame c _)).trans (formTarget_frame c _)).trans
    (reverseUpshift_frame c _)).trans (openOrderWork_frame c _)

theorem tacBoundary_frame (c : Carrier) (s : State) : WorkFrame s (tacBoundary c s) := by
  unfold tacBoundary
  refine WorkFrame.ite ?_ (WorkFrame.refl s)
  exact (WorkFrame.ite (WorkFrame.refl s) (orderBoundary_frame c s)).trans (applyPower_frame c _)

theorem placeAgain_frame (s : State) : WorkFrame s (placeAgain s) := by
  unfold placeAgain
  split
  · exact placeMessage_frame _ _ s
  · exact placeMessage_frame _ _ s
  · exact WorkFrame.refl s

theorem ackWaitExpired_frame (s : State) : WorkFrame s (ackWaitExpired s) := by
  unfold ackWaitExpired
  refine WorkFrame.ite ?_ ?_
  · exact (modSender_frame _ s).trans (placeAgain_frame _)
  · exact ((modSender_frame _ s).trans (clearPlace_frame _ _)).trans (placeNotice_frame _ _)

theorem senderBoundary_frame (s : State) : WorkFrame s (senderBoundary s) := by
  unfold senderBoundary
  simp only []
  split
  · exact WorkFrame.refl s
  · refine WorkFrame.ite (WorkFrame.ite ?_ ?_) (WorkFrame.refl s)
    · exact (modSender_frame _ s).trans (ackWaitExpired_frame _)
    · exact modSender_frame _ s

theorem senderFollowsLinks_frame (s : State) : WorkFrame s (senderFollowsLinks s) := by
  unfold senderFollowsLinks
  refine WorkFrame.ite (WorkFrame.ite ?_ (WorkFrame.refl s)) ?_
  · unfold resumeSender
    split
    · exact (modSender_frame _ s).trans (placeMessage_frame _ _ _)
    · exact (modSender_frame _ s).trans (placeMessage_frame _ _ _)
    · exact WorkFrame.refl s
  · split
    · exact (modSender_frame _ s).trans (clearPlace_frame _ _)
    · exact (modSender_frame _ s).trans (clearPlace_frame _ _)
    · exact WorkFrame.refl s

theorem formMismatch_frame (c : Carrier) (s : State) : WorkFrame s (formMismatch c s) :=
  (modLac_frame c _ s).trans (setWire_frame _ _ _ _)

/-- A change of the table store that leaves the Pending Table, its marks and the enable sets alone. -/
theorem modTables_frame (f : TableStore → TableStore) (s : State)
    (h : (f s.tables).pending = s.tables.pending ∧ (f s.tables).completeness = s.tables.completeness ∧
      (f s.tables).owner = s.tables.owner ∧ (f s.tables).enableSets = s.tables.enableSets) :
    WorkFrame s (modTables f s) :=
  { WorkFrame.refl s with
    tablePlaces := h.1, completeness := h.2.1, owner := h.2.2.1, enableSets := h.2.2.2
    carriers := fun _ => ⟨rfl, rfl, rfl⟩ }

theorem takeApply_frame (order : List Carrier) (e : List Entry) (s : State) : WorkFrame s (takeApply order e s) :=
  (((modTables_frame _ s ⟨rfl, rfl, rfl, rfl⟩).trans
    (WorkFrame.foldl (fun s c => formMismatch c s) (fun u c => formMismatch_frame c u) order _)).trans
    (modTables_frame _ _ ⟨rfl, rfl, rfl, rfl⟩)).trans (placeNotice_frame _ _)

theorem judgeApply_frame (order : List Carrier) (s : State) : WorkFrame s (judgeApply order s) := by
  unfold judgeApply
  split
  · exact WorkFrame.refl s
  · refine WorkFrame.ite (WorkFrame.refl s) (WorkFrame.ite ?_ (takeApply_frame order _ s))
    exact (modTables_frame _ s ⟨rfl, rfl, rfl, rfl⟩).trans (placeNotice_frame _ _)

theorem applyBoundary_frame (order : List Carrier) (s : State) : WorkFrame s (applyBoundary order s) :=
  (modTables_frame _ s ⟨rfl, rfl, rfl, rfl⟩).trans (judgeApply_frame order _)

/-! ### The Supervisor -/

theorem entered_keeps (kind : EntryKind) (tHold : Nat) (upper : Bool) (k : CarrierState) :
    k.keeps (k.entered kind tHold upper) := by
  cases kind <;> exact ⟨rfl, rfl, rfl⟩

theorem clearCarrier_frame (c : Carrier) (s : State) : WorkFrame s (clearCarrier c s) :=
  (clearPlace_frame _ s).trans (clearPlace_frame _ _)

theorem enterPlaces_frame (x : Entering) (s : State) : WorkFrame s (enterPlaces x s) := by
  unfold enterPlaces
  split
  · exact WorkFrame.ite ((clearCarrier_frame _ s).trans (clearCarrier_frame _ _)) (clearCarrier_frame _ s)
  · exact clearCarrier_frame _ s

theorem enterBlocks_frame (x : Entering) (s : State) : WorkFrame s (enterBlocks x s) :=
  (modCar_frame _ _ s fun k => entered_keeps _ _ _ k).trans (enterPlaces_frame x _)

theorem enterWires_frame (x : Entering) (s : State) : WorkFrame s (enterWires x s) := by
  unfold enterWires
  split
  · exact setWire_frame _ _ _ s
  · exact ((setWire_frame _ _ _ s).trans (setWire_frame _ _ _ _)).trans (setWire_frame _ _ _ _)

theorem enter_frame (back : Bool) (xs : List Entering) (s : State) : WorkFrame s (enter back xs s) :=
  (((((WorkFrame.foldl _ (fun u _ => closeFade_frame _ _ u) xs s).trans
    (WorkFrame.foldl _ (fun u x => enterBlocks_frame x u) xs _)).trans (emit_frame _ _)).trans
    (WorkFrame.foldl _ (fun u _ => emit_frame _ u) xs _)).trans
    (WorkFrame.foldl _ (fun u x => enterWires_frame x u) _ _)).trans (senderFollowsLinks_frame _)

theorem haltedEntry_frame (c : Carrier) (cause : HaltCause) (s : State) : WorkFrame s (haltedEntry c cause s) :=
  enter_frame _ _ s

/-- DISABLED entry keeps what the relation names, but that it draws a free value. -/
theorem disabledEntry_frame (c : Carrier) (s : State) : WorkFrame (drawn s) (disabledEntry c s) := by
  have h := enter_frame s.linkWiresBack (s.entering c .disable) s
  exact { h with choices := congrArg (· + 1) h.choices }

theorem enterActive_frame (c : Carrier) (s : State) : WorkFrame s (enterActive c s) :=
  (((modCar_frame c _ s (by intro; exact ⟨rfl, rfl, rfl⟩)).trans (modRac_frame c _ _)).trans (setWire_frame _ _ _ _)).trans
    (senderFollowsLinks_frame _)

theorem enterQuiet_frame (c : Carrier) (s : State) : WorkFrame s (enterQuiet c s) :=
  (((modCar_frame c _ s (by intro; exact ⟨rfl, rfl, rfl⟩)).trans (modStats_frame c _ _)).trans (setWire_frame _ _ _ _)).trans
    (senderFollowsLinks_frame _)

theorem enterSeeking_frame (c : Carrier) (s : State) : WorkFrame s (enterSeeking c s) :=
  ((modCar_frame c _ s (by intro; exact ⟨rfl, rfl, rfl⟩)).trans (setWire_frame _ _ _ _)).trans (senderFollowsLinks_frame _)

theorem counted_keeps (k : CarrierState) : k.keeps { k with sup := k.sup.counted } := by
  obtain ⟨_, _, _, _, sup, _⟩ := k
  obtain ⟨link, _⟩ := sup
  cases link <;> exact ⟨rfl, rfl, rfl⟩

theorem supervise_frame (c : Carrier) (s : State) : WorkFrame s (supervise c s) := by
  have h : WorkFrame s (modSup c Supervisor.counted s) := modCar_frame c _ s counted_keeps
  unfold supervise
  simp only []
  refine WorkFrame.ite ?_ (WorkFrame.ite ?_ (WorkFrame.ite ?_ (WorkFrame.ite ?_ (WorkFrame.ite ?_ h))))
  · exact h.trans (haltedEntry_frame c _ _)
  · exact h.trans (enterQuiet_frame c _)
  · exact h.trans (haltedEntry_frame c _ _)
  · exact h.trans (enterSeeking_frame c _)
  · exact h.trans (haltedEntry_frame c _ _)

theorem superviseOnce_frame (c : Carrier) (x : State × List Carrier) : WorkFrame x.1 (superviseOnce c x).1 := by
  unfold superviseOnce
  split
  · exact WorkFrame.refl _
  · exact supervise_frame c x.1

theorem superviseAt_frame (place : Carrier → Nat) (k : Nat) (x : State × List Carrier) :
    WorkFrame x.1 (superviseAt place k x).1 := by
  unfold superviseAt
  generalize allCarriers = cs
  induction cs generalizing x with
  | nil => exact WorkFrame.refl _
  | cons c cs ih =>
    refine WorkFrame.trans ?_ (ih _)
    show WorkFrame x.1 (if place c = k then superviseOnce c x else x).1
    split
    · exact superviseOnce_frame c x
    · exact WorkFrame.refl _

/-! ### The boundary -/

theorem qualityWork_frame (order : AlarmKind → List Carrier) (p : Four Bool) (s : State) :
    WorkFrame s (qualityWork order p s) :=
  (WorkFrame.foldl _ (fun u c => estimatorBoundary_frame c u) _ s).trans
    (WorkFrame.foldl _ (fun u c => fadeBoundary_frame _ c u) _ _)

theorem receiveWork_frame (p : Four Bool) (s : State) : WorkFrame s (receiveWork p s) :=
  WorkFrame.foldl _ (fun u c => racBoundary_frame _ c u) _ s

theorem transmitWork_frame (s : State) : WorkFrame s (transmitWork s) :=
  WorkFrame.foldl _ (fun u c => tacBoundary_frame c u) _ s

theorem blockWork_frame {f : State → State} (h : ∀ u, WorkFrame u (f u)) (x : State × List Carrier) :
    WorkFrame x.1 (blockWork f x).1 := h x.1

/-- All the work of a boundary after its start keeps what the relation names, wherever the Supervisor's work falls. -/
theorem boundaryWith_frame (place : Carrier → Nat) (order : AlarmKind → List Carrier) (s : State) :
    WorkFrame (startBoundary s) (boundaryWith place order s) :=
  ((((((((((superviseAt_frame place 0 (startBoundary s, [])).trans
    (blockWork_frame (qualityWork_frame order s.presence) _)).trans (superviseAt_frame place 1 _)).trans
    (blockWork_frame (receiveWork_frame s.presence) _)).trans (superviseAt_frame place 2 _)).trans
    (blockWork_frame transmitWork_frame _)).trans (superviseAt_frame place 3 _)).trans
    (blockWork_frame senderBoundary_frame _)).trans (superviseAt_frame place 4 _)).trans
    (blockWork_frame (applyBoundary_frame (order .mismatch)) _)).trans (superviseAt_frame place 5 _)

theorem closeSuperframe_frame (c : Carrier) (s : State) : WorkFrame s (closeSuperframe c s) := by
  unfold closeSuperframe
  split
  · exact modCar_frame c _ s (by intro; exact ⟨rfl, rfl, rfl⟩)
  · exact modRac_frame c _ s

theorem startBoundary_frame (s : State) : WorkFrame (clearRidden (beginSuperframe s)) (startBoundary s) :=
  WorkFrame.foldl _ (fun u c => closeSuperframe_frame c u) allCarriers _

theorem boundaryWith_begun (place : Carrier → Nat) (order : AlarmKind → List Carrier) (s : State) :
    WorkFrame (clearRidden (beginSuperframe s)) (boundaryWith place order s) :=
  (startBoundary_frame s).trans (boundaryWith_frame place order s)

/-- The timebase after a boundary. -/
theorem boundaryWith_timebase (place : Carrier → Nat) (order : AlarmKind → List Carrier) (s : State) :
    (boundaryWith place order s).timebase = { s.timebase with
      superframe := s.timebase.superframe + 1, sinceBoundary := 0, atBoundary := true } :=
  (boundaryWith_begun place order s).timebase

/-- A boundary leaves the Alarm Collector's device-wide wires as they were. -/
theorem boundaryWith_deviceWires (place : Carrier → Nat) (order : AlarmKind → List Carrier) (s : State) :
    (boundaryWith place order s).alarms.timebaseWire = s.alarms.timebaseWire ∧
      (boundaryWith place order s).alarms.storeWire = s.alarms.storeWire :=
  ⟨(boundaryWith_begun place order s).timebaseWire, (boundaryWith_begun place order s).storeWire⟩

/-- The place chosen for the Supervisor is one of the six. -/
theorem supervisorPlace_lt (s : State) (c : Carrier) : s.supervisorPlace c < 6 := Nat.mod_lt _ (by decide)

/-- `arrange` gives an order of the members. -/
theorem arrange_perm {α : Type} (n : Nat) (xs : List α) : (arrange n xs).Perm xs := by
  induction xs generalizing n with
  | nil => exact .nil
  | cons x xs ih =>
    have h := ih (n / (xs.length + 1))
    refine (List.perm_insertIdx _ _ ?_).trans (h.cons x)
    rw [h.length_eq]
    exact Nat.le_of_lt_succ (Nat.mod_lt _ (Nat.succ_pos _))

/-- Every order of the four carriers can be drawn. -/
theorem arrange_all : ∀ order ∈ allCarriers.permutations', order ∈ (List.range 24).map (arrange · allCarriers) := by
  decide

theorem wireOrder_perm (s : State) (k : AlarmKind) : (s.wireOrder k).Perm allCarriers := arrange_perm _ _

/-- What a boundary makes of the device, wherever the Supervisor's work falls (R1, R112, R129). -/
theorem boundaryWith_taken (place : Carrier → Nat) (order : AlarmKind → List Carrier) (s : State) (hp : ∀ c, place c < 6)
    (ho : ∀ k, (order k).Perm allCarriers) : BoundaryTaken s (boundaryWith place order s) := by
  have h := boundaryWith_begun place order s
  have ht := boundaryWith_timebase place order s
  refine ⟨?_, ?_, ?_, ?_, ?_, ?_, h.receiver, h.settings, h.straps, h.resetHeld, h.pairedA, h.pairedB, h.pending,
    h.tablePlaces, h.owner, h.completeness, h.enableSets, h.discarded, h.port, place, order, s, hp, ho, rfl, rfl,
    rfl, rfl⟩
  · rw [ht]
  · rw [ht]
  · rw [ht]
  · rw [ht]
  · intro c
    have k := h.carriers c
    simp only [State.car, clearRidden, beginSuperframe, Four.get_map, CarrierState.startBoundary] at k
    exact ⟨k.2.2, k.1, k.2.1⟩
  · intro m hm
    by_contra hr
    have e := h.ridden m hm (by simpa using hr)
    simp only [clearRidden, List.mem_map] at e
    obtain ⟨x, _, rfl⟩ := e
    simp at hr

end Sys2Proof.Machine
end

