-- ==== Sys2Proof/Laws/Ops.lean ====
section
/-! SUPPORT. For each shared operation, one lemma that says everything it can do: notices, wires, fades, entries, order
closings.  A statement about a command cites these and unfolds none of them. -/

namespace Sys2Proof.Machine

/-! ### Notices and wires -/

/-- A notice changes the port alone, as R156 and R179 say. -/
theorem placeNotice_spec (n : Notice) (s : State) :
    ∃ p : Port, placeNotice n s = { s with port := p } ∧ Noticed n s p := by
  by_cases h : s.alarms.noticeEnable.getLsbD n.bit = true
  · refine ⟨enqueueNotice n s.port, by simp only [placeNotice, h, if_true], enqueueNotice_same n s.port, ?_, ?_⟩
    · intro hf
      rw [h] at hf
      cases hf
    · exact fun _ => ⟨fun hl => by simp [enqueueNotice, hl], fun _ => rfl⟩
  · refine ⟨s.port, by simp only [placeNotice, h]; rfl, rfl, fun _ => rfl, ?_⟩
    intro ht
    exact absurd ht h

/-- A mask with one bit given reads that bit, and keeps the others. -/
theorem getLsbD_withBit {n : Nat} (m : BitVec n) (i j : Nat) (v : Bool) (h : i < n) :
    (withBit m i v).getLsbD j = if j = i then v else m.getLsbD j := by
  unfold withBit
  cases v
  · by_cases e : j = i
    · subst e
      simp [h]
    · simp only [Bool.false_eq_true, if_false, BitVec.getLsbD_and, BitVec.getLsbD_not, BitVec.getLsbD_twoPow, e]
      by_cases hj : j < n
      · simp [hj, Ne.symm e]
      · simp [BitVec.getLsbD_of_ge m j (by omega)]
  · by_cases e : j = i
    · subst e
      simp [h]
    · simp [BitVec.getLsbD_twoPow, e, Ne.symm e]

theorem AlarmKind.index_lt (k : AlarmKind) : k.index < 6 := by cases k <;> decide

theorem AlarmKind.index_inj {k l : AlarmKind} (h : k.index = l.index) : k = l := by
  cases k <;> cases l <;> first | rfl | (simp [AlarmKind.index] at h)

/-- The collapsed wire of a kind formed again: only collapsed wires, ALERT and notices change, and it then follows its
wires (R154). -/
theorem formCollapsed_spec (k : AlarmKind) (s : State) :
    ∃ (collapsed : BitVec 6) (alert : Bool) (p : Port),
      formCollapsed k s = { s with alarms := { s.alarms with collapsed, alert }, port := p } ∧
      s.port.sameButNotices p ∧ collapsed.getLsbD k.index = s.wireOr k ∧
      ∀ l, l ≠ k → collapsed.getLsbD l.index = s.alarms.collapsed.getLsbD l.index := by
  by_cases h : s.wireOr k = s.collapsedWire k
  · refine ⟨s.alarms.collapsed, s.alarms.alert, s.port, by simp only [formCollapsed, h, if_true], rfl, h.symm,
      fun _ _ => rfl⟩
  · obtain ⟨p, e, n⟩ := placeNotice_spec (.alarm k (s.wireOr k))
      { s with alarms := { s.alarms with collapsed := withBit s.alarms.collapsed k.index (s.wireOr k) } }
    refine ⟨withBit s.alarms.collapsed k.index (s.wireOr k),
      !s.resetHeld && withBit s.alarms.collapsed k.index (s.wireOr k) &&& s.alarms.alertEnable != 0, p, ?_, n.1, ?_, ?_⟩
    · simp only [formCollapsed, h, if_false, e]
      rfl
    · rw [getLsbD_withBit _ _ _ _ k.index_lt]
      simp
    · intro l hl
      rw [getLsbD_withBit _ _ _ _ k.index_lt, if_neg fun e => hl (AlarmKind.index_inj e)]

/-- A carrier's wire set: only that wire, the collapsed wires, ALERT and notices change (R153). -/
theorem setWire_spec (k : AlarmKind) (c : Carrier) (v : Bool) (s : State) :
    ∃ (collapsed : BitVec 6) (alert : Bool) (p : Port),
      setWire k c v s = { s with
        carriers := s.carriers.set c { s.car c with wires := (s.car c).wires.set k v }
        alarms := { s.alarms with collapsed, alert }, port := p } ∧
      s.port.sameButNotices p := by
  obtain ⟨a, b, p, e, n, _, _⟩ := formCollapsed_spec k
    (modCar c (fun x => { x with wires := x.wires.set k v }) s)
  exact ⟨a, b, p, e, n⟩

/-- After a wire of a kind is set, the collapsed wire of that kind follows its wires. -/
theorem setWire_follows (k : AlarmKind) (c : Carrier) (v : Bool) (s : State) :
    (setWire k c v s).collapsedWire k = (setWire k c v s).wireOr k := by
  obtain ⟨a, b, p, e, _, h, _⟩ := formCollapsed_spec k
    (modCar c (fun x => { x with wires := x.wires.set k v }) s)
  unfold setWire
  rw [e]
  show a.getLsbD k.index = _
  rw [h]
  cases k <;> rfl

/-! ### Fades -/

/-- A closed fade is appended, and its carrier's FADE wire deasserted (R148, R149, R151). -/
theorem closeFade_spec (ended : EndedBy) (c : Carrier) (s : State) :
    ((s.car c).fade = none → closeFade ended c s = s) ∧
    (∀ f, (s.car c).fade = some f →
      ∃ (collapsed : BitVec 6) (alert : Bool) (p : Port),
        closeFade ended c s = { s with
          carriers := s.carriers.set c { s.car c with
            fade := none, wires := { (s.car c).wires with fade := false } }
          fades := s.fades.append ⟨c, f, ended⟩
          alarms := { s.alarms with collapsed, alert }, port := p } ∧
        s.port.sameButNotices p) := by
  refine ⟨fun h => by simp only [closeFade, h], ?_⟩
  intro f h
  obtain ⟨p, e, n⟩ := placeNotice_spec (.fadeRecorded c (s.fades.append ⟨c, f, ended⟩).log.length)
    { modCar c (fun k => { k with fade := none }) s with fades := s.fades.append ⟨c, f, ended⟩ }
  have ha : appendFade ⟨c, f, ended⟩ (modCar c (fun k => { k with fade := none }) s) =
      { modCar c (fun k => { k with fade := none }) s with fades := s.fades.append ⟨c, f, ended⟩, port := p } := e
  obtain ⟨a, b, q, e2, n2⟩ := setWire_spec .fade c false
    { modCar c (fun k => { k with fade := none }) s with fades := s.fades.append ⟨c, f, ended⟩, port := p }
  refine ⟨a, b, q, ?_, Port.sameButNotices_trans n.1 n2⟩
  simp only [closeFade, h, ha, e2]
  simp [modCar, State.setCar, State.car, CarrierWires.set]

/-! ### The sender and link states -/

theorem mem_allCarriers (c : Carrier) : c ∈ allCarriers := by
  revert c
  decide

theorem anyActive_iff (s : State) : s.anyActive = true ↔ ∃ c : Carrier, s.link c = .active := by
  simp only [State.anyActive, List.any_eq_true, beq_iff_eq]
  constructor
  · rintro ⟨c, _, h⟩
    exact ⟨c, h⟩
  · rintro ⟨c, h⟩
    exact ⟨c, mem_allCarriers c, h⟩

/-- The sender follows the link states, and nothing but the sender and the S place moves (R164). -/
theorem senderFollowsLinks_spec (s : State) :
    SenderFollows s.outQueue s (senderFollowsLinks s) ∧
      senderFollowsLinks s = { s with
        sender := (senderFollowsLinks s).sender, outQueue := (senderFollowsLinks s).outQueue } := by
  by_cases h : s.anyActive = true
  · have ha := (anyActive_iff s).1 h
    have hl : ∀ t : State, t.carriers = s.carriers → ¬ ∀ c : Carrier, t.link c ≠ .active := by
      intro t e k
      obtain ⟨c, hc⟩ := ha
      refine k c ?_
      simpa [State.link, State.car, e] using hc
    by_cases hp : s.sender.state = .paused
    · cases hr : s.sender.resume with
      | none =>
        have e : senderFollowsLinks s = s := by simp [senderFollowsLinks, h, hp, resumeSender, hr]
        rw [e]
        exact ⟨⟨fun k => absurd k (hl s rfl), fun k => absurd k (hl s rfl), fun _ => by simp [hr]⟩, rfl⟩
      | some phase =>
        cases phase with
        | sending =>
          have e : senderFollowsLinks s = placeEntry (modSender (fun x => { x with state := .sending, resume := none }) s) := by
            simp [senderFollowsLinks, h, hp, resumeSender, hr]
          rw [e]
          exact ⟨⟨fun k => absurd k (hl _ rfl), fun k => absurd k (hl _ rfl),
            fun _ => by simp [hr, hp, placeEntry, modSender, placeMessage, queueWith]⟩, rfl⟩
        | awaitingResult =>
          have e : senderFollowsLinks s =
              placeEnd (modSender (fun x => { x with state := .awaitingResult, resume := none }) s) := by
            simp [senderFollowsLinks, h, hp, resumeSender, hr]
          rw [e]
          exact ⟨⟨fun k => absurd k (hl _ rfl), fun k => absurd k (hl _ rfl),
            fun _ => by simp [hr, hp, placeEnd, modSender, placeMessage, queueWith]⟩, rfl⟩
    · have e : senderFollowsLinks s = s := by simp [senderFollowsLinks, h, hp]
      rw [e]
      exact ⟨⟨fun k => absurd k (hl s rfl), fun k => absurd k (hl s rfl), fun _ => by simp [hp]⟩, rfl⟩
  · have ha : ∀ t : State, t.carriers = s.carriers → ¬ ∃ c : Carrier, t.link c = .active := by
      intro t e k
      refine h ((anyActive_iff s).2 ?_)
      simpa [State.link, State.car, e] using k
    cases hst : s.sender.state <;>
      simp only [senderFollowsLinks, h, hst, Bool.false_eq_true, if_false, pauseSender, modSender, clearPlace]
    all_goals exact ⟨⟨by simp [hst], by simp [hst], fun k => absurd k (ha _ rfl)⟩, trivial⟩

/-! ### Orders -/

theorem lowerOf_eq_or (c : Carrier) : lowerOf c = c ∨ lowerOf c = partner c := by
  revert c
  decide

theorem upperOf_lower {c : Carrier} (h : lowerOf c = c) : upperOf c = partner c := by
  unfold upperOf
  rw [h]

/-- A paired carrier that is no upper carrier is the lower one. -/
theorem lowerOf_of_not_upper {s : State} {c : Carrier} (h : s.isUpper c = false) (hp : s.paired c = true) :
    lowerOf c = c := by
  simp only [State.isUpper, hp, Bool.true_and, bne_eq_false_iff_eq] at h
  exact h.symm

/-- A carrier that is no upper carrier governs itself (R127). -/
theorem gov_of_not_upper {s : State} {c : Carrier} (h : s.isUpper c = false) : s.gov c = c := by
  unfold State.gov
  split
  · exact lowerOf_of_not_upper h ‹_›
  · rfl

/-- What a carrier holds after the pair's copies have been written (R86). -/
theorem car_mirrorOrder {c : Carrier} {s : State} (hu : s.isUpper c = false) (d : Carrier) :
    (mirrorOrder c s).car d =
      if s.paired c = true ∧ d = partner c ∧ s.link d ≠ .disabled then
        { s.car d with tac := { (s.car d).tac with state := (s.car c).tac.state, order := (s.car c).tac.order } }
      else s.car d := by
  unfold mirrorOrder
  by_cases hp : s.paired c = true
  · have hl := lowerOf_of_not_upper hu hp
    rw [upperOf_lower hl, hl]
    simp only [hp, Bool.true_and, true_and]
    by_cases he : s.enabled (partner c) = true
    · have hn : s.link (partner c) ≠ .disabled := by simpa [State.enabled] using he
      simp only [he, if_true, modTac, car_modCar]
      by_cases hd : d = partner c
      · subst hd
        simp [hn]
      · simp [hd]
    · have hn : s.link (partner c) = .disabled := by simpa [State.enabled] using he
      simp only [he]
      by_cases hd : d = partner c
      · subst hd
        simp [hn]
      · simp [hd]
  · simp [hp]

/-- Writing the pair's copies changes the carriers alone. -/
theorem mirrorOrder_only (c : Carrier) (s : State) :
    mirrorOrder c s = { s with carriers := (mirrorOrder c s).carriers } := by
  unfold mirrorOrder
  split <;> rfl

/-- Closing an order changes the carriers alone, as `OrderClosed` says. -/
theorem closeOrder_spec {c : Carrier} {s : State} (hu : s.isUpper c = false) (st : OrderState) (b : Nat) :
    OrderClosed c st b (s.car c).stats.tac s (closeOrder c st b s) ∧
      closeOrder c st b s = { s with carriers := (closeOrder c st b s).carriers } := by
  have hu' : (modTac c (fun t => { t with order := none, state := st, backoff := b }) s).isUpper c = false := hu
  have hl : ∀ d, (modTac c (fun t => { t with order := none, state := st, backoff := b }) s).link d = s.link d := by
    intro d
    simp only [State.link, modTac, car_modCar]
    split
    · rename_i e
      rw [e]
    · rfl
  have hp : (modTac c (fun t => { t with order := none, state := st, backoff := b }) s).paired c = s.paired c := rfl
  refine ⟨⟨?_, ?_, ?_⟩, ?_⟩
  · unfold closeOrder
    rw [car_mirrorOrder hu', if_neg (by intro h; exact partner_ne c h.2.1.symm)]
    simp [modTac]
  · intro d hd h1 h2 h3
    unfold closeOrder
    rw [car_mirrorOrder hu', if_pos (by rw [hl, hp]; exact ⟨h1, h2, h3⟩)]
    simp [modTac, car_modCar, hd]
  · intro d hd h
    unfold closeOrder
    rw [car_mirrorOrder hu', if_neg (by rw [hl, hp]; grind)]
    simp [modTac, car_modCar, hd]
  · unfold closeOrder
    rw [mirrorOrder_only]
    rfl

end Sys2Proof.Machine
end

