-- ==== Sys2Proof/Laws/State.lean ====
section
/-! SUPPORT. What each update of State leaves in each of its fields, one lemma per field per update, so that no proof
unfolds a record update. -/

namespace Sys2Proof.Machine

/-! ### State.setCar -/

@[simp] theorem State.setCar_timebase (s : State) (c : Carrier) (x : CarrierState) :
    (s.setCar c x).timebase = s.timebase := rfl
@[simp] theorem State.setCar_modem (s : State) (c : Carrier) (x : CarrierState) :
    (s.setCar c x).modem = s.modem := rfl
@[simp] theorem State.setCar_carriers (s : State) (c : Carrier) (x : CarrierState) :
    (s.setCar c x).carriers = s.carriers.set c x := rfl
@[simp] theorem State.setCar_pairedA (s : State) (c : Carrier) (x : CarrierState) :
    (s.setCar c x).pairedA = s.pairedA := rfl
@[simp] theorem State.setCar_pairedB (s : State) (c : Carrier) (x : CarrierState) :
    (s.setCar c x).pairedB = s.pairedB := rfl
@[simp] theorem State.setCar_tables (s : State) (c : Carrier) (x : CarrierState) :
    (s.setCar c x).tables = s.tables := rfl
@[simp] theorem State.setCar_outQueue (s : State) (c : Carrier) (x : CarrierState) :
    (s.setCar c x).outQueue = s.outQueue := rfl
@[simp] theorem State.setCar_sender (s : State) (c : Carrier) (x : CarrierState) :
    (s.setCar c x).sender = s.sender := rfl
@[simp] theorem State.setCar_receiver (s : State) (c : Carrier) (x : CarrierState) :
    (s.setCar c x).receiver = s.receiver := rfl
@[simp] theorem State.setCar_alarms (s : State) (c : Carrier) (x : CarrierState) :
    (s.setCar c x).alarms = s.alarms := rfl
@[simp] theorem State.setCar_fades (s : State) (c : Carrier) (x : CarrierState) :
    (s.setCar c x).fades = s.fades := rfl
@[simp] theorem State.setCar_port (s : State) (c : Carrier) (x : CarrierState) : (s.setCar c x).port = s.port := rfl
@[simp] theorem State.setCar_settings (s : State) (c : Carrier) (x : CarrierState) :
    (s.setCar c x).settings = s.settings := rfl
@[simp] theorem State.setCar_resetHeld (s : State) (c : Carrier) (x : CarrierState) :
    (s.setCar c x).resetHeld = s.resetHeld := rfl
@[simp] theorem State.setCar_straps (s : State) (c : Carrier) (x : CarrierState) :
    (s.setCar c x).straps = s.straps := rfl
@[simp] theorem State.setCar_choices (s : State) (c : Carrier) (x : CarrierState) :
    (s.setCar c x).choices = s.choices := rfl
@[simp] theorem State.setCar_pending (s : State) (c : Carrier) (x : CarrierState) :
    (s.setCar c x).pending = s.pending := rfl

/-! ### modCar -/

@[simp] theorem modCar_timebase (c : Carrier) (f : CarrierState → CarrierState) (s : State) :
    (modCar c f s).timebase = s.timebase := rfl
@[simp] theorem modCar_modem (c : Carrier) (f : CarrierState → CarrierState) (s : State) :
    (modCar c f s).modem = s.modem := rfl
@[simp] theorem modCar_carriers (c : Carrier) (f : CarrierState → CarrierState) (s : State) :
    (modCar c f s).carriers = s.carriers.set c (f (s.car c)) := rfl
@[simp] theorem modCar_pairedA (c : Carrier) (f : CarrierState → CarrierState) (s : State) :
    (modCar c f s).pairedA = s.pairedA := rfl
@[simp] theorem modCar_pairedB (c : Carrier) (f : CarrierState → CarrierState) (s : State) :
    (modCar c f s).pairedB = s.pairedB := rfl
@[simp] theorem modCar_tables (c : Carrier) (f : CarrierState → CarrierState) (s : State) :
    (modCar c f s).tables = s.tables := rfl
@[simp] theorem modCar_outQueue (c : Carrier) (f : CarrierState → CarrierState) (s : State) :
    (modCar c f s).outQueue = s.outQueue := rfl
@[simp] theorem modCar_sender (c : Carrier) (f : CarrierState → CarrierState) (s : State) :
    (modCar c f s).sender = s.sender := rfl
@[simp] theorem modCar_receiver (c : Carrier) (f : CarrierState → CarrierState) (s : State) :
    (modCar c f s).receiver = s.receiver := rfl
@[simp] theorem modCar_alarms (c : Carrier) (f : CarrierState → CarrierState) (s : State) :
    (modCar c f s).alarms = s.alarms := rfl
@[simp] theorem modCar_fades (c : Carrier) (f : CarrierState → CarrierState) (s : State) :
    (modCar c f s).fades = s.fades := rfl
@[simp] theorem modCar_port (c : Carrier) (f : CarrierState → CarrierState) (s : State) :
    (modCar c f s).port = s.port := rfl
@[simp] theorem modCar_settings (c : Carrier) (f : CarrierState → CarrierState) (s : State) :
    (modCar c f s).settings = s.settings := rfl
@[simp] theorem modCar_resetHeld (c : Carrier) (f : CarrierState → CarrierState) (s : State) :
    (modCar c f s).resetHeld = s.resetHeld := rfl
@[simp] theorem modCar_straps (c : Carrier) (f : CarrierState → CarrierState) (s : State) :
    (modCar c f s).straps = s.straps := rfl
@[simp] theorem modCar_choices (c : Carrier) (f : CarrierState → CarrierState) (s : State) :
    (modCar c f s).choices = s.choices := rfl
@[simp] theorem modCar_pending (c : Carrier) (f : CarrierState → CarrierState) (s : State) :
    (modCar c f s).pending = s.pending := rfl

/-! ### modEst -/

@[simp] theorem modEst_timebase (c : Carrier) (f : Estimator → Estimator) (s : State) :
    (modEst c f s).timebase = s.timebase := rfl
@[simp] theorem modEst_modem (c : Carrier) (f : Estimator → Estimator) (s : State) :
    (modEst c f s).modem = s.modem := rfl
@[simp] theorem modEst_carriers (c : Carrier) (f : Estimator → Estimator) (s : State) :
    (modEst c f s).carriers = s.carriers.set c { s.car c with est := f (s.car c).est } := rfl
@[simp] theorem modEst_pairedA (c : Carrier) (f : Estimator → Estimator) (s : State) :
    (modEst c f s).pairedA = s.pairedA := rfl
@[simp] theorem modEst_pairedB (c : Carrier) (f : Estimator → Estimator) (s : State) :
    (modEst c f s).pairedB = s.pairedB := rfl
@[simp] theorem modEst_tables (c : Carrier) (f : Estimator → Estimator) (s : State) :
    (modEst c f s).tables = s.tables := rfl
@[simp] theorem modEst_outQueue (c : Carrier) (f : Estimator → Estimator) (s : State) :
    (modEst c f s).outQueue = s.outQueue := rfl
@[simp] theorem modEst_sender (c : Carrier) (f : Estimator → Estimator) (s : State) :
    (modEst c f s).sender = s.sender := rfl
@[simp] theorem modEst_receiver (c : Carrier) (f : Estimator → Estimator) (s : State) :
    (modEst c f s).receiver = s.receiver := rfl
@[simp] theorem modEst_alarms (c : Carrier) (f : Estimator → Estimator) (s : State) :
    (modEst c f s).alarms = s.alarms := rfl
@[simp] theorem modEst_fades (c : Carrier) (f : Estimator → Estimator) (s : State) :
    (modEst c f s).fades = s.fades := rfl
@[simp] theorem modEst_port (c : Carrier) (f : Estimator → Estimator) (s : State) :
    (modEst c f s).port = s.port := rfl
@[simp] theorem modEst_settings (c : Carrier) (f : Estimator → Estimator) (s : State) :
    (modEst c f s).settings = s.settings := rfl
@[simp] theorem modEst_resetHeld (c : Carrier) (f : Estimator → Estimator) (s : State) :
    (modEst c f s).resetHeld = s.resetHeld := rfl
@[simp] theorem modEst_straps (c : Carrier) (f : Estimator → Estimator) (s : State) :
    (modEst c f s).straps = s.straps := rfl
@[simp] theorem modEst_choices (c : Carrier) (f : Estimator → Estimator) (s : State) :
    (modEst c f s).choices = s.choices := rfl
@[simp] theorem modEst_pending (c : Carrier) (f : Estimator → Estimator) (s : State) :
    (modEst c f s).pending = s.pending := rfl

/-! ### modRac -/

@[simp] theorem modRac_timebase (c : Carrier) (f : Rac → Rac) (s : State) :
    (modRac c f s).timebase = s.timebase := rfl
@[simp] theorem modRac_modem (c : Carrier) (f : Rac → Rac) (s : State) : (modRac c f s).modem = s.modem := rfl
@[simp] theorem modRac_carriers (c : Carrier) (f : Rac → Rac) (s : State) :
    (modRac c f s).carriers = s.carriers.set c { s.car c with rac := f (s.car c).rac } := rfl
@[simp] theorem modRac_pairedA (c : Carrier) (f : Rac → Rac) (s : State) : (modRac c f s).pairedA = s.pairedA := rfl
@[simp] theorem modRac_pairedB (c : Carrier) (f : Rac → Rac) (s : State) : (modRac c f s).pairedB = s.pairedB := rfl
@[simp] theorem modRac_tables (c : Carrier) (f : Rac → Rac) (s : State) : (modRac c f s).tables = s.tables := rfl
@[simp] theorem modRac_outQueue (c : Carrier) (f : Rac → Rac) (s : State) :
    (modRac c f s).outQueue = s.outQueue := rfl
@[simp] theorem modRac_sender (c : Carrier) (f : Rac → Rac) (s : State) : (modRac c f s).sender = s.sender := rfl
@[simp] theorem modRac_receiver (c : Carrier) (f : Rac → Rac) (s : State) :
    (modRac c f s).receiver = s.receiver := rfl
@[simp] theorem modRac_alarms (c : Carrier) (f : Rac → Rac) (s : State) : (modRac c f s).alarms = s.alarms := rfl
@[simp] theorem modRac_fades (c : Carrier) (f : Rac → Rac) (s : State) : (modRac c f s).fades = s.fades := rfl
@[simp] theorem modRac_port (c : Carrier) (f : Rac → Rac) (s : State) : (modRac c f s).port = s.port := rfl
@[simp] theorem modRac_settings (c : Carrier) (f : Rac → Rac) (s : State) :
    (modRac c f s).settings = s.settings := rfl
@[simp] theorem modRac_resetHeld (c : Carrier) (f : Rac → Rac) (s : State) :
    (modRac c f s).resetHeld = s.resetHeld := rfl
@[simp] theorem modRac_straps (c : Carrier) (f : Rac → Rac) (s : State) : (modRac c f s).straps = s.straps := rfl
@[simp] theorem modRac_choices (c : Carrier) (f : Rac → Rac) (s : State) : (modRac c f s).choices = s.choices := rfl
@[simp] theorem modRac_pending (c : Carrier) (f : Rac → Rac) (s : State) : (modRac c f s).pending = s.pending := rfl

/-! ### modTac -/

@[simp] theorem modTac_timebase (c : Carrier) (f : Tac → Tac) (s : State) :
    (modTac c f s).timebase = s.timebase := rfl
@[simp] theorem modTac_modem (c : Carrier) (f : Tac → Tac) (s : State) : (modTac c f s).modem = s.modem := rfl
@[simp] theorem modTac_carriers (c : Carrier) (f : Tac → Tac) (s : State) :
    (modTac c f s).carriers = s.carriers.set c { s.car c with tac := f (s.car c).tac } := rfl
@[simp] theorem modTac_pairedA (c : Carrier) (f : Tac → Tac) (s : State) : (modTac c f s).pairedA = s.pairedA := rfl
@[simp] theorem modTac_pairedB (c : Carrier) (f : Tac → Tac) (s : State) : (modTac c f s).pairedB = s.pairedB := rfl
@[simp] theorem modTac_tables (c : Carrier) (f : Tac → Tac) (s : State) : (modTac c f s).tables = s.tables := rfl
@[simp] theorem modTac_outQueue (c : Carrier) (f : Tac → Tac) (s : State) :
    (modTac c f s).outQueue = s.outQueue := rfl
@[simp] theorem modTac_sender (c : Carrier) (f : Tac → Tac) (s : State) : (modTac c f s).sender = s.sender := rfl
@[simp] theorem modTac_receiver (c : Carrier) (f : Tac → Tac) (s : State) :
    (modTac c f s).receiver = s.receiver := rfl
@[simp] theorem modTac_alarms (c : Carrier) (f : Tac → Tac) (s : State) : (modTac c f s).alarms = s.alarms := rfl
@[simp] theorem modTac_fades (c : Carrier) (f : Tac → Tac) (s : State) : (modTac c f s).fades = s.fades := rfl
@[simp] theorem modTac_port (c : Carrier) (f : Tac → Tac) (s : State) : (modTac c f s).port = s.port := rfl
@[simp] theorem modTac_settings (c : Carrier) (f : Tac → Tac) (s : State) :
    (modTac c f s).settings = s.settings := rfl
@[simp] theorem modTac_resetHeld (c : Carrier) (f : Tac → Tac) (s : State) :
    (modTac c f s).resetHeld = s.resetHeld := rfl
@[simp] theorem modTac_straps (c : Carrier) (f : Tac → Tac) (s : State) : (modTac c f s).straps = s.straps := rfl
@[simp] theorem modTac_choices (c : Carrier) (f : Tac → Tac) (s : State) : (modTac c f s).choices = s.choices := rfl
@[simp] theorem modTac_pending (c : Carrier) (f : Tac → Tac) (s : State) : (modTac c f s).pending = s.pending := rfl

/-! ### modLac -/

@[simp] theorem modLac_timebase (c : Carrier) (f : Lac → Lac) (s : State) :
    (modLac c f s).timebase = s.timebase := rfl
@[simp] theorem modLac_modem (c : Carrier) (f : Lac → Lac) (s : State) : (modLac c f s).modem = s.modem := rfl
@[simp] theorem modLac_carriers (c : Carrier) (f : Lac → Lac) (s : State) :
    (modLac c f s).carriers = s.carriers.set c { s.car c with lac := f (s.car c).lac } := rfl
@[simp] theorem modLac_pairedA (c : Carrier) (f : Lac → Lac) (s : State) : (modLac c f s).pairedA = s.pairedA := rfl
@[simp] theorem modLac_pairedB (c : Carrier) (f : Lac → Lac) (s : State) : (modLac c f s).pairedB = s.pairedB := rfl
@[simp] theorem modLac_tables (c : Carrier) (f : Lac → Lac) (s : State) : (modLac c f s).tables = s.tables := rfl
@[simp] theorem modLac_outQueue (c : Carrier) (f : Lac → Lac) (s : State) :
    (modLac c f s).outQueue = s.outQueue := rfl
@[simp] theorem modLac_sender (c : Carrier) (f : Lac → Lac) (s : State) : (modLac c f s).sender = s.sender := rfl
@[simp] theorem modLac_receiver (c : Carrier) (f : Lac → Lac) (s : State) :
    (modLac c f s).receiver = s.receiver := rfl
@[simp] theorem modLac_alarms (c : Carrier) (f : Lac → Lac) (s : State) : (modLac c f s).alarms = s.alarms := rfl
@[simp] theorem modLac_fades (c : Carrier) (f : Lac → Lac) (s : State) : (modLac c f s).fades = s.fades := rfl
@[simp] theorem modLac_port (c : Carrier) (f : Lac → Lac) (s : State) : (modLac c f s).port = s.port := rfl
@[simp] theorem modLac_settings (c : Carrier) (f : Lac → Lac) (s : State) :
    (modLac c f s).settings = s.settings := rfl
@[simp] theorem modLac_resetHeld (c : Carrier) (f : Lac → Lac) (s : State) :
    (modLac c f s).resetHeld = s.resetHeld := rfl
@[simp] theorem modLac_straps (c : Carrier) (f : Lac → Lac) (s : State) : (modLac c f s).straps = s.straps := rfl
@[simp] theorem modLac_choices (c : Carrier) (f : Lac → Lac) (s : State) : (modLac c f s).choices = s.choices := rfl
@[simp] theorem modLac_pending (c : Carrier) (f : Lac → Lac) (s : State) : (modLac c f s).pending = s.pending := rfl

/-! ### modSup -/

@[simp] theorem modSup_timebase (c : Carrier) (f : Supervisor → Supervisor) (s : State) :
    (modSup c f s).timebase = s.timebase := rfl
@[simp] theorem modSup_modem (c : Carrier) (f : Supervisor → Supervisor) (s : State) :
    (modSup c f s).modem = s.modem := rfl
@[simp] theorem modSup_carriers (c : Carrier) (f : Supervisor → Supervisor) (s : State) :
    (modSup c f s).carriers = s.carriers.set c { s.car c with sup := f (s.car c).sup } := rfl
@[simp] theorem modSup_pairedA (c : Carrier) (f : Supervisor → Supervisor) (s : State) :
    (modSup c f s).pairedA = s.pairedA := rfl
@[simp] theorem modSup_pairedB (c : Carrier) (f : Supervisor → Supervisor) (s : State) :
    (modSup c f s).pairedB = s.pairedB := rfl
@[simp] theorem modSup_tables (c : Carrier) (f : Supervisor → Supervisor) (s : State) :
    (modSup c f s).tables = s.tables := rfl
@[simp] theorem modSup_outQueue (c : Carrier) (f : Supervisor → Supervisor) (s : State) :
    (modSup c f s).outQueue = s.outQueue := rfl
@[simp] theorem modSup_sender (c : Carrier) (f : Supervisor → Supervisor) (s : State) :
    (modSup c f s).sender = s.sender := rfl
@[simp] theorem modSup_receiver (c : Carrier) (f : Supervisor → Supervisor) (s : State) :
    (modSup c f s).receiver = s.receiver := rfl
@[simp] theorem modSup_alarms (c : Carrier) (f : Supervisor → Supervisor) (s : State) :
    (modSup c f s).alarms = s.alarms := rfl
@[simp] theorem modSup_fades (c : Carrier) (f : Supervisor → Supervisor) (s : State) :
    (modSup c f s).fades = s.fades := rfl
@[simp] theorem modSup_port (c : Carrier) (f : Supervisor → Supervisor) (s : State) :
    (modSup c f s).port = s.port := rfl
@[simp] theorem modSup_settings (c : Carrier) (f : Supervisor → Supervisor) (s : State) :
    (modSup c f s).settings = s.settings := rfl
@[simp] theorem modSup_resetHeld (c : Carrier) (f : Supervisor → Supervisor) (s : State) :
    (modSup c f s).resetHeld = s.resetHeld := rfl
@[simp] theorem modSup_straps (c : Carrier) (f : Supervisor → Supervisor) (s : State) :
    (modSup c f s).straps = s.straps := rfl
@[simp] theorem modSup_choices (c : Carrier) (f : Supervisor → Supervisor) (s : State) :
    (modSup c f s).choices = s.choices := rfl
@[simp] theorem modSup_pending (c : Carrier) (f : Supervisor → Supervisor) (s : State) :
    (modSup c f s).pending = s.pending := rfl

/-! ### modStats -/

@[simp] theorem modStats_timebase (c : Carrier) (f : CarrierStats → CarrierStats) (s : State) :
    (modStats c f s).timebase = s.timebase := rfl
@[simp] theorem modStats_modem (c : Carrier) (f : CarrierStats → CarrierStats) (s : State) :
    (modStats c f s).modem = s.modem := rfl
@[simp] theorem modStats_carriers (c : Carrier) (f : CarrierStats → CarrierStats) (s : State) :
    (modStats c f s).carriers = s.carriers.set c { s.car c with stats := f (s.car c).stats } := rfl
@[simp] theorem modStats_pairedA (c : Carrier) (f : CarrierStats → CarrierStats) (s : State) :
    (modStats c f s).pairedA = s.pairedA := rfl
@[simp] theorem modStats_pairedB (c : Carrier) (f : CarrierStats → CarrierStats) (s : State) :
    (modStats c f s).pairedB = s.pairedB := rfl
@[simp] theorem modStats_tables (c : Carrier) (f : CarrierStats → CarrierStats) (s : State) :
    (modStats c f s).tables = s.tables := rfl
@[simp] theorem modStats_outQueue (c : Carrier) (f : CarrierStats → CarrierStats) (s : State) :
    (modStats c f s).outQueue = s.outQueue := rfl
@[simp] theorem modStats_sender (c : Carrier) (f : CarrierStats → CarrierStats) (s : State) :
    (modStats c f s).sender = s.sender := rfl
@[simp] theorem modStats_receiver (c : Carrier) (f : CarrierStats → CarrierStats) (s : State) :
    (modStats c f s).receiver = s.receiver := rfl
@[simp] theorem modStats_alarms (c : Carrier) (f : CarrierStats → CarrierStats) (s : State) :
    (modStats c f s).alarms = s.alarms := rfl
@[simp] theorem modStats_fades (c : Carrier) (f : CarrierStats → CarrierStats) (s : State) :
    (modStats c f s).fades = s.fades := rfl
@[simp] theorem modStats_port (c : Carrier) (f : CarrierStats → CarrierStats) (s : State) :
    (modStats c f s).port = s.port := rfl
@[simp] theorem modStats_settings (c : Carrier) (f : CarrierStats → CarrierStats) (s : State) :
    (modStats c f s).settings = s.settings := rfl
@[simp] theorem modStats_resetHeld (c : Carrier) (f : CarrierStats → CarrierStats) (s : State) :
    (modStats c f s).resetHeld = s.resetHeld := rfl
@[simp] theorem modStats_straps (c : Carrier) (f : CarrierStats → CarrierStats) (s : State) :
    (modStats c f s).straps = s.straps := rfl
@[simp] theorem modStats_choices (c : Carrier) (f : CarrierStats → CarrierStats) (s : State) :
    (modStats c f s).choices = s.choices := rfl
@[simp] theorem modStats_pending (c : Carrier) (f : CarrierStats → CarrierStats) (s : State) :
    (modStats c f s).pending = s.pending := rfl

/-! ### emit -/

@[simp] theorem emit_timebase (d : Directive) (s : State) : (emit d s).timebase = s.timebase := rfl
@[simp] theorem emit_modem (d : Directive) (s : State) :
    (emit d s).modem = { s.modem with outbound := s.modem.outbound ++ [d] } := rfl
@[simp] theorem emit_carriers (d : Directive) (s : State) : (emit d s).carriers = s.carriers := rfl
@[simp] theorem emit_pairedA (d : Directive) (s : State) : (emit d s).pairedA = s.pairedA := rfl
@[simp] theorem emit_pairedB (d : Directive) (s : State) : (emit d s).pairedB = s.pairedB := rfl
@[simp] theorem emit_tables (d : Directive) (s : State) : (emit d s).tables = s.tables := rfl
@[simp] theorem emit_outQueue (d : Directive) (s : State) : (emit d s).outQueue = s.outQueue := rfl
@[simp] theorem emit_sender (d : Directive) (s : State) : (emit d s).sender = s.sender := rfl
@[simp] theorem emit_receiver (d : Directive) (s : State) : (emit d s).receiver = s.receiver := rfl
@[simp] theorem emit_alarms (d : Directive) (s : State) : (emit d s).alarms = s.alarms := rfl
@[simp] theorem emit_fades (d : Directive) (s : State) : (emit d s).fades = s.fades := rfl
@[simp] theorem emit_port (d : Directive) (s : State) : (emit d s).port = s.port := rfl
@[simp] theorem emit_settings (d : Directive) (s : State) : (emit d s).settings = s.settings := rfl
@[simp] theorem emit_resetHeld (d : Directive) (s : State) : (emit d s).resetHeld = s.resetHeld := rfl
@[simp] theorem emit_straps (d : Directive) (s : State) : (emit d s).straps = s.straps := rfl
@[simp] theorem emit_choices (d : Directive) (s : State) : (emit d s).choices = s.choices := rfl
@[simp] theorem emit_pending (d : Directive) (s : State) : (emit d s).pending = s.pending := rfl

/-! ### clearPlace -/

@[simp] theorem clearPlace_timebase (p : Place) (s : State) : (clearPlace p s).timebase = s.timebase := rfl
@[simp] theorem clearPlace_modem (p : Place) (s : State) : (clearPlace p s).modem = s.modem := rfl
@[simp] theorem clearPlace_carriers (p : Place) (s : State) : (clearPlace p s).carriers = s.carriers := rfl
@[simp] theorem clearPlace_pairedA (p : Place) (s : State) : (clearPlace p s).pairedA = s.pairedA := rfl
@[simp] theorem clearPlace_pairedB (p : Place) (s : State) : (clearPlace p s).pairedB = s.pairedB := rfl
@[simp] theorem clearPlace_tables (p : Place) (s : State) : (clearPlace p s).tables = s.tables := rfl
@[simp] theorem clearPlace_outQueue (p : Place) (s : State) :
    (clearPlace p s).outQueue = s.outQueue.filter fun m => m.place != p := rfl
@[simp] theorem clearPlace_sender (p : Place) (s : State) : (clearPlace p s).sender = s.sender := rfl
@[simp] theorem clearPlace_receiver (p : Place) (s : State) : (clearPlace p s).receiver = s.receiver := rfl
@[simp] theorem clearPlace_alarms (p : Place) (s : State) : (clearPlace p s).alarms = s.alarms := rfl
@[simp] theorem clearPlace_fades (p : Place) (s : State) : (clearPlace p s).fades = s.fades := rfl
@[simp] theorem clearPlace_port (p : Place) (s : State) : (clearPlace p s).port = s.port := rfl
@[simp] theorem clearPlace_settings (p : Place) (s : State) : (clearPlace p s).settings = s.settings := rfl
@[simp] theorem clearPlace_resetHeld (p : Place) (s : State) : (clearPlace p s).resetHeld = s.resetHeld := rfl
@[simp] theorem clearPlace_straps (p : Place) (s : State) : (clearPlace p s).straps = s.straps := rfl
@[simp] theorem clearPlace_choices (p : Place) (s : State) : (clearPlace p s).choices = s.choices := rfl
@[simp] theorem clearPlace_pending (p : Place) (s : State) : (clearPlace p s).pending = s.pending := rfl

/-! ### placeMessage -/

@[simp] theorem placeMessage_timebase (p : Place) (m : LacMsg) (s : State) :
    (placeMessage p m s).timebase = s.timebase := rfl
@[simp] theorem placeMessage_modem (p : Place) (m : LacMsg) (s : State) : (placeMessage p m s).modem = s.modem := rfl
@[simp] theorem placeMessage_carriers (p : Place) (m : LacMsg) (s : State) :
    (placeMessage p m s).carriers = s.carriers := rfl
@[simp] theorem placeMessage_pairedA (p : Place) (m : LacMsg) (s : State) :
    (placeMessage p m s).pairedA = s.pairedA := rfl
@[simp] theorem placeMessage_pairedB (p : Place) (m : LacMsg) (s : State) :
    (placeMessage p m s).pairedB = s.pairedB := rfl
@[simp] theorem placeMessage_tables (p : Place) (m : LacMsg) (s : State) :
    (placeMessage p m s).tables = s.tables := rfl
@[simp] theorem placeMessage_outQueue (p : Place) (m : LacMsg) (s : State) :
    (placeMessage p m s).outQueue = (s.outQueue.filter fun x => x.place != p) ++ [⟨p, m, false⟩] := rfl
@[simp] theorem placeMessage_sender (p : Place) (m : LacMsg) (s : State) :
    (placeMessage p m s).sender = s.sender := rfl
@[simp] theorem placeMessage_receiver (p : Place) (m : LacMsg) (s : State) :
    (placeMessage p m s).receiver = s.receiver := rfl
@[simp] theorem placeMessage_alarms (p : Place) (m : LacMsg) (s : State) :
    (placeMessage p m s).alarms = s.alarms := rfl
@[simp] theorem placeMessage_fades (p : Place) (m : LacMsg) (s : State) : (placeMessage p m s).fades = s.fades := rfl
@[simp] theorem placeMessage_port (p : Place) (m : LacMsg) (s : State) : (placeMessage p m s).port = s.port := rfl
@[simp] theorem placeMessage_settings (p : Place) (m : LacMsg) (s : State) :
    (placeMessage p m s).settings = s.settings := rfl
@[simp] theorem placeMessage_resetHeld (p : Place) (m : LacMsg) (s : State) :
    (placeMessage p m s).resetHeld = s.resetHeld := rfl
@[simp] theorem placeMessage_straps (p : Place) (m : LacMsg) (s : State) :
    (placeMessage p m s).straps = s.straps := rfl
@[simp] theorem placeMessage_choices (p : Place) (m : LacMsg) (s : State) :
    (placeMessage p m s).choices = s.choices := rfl
@[simp] theorem placeMessage_pending (p : Place) (m : LacMsg) (s : State) :
    (placeMessage p m s).pending = s.pending := rfl

/-! ### clearRidden -/

@[simp] theorem clearRidden_timebase (s : State) : (clearRidden s).timebase = s.timebase := rfl
@[simp] theorem clearRidden_modem (s : State) : (clearRidden s).modem = s.modem := rfl
@[simp] theorem clearRidden_carriers (s : State) : (clearRidden s).carriers = s.carriers := rfl
@[simp] theorem clearRidden_pairedA (s : State) : (clearRidden s).pairedA = s.pairedA := rfl
@[simp] theorem clearRidden_pairedB (s : State) : (clearRidden s).pairedB = s.pairedB := rfl
@[simp] theorem clearRidden_tables (s : State) : (clearRidden s).tables = s.tables := rfl
@[simp] theorem clearRidden_outQueue (s : State) :
    (clearRidden s).outQueue = s.outQueue.map fun m => { m with ridden := false } := rfl
@[simp] theorem clearRidden_sender (s : State) : (clearRidden s).sender = s.sender := rfl
@[simp] theorem clearRidden_receiver (s : State) : (clearRidden s).receiver = s.receiver := rfl
@[simp] theorem clearRidden_alarms (s : State) : (clearRidden s).alarms = s.alarms := rfl
@[simp] theorem clearRidden_fades (s : State) : (clearRidden s).fades = s.fades := rfl
@[simp] theorem clearRidden_port (s : State) : (clearRidden s).port = s.port := rfl
@[simp] theorem clearRidden_settings (s : State) : (clearRidden s).settings = s.settings := rfl
@[simp] theorem clearRidden_resetHeld (s : State) : (clearRidden s).resetHeld = s.resetHeld := rfl
@[simp] theorem clearRidden_straps (s : State) : (clearRidden s).straps = s.straps := rfl
@[simp] theorem clearRidden_choices (s : State) : (clearRidden s).choices = s.choices := rfl
@[simp] theorem clearRidden_pending (s : State) : (clearRidden s).pending = s.pending := rfl

/-! ### modTables -/

@[simp] theorem modTables_timebase (f : TableStore → TableStore) (s : State) :
    (modTables f s).timebase = s.timebase := rfl
@[simp] theorem modTables_modem (f : TableStore → TableStore) (s : State) : (modTables f s).modem = s.modem := rfl
@[simp] theorem modTables_carriers (f : TableStore → TableStore) (s : State) :
    (modTables f s).carriers = s.carriers := rfl
@[simp] theorem modTables_pairedA (f : TableStore → TableStore) (s : State) :
    (modTables f s).pairedA = s.pairedA := rfl
@[simp] theorem modTables_pairedB (f : TableStore → TableStore) (s : State) :
    (modTables f s).pairedB = s.pairedB := rfl
@[simp] theorem modTables_tables (f : TableStore → TableStore) (s : State) :
    (modTables f s).tables = f s.tables := rfl
@[simp] theorem modTables_outQueue (f : TableStore → TableStore) (s : State) :
    (modTables f s).outQueue = s.outQueue := rfl
@[simp] theorem modTables_sender (f : TableStore → TableStore) (s : State) : (modTables f s).sender = s.sender := rfl
@[simp] theorem modTables_receiver (f : TableStore → TableStore) (s : State) :
    (modTables f s).receiver = s.receiver := rfl
@[simp] theorem modTables_alarms (f : TableStore → TableStore) (s : State) : (modTables f s).alarms = s.alarms := rfl
@[simp] theorem modTables_fades (f : TableStore → TableStore) (s : State) : (modTables f s).fades = s.fades := rfl
@[simp] theorem modTables_port (f : TableStore → TableStore) (s : State) : (modTables f s).port = s.port := rfl
@[simp] theorem modTables_settings (f : TableStore → TableStore) (s : State) :
    (modTables f s).settings = s.settings := rfl
@[simp] theorem modTables_resetHeld (f : TableStore → TableStore) (s : State) :
    (modTables f s).resetHeld = s.resetHeld := rfl
@[simp] theorem modTables_straps (f : TableStore → TableStore) (s : State) : (modTables f s).straps = s.straps := rfl
@[simp] theorem modTables_choices (f : TableStore → TableStore) (s : State) :
    (modTables f s).choices = s.choices := rfl
@[simp] theorem modTables_pending (f : TableStore → TableStore) (s : State) :
    (modTables f s).pending = s.pending := rfl

/-! ### modSender -/

@[simp] theorem modSender_timebase (f : Sender → Sender) (s : State) : (modSender f s).timebase = s.timebase := rfl
@[simp] theorem modSender_modem (f : Sender → Sender) (s : State) : (modSender f s).modem = s.modem := rfl
@[simp] theorem modSender_carriers (f : Sender → Sender) (s : State) : (modSender f s).carriers = s.carriers := rfl
@[simp] theorem modSender_pairedA (f : Sender → Sender) (s : State) : (modSender f s).pairedA = s.pairedA := rfl
@[simp] theorem modSender_pairedB (f : Sender → Sender) (s : State) : (modSender f s).pairedB = s.pairedB := rfl
@[simp] theorem modSender_tables (f : Sender → Sender) (s : State) : (modSender f s).tables = s.tables := rfl
@[simp] theorem modSender_outQueue (f : Sender → Sender) (s : State) : (modSender f s).outQueue = s.outQueue := rfl
@[simp] theorem modSender_sender (f : Sender → Sender) (s : State) : (modSender f s).sender = f s.sender := rfl
@[simp] theorem modSender_receiver (f : Sender → Sender) (s : State) : (modSender f s).receiver = s.receiver := rfl
@[simp] theorem modSender_alarms (f : Sender → Sender) (s : State) : (modSender f s).alarms = s.alarms := rfl
@[simp] theorem modSender_fades (f : Sender → Sender) (s : State) : (modSender f s).fades = s.fades := rfl
@[simp] theorem modSender_port (f : Sender → Sender) (s : State) : (modSender f s).port = s.port := rfl
@[simp] theorem modSender_settings (f : Sender → Sender) (s : State) : (modSender f s).settings = s.settings := rfl
@[simp] theorem modSender_resetHeld (f : Sender → Sender) (s : State) : (modSender f s).resetHeld = s.resetHeld := rfl
@[simp] theorem modSender_straps (f : Sender → Sender) (s : State) : (modSender f s).straps = s.straps := rfl
@[simp] theorem modSender_choices (f : Sender → Sender) (s : State) : (modSender f s).choices = s.choices := rfl
@[simp] theorem modSender_pending (f : Sender → Sender) (s : State) : (modSender f s).pending = s.pending := rfl

/-! ### modReceiver -/

@[simp] theorem modReceiver_timebase (f : Receiver → Receiver) (s : State) :
    (modReceiver f s).timebase = s.timebase := rfl
@[simp] theorem modReceiver_modem (f : Receiver → Receiver) (s : State) : (modReceiver f s).modem = s.modem := rfl
@[simp] theorem modReceiver_carriers (f : Receiver → Receiver) (s : State) :
    (modReceiver f s).carriers = s.carriers := rfl
@[simp] theorem modReceiver_pairedA (f : Receiver → Receiver) (s : State) :
    (modReceiver f s).pairedA = s.pairedA := rfl
@[simp] theorem modReceiver_pairedB (f : Receiver → Receiver) (s : State) :
    (modReceiver f s).pairedB = s.pairedB := rfl
@[simp] theorem modReceiver_tables (f : Receiver → Receiver) (s : State) : (modReceiver f s).tables = s.tables := rfl
@[simp] theorem modReceiver_outQueue (f : Receiver → Receiver) (s : State) :
    (modReceiver f s).outQueue = s.outQueue := rfl
@[simp] theorem modReceiver_sender (f : Receiver → Receiver) (s : State) : (modReceiver f s).sender = s.sender := rfl
@[simp] theorem modReceiver_receiver (f : Receiver → Receiver) (s : State) :
    (modReceiver f s).receiver = f s.receiver := rfl
@[simp] theorem modReceiver_alarms (f : Receiver → Receiver) (s : State) : (modReceiver f s).alarms = s.alarms := rfl
@[simp] theorem modReceiver_fades (f : Receiver → Receiver) (s : State) : (modReceiver f s).fades = s.fades := rfl
@[simp] theorem modReceiver_port (f : Receiver → Receiver) (s : State) : (modReceiver f s).port = s.port := rfl
@[simp] theorem modReceiver_settings (f : Receiver → Receiver) (s : State) :
    (modReceiver f s).settings = s.settings := rfl
@[simp] theorem modReceiver_resetHeld (f : Receiver → Receiver) (s : State) :
    (modReceiver f s).resetHeld = s.resetHeld := rfl
@[simp] theorem modReceiver_straps (f : Receiver → Receiver) (s : State) : (modReceiver f s).straps = s.straps := rfl
@[simp] theorem modReceiver_choices (f : Receiver → Receiver) (s : State) :
    (modReceiver f s).choices = s.choices := rfl
@[simp] theorem modReceiver_pending (f : Receiver → Receiver) (s : State) :
    (modReceiver f s).pending = s.pending := rfl

/-! ### modModem -/

@[simp] theorem modModem_timebase (f : ModemLink → ModemLink) (s : State) :
    (modModem f s).timebase = s.timebase := rfl
@[simp] theorem modModem_modem (f : ModemLink → ModemLink) (s : State) : (modModem f s).modem = f s.modem := rfl
@[simp] theorem modModem_carriers (f : ModemLink → ModemLink) (s : State) :
    (modModem f s).carriers = s.carriers := rfl
@[simp] theorem modModem_pairedA (f : ModemLink → ModemLink) (s : State) : (modModem f s).pairedA = s.pairedA := rfl
@[simp] theorem modModem_pairedB (f : ModemLink → ModemLink) (s : State) : (modModem f s).pairedB = s.pairedB := rfl
@[simp] theorem modModem_tables (f : ModemLink → ModemLink) (s : State) : (modModem f s).tables = s.tables := rfl
@[simp] theorem modModem_outQueue (f : ModemLink → ModemLink) (s : State) :
    (modModem f s).outQueue = s.outQueue := rfl
@[simp] theorem modModem_sender (f : ModemLink → ModemLink) (s : State) : (modModem f s).sender = s.sender := rfl
@[simp] theorem modModem_receiver (f : ModemLink → ModemLink) (s : State) :
    (modModem f s).receiver = s.receiver := rfl
@[simp] theorem modModem_alarms (f : ModemLink → ModemLink) (s : State) : (modModem f s).alarms = s.alarms := rfl
@[simp] theorem modModem_fades (f : ModemLink → ModemLink) (s : State) : (modModem f s).fades = s.fades := rfl
@[simp] theorem modModem_port (f : ModemLink → ModemLink) (s : State) : (modModem f s).port = s.port := rfl
@[simp] theorem modModem_settings (f : ModemLink → ModemLink) (s : State) :
    (modModem f s).settings = s.settings := rfl
@[simp] theorem modModem_resetHeld (f : ModemLink → ModemLink) (s : State) :
    (modModem f s).resetHeld = s.resetHeld := rfl
@[simp] theorem modModem_straps (f : ModemLink → ModemLink) (s : State) : (modModem f s).straps = s.straps := rfl
@[simp] theorem modModem_choices (f : ModemLink → ModemLink) (s : State) : (modModem f s).choices = s.choices := rfl
@[simp] theorem modModem_pending (f : ModemLink → ModemLink) (s : State) : (modModem f s).pending = s.pending := rfl

/-! ### modPort -/

@[simp] theorem modPort_timebase (f : Port → Port) (s : State) : (modPort f s).timebase = s.timebase := rfl
@[simp] theorem modPort_modem (f : Port → Port) (s : State) : (modPort f s).modem = s.modem := rfl
@[simp] theorem modPort_carriers (f : Port → Port) (s : State) : (modPort f s).carriers = s.carriers := rfl
@[simp] theorem modPort_pairedA (f : Port → Port) (s : State) : (modPort f s).pairedA = s.pairedA := rfl
@[simp] theorem modPort_pairedB (f : Port → Port) (s : State) : (modPort f s).pairedB = s.pairedB := rfl
@[simp] theorem modPort_tables (f : Port → Port) (s : State) : (modPort f s).tables = s.tables := rfl
@[simp] theorem modPort_outQueue (f : Port → Port) (s : State) : (modPort f s).outQueue = s.outQueue := rfl
@[simp] theorem modPort_sender (f : Port → Port) (s : State) : (modPort f s).sender = s.sender := rfl
@[simp] theorem modPort_receiver (f : Port → Port) (s : State) : (modPort f s).receiver = s.receiver := rfl
@[simp] theorem modPort_alarms (f : Port → Port) (s : State) : (modPort f s).alarms = s.alarms := rfl
@[simp] theorem modPort_fades (f : Port → Port) (s : State) : (modPort f s).fades = s.fades := rfl
@[simp] theorem modPort_port (f : Port → Port) (s : State) : (modPort f s).port = f s.port := rfl
@[simp] theorem modPort_settings (f : Port → Port) (s : State) : (modPort f s).settings = s.settings := rfl
@[simp] theorem modPort_resetHeld (f : Port → Port) (s : State) : (modPort f s).resetHeld = s.resetHeld := rfl
@[simp] theorem modPort_straps (f : Port → Port) (s : State) : (modPort f s).straps = s.straps := rfl
@[simp] theorem modPort_choices (f : Port → Port) (s : State) : (modPort f s).choices = s.choices := rfl
@[simp] theorem modPort_pending (f : Port → Port) (s : State) : (modPort f s).pending = s.pending := rfl

/-! ### drawn -/

@[simp] theorem drawn_timebase (s : State) : (drawn s).timebase = s.timebase := rfl
@[simp] theorem drawn_modem (s : State) : (drawn s).modem = s.modem := rfl
@[simp] theorem drawn_carriers (s : State) : (drawn s).carriers = s.carriers := rfl
@[simp] theorem drawn_pairedA (s : State) : (drawn s).pairedA = s.pairedA := rfl
@[simp] theorem drawn_pairedB (s : State) : (drawn s).pairedB = s.pairedB := rfl
@[simp] theorem drawn_tables (s : State) : (drawn s).tables = s.tables := rfl
@[simp] theorem drawn_outQueue (s : State) : (drawn s).outQueue = s.outQueue := rfl
@[simp] theorem drawn_sender (s : State) : (drawn s).sender = s.sender := rfl
@[simp] theorem drawn_receiver (s : State) : (drawn s).receiver = s.receiver := rfl
@[simp] theorem drawn_alarms (s : State) : (drawn s).alarms = s.alarms := rfl
@[simp] theorem drawn_fades (s : State) : (drawn s).fades = s.fades := rfl
@[simp] theorem drawn_port (s : State) : (drawn s).port = s.port := rfl
@[simp] theorem drawn_settings (s : State) : (drawn s).settings = s.settings := rfl
@[simp] theorem drawn_resetHeld (s : State) : (drawn s).resetHeld = s.resetHeld := rfl
@[simp] theorem drawn_straps (s : State) : (drawn s).straps = s.straps := rfl
@[simp] theorem drawn_pending (s : State) : (drawn s).pending = s.pending := rfl
@[simp] theorem drawn_choices (s : State) : (drawn s).choices = s.choices + 1 := rfl
@[simp] theorem drawn_car (s : State) (c : Carrier) : (drawn s).car c = s.car c := rfl

/-! ### modTimebase -/

@[simp] theorem modTimebase_timebase (f : Timebase → Timebase) (s : State) :
    (modTimebase f s).timebase = f s.timebase := rfl
@[simp] theorem modTimebase_modem (f : Timebase → Timebase) (s : State) : (modTimebase f s).modem = s.modem := rfl
@[simp] theorem modTimebase_carriers (f : Timebase → Timebase) (s : State) :
    (modTimebase f s).carriers = s.carriers := rfl
@[simp] theorem modTimebase_pairedA (f : Timebase → Timebase) (s : State) :
    (modTimebase f s).pairedA = s.pairedA := rfl
@[simp] theorem modTimebase_pairedB (f : Timebase → Timebase) (s : State) :
    (modTimebase f s).pairedB = s.pairedB := rfl
@[simp] theorem modTimebase_tables (f : Timebase → Timebase) (s : State) : (modTimebase f s).tables = s.tables := rfl
@[simp] theorem modTimebase_outQueue (f : Timebase → Timebase) (s : State) :
    (modTimebase f s).outQueue = s.outQueue := rfl
@[simp] theorem modTimebase_sender (f : Timebase → Timebase) (s : State) : (modTimebase f s).sender = s.sender := rfl
@[simp] theorem modTimebase_receiver (f : Timebase → Timebase) (s : State) :
    (modTimebase f s).receiver = s.receiver := rfl
@[simp] theorem modTimebase_alarms (f : Timebase → Timebase) (s : State) : (modTimebase f s).alarms = s.alarms := rfl
@[simp] theorem modTimebase_fades (f : Timebase → Timebase) (s : State) : (modTimebase f s).fades = s.fades := rfl
@[simp] theorem modTimebase_port (f : Timebase → Timebase) (s : State) : (modTimebase f s).port = s.port := rfl
@[simp] theorem modTimebase_settings (f : Timebase → Timebase) (s : State) :
    (modTimebase f s).settings = s.settings := rfl
@[simp] theorem modTimebase_resetHeld (f : Timebase → Timebase) (s : State) :
    (modTimebase f s).resetHeld = s.resetHeld := rfl
@[simp] theorem modTimebase_straps (f : Timebase → Timebase) (s : State) : (modTimebase f s).straps = s.straps := rfl
@[simp] theorem modTimebase_choices (f : Timebase → Timebase) (s : State) :
    (modTimebase f s).choices = s.choices := rfl
@[simp] theorem modTimebase_pending (f : Timebase → Timebase) (s : State) :
    (modTimebase f s).pending = s.pending := rfl

/-! ### modSettings -/

@[simp] theorem modSettings_timebase (f : Settings → Settings) (s : State) :
    (modSettings f s).timebase = s.timebase := rfl
@[simp] theorem modSettings_modem (f : Settings → Settings) (s : State) : (modSettings f s).modem = s.modem := rfl
@[simp] theorem modSettings_carriers (f : Settings → Settings) (s : State) :
    (modSettings f s).carriers = s.carriers := rfl
@[simp] theorem modSettings_pairedA (f : Settings → Settings) (s : State) :
    (modSettings f s).pairedA = s.pairedA := rfl
@[simp] theorem modSettings_pairedB (f : Settings → Settings) (s : State) :
    (modSettings f s).pairedB = s.pairedB := rfl
@[simp] theorem modSettings_tables (f : Settings → Settings) (s : State) : (modSettings f s).tables = s.tables := rfl
@[simp] theorem modSettings_outQueue (f : Settings → Settings) (s : State) :
    (modSettings f s).outQueue = s.outQueue := rfl
@[simp] theorem modSettings_sender (f : Settings → Settings) (s : State) : (modSettings f s).sender = s.sender := rfl
@[simp] theorem modSettings_receiver (f : Settings → Settings) (s : State) :
    (modSettings f s).receiver = s.receiver := rfl
@[simp] theorem modSettings_alarms (f : Settings → Settings) (s : State) : (modSettings f s).alarms = s.alarms := rfl
@[simp] theorem modSettings_fades (f : Settings → Settings) (s : State) : (modSettings f s).fades = s.fades := rfl
@[simp] theorem modSettings_port (f : Settings → Settings) (s : State) : (modSettings f s).port = s.port := rfl
@[simp] theorem modSettings_settings (f : Settings → Settings) (s : State) :
    (modSettings f s).settings = f s.settings := rfl
@[simp] theorem modSettings_resetHeld (f : Settings → Settings) (s : State) :
    (modSettings f s).resetHeld = s.resetHeld := rfl
@[simp] theorem modSettings_straps (f : Settings → Settings) (s : State) : (modSettings f s).straps = s.straps := rfl
@[simp] theorem modSettings_choices (f : Settings → Settings) (s : State) :
    (modSettings f s).choices = s.choices := rfl
@[simp] theorem modSettings_pending (f : Settings → Settings) (s : State) :
    (modSettings f s).pending = s.pending := rfl

/-! ### A carrier's other contexts after a change of one -/

@[simp] theorem modEst_car_est (c : Carrier) (f : Estimator → Estimator) (s : State) :
    ((modEst c f s).car c).est = f (s.car c).est := by simp [modEst]
@[simp] theorem modEst_car_rac (c d : Carrier) (f : Estimator → Estimator) (s : State) :
    ((modEst c f s).car d).rac = (s.car d).rac := by
  simp only [modEst, car_modCar]
  split <;> simp_all
@[simp] theorem modEst_car_tac (c d : Carrier) (f : Estimator → Estimator) (s : State) :
    ((modEst c f s).car d).tac = (s.car d).tac := by
  simp only [modEst, car_modCar]
  split <;> simp_all
@[simp] theorem modEst_car_lac (c d : Carrier) (f : Estimator → Estimator) (s : State) :
    ((modEst c f s).car d).lac = (s.car d).lac := by
  simp only [modEst, car_modCar]
  split <;> simp_all
@[simp] theorem modEst_car_sup (c d : Carrier) (f : Estimator → Estimator) (s : State) :
    ((modEst c f s).car d).sup = (s.car d).sup := by
  simp only [modEst, car_modCar]
  split <;> simp_all
@[simp] theorem modEst_car_fade (c d : Carrier) (f : Estimator → Estimator) (s : State) :
    ((modEst c f s).car d).fade = (s.car d).fade := by
  simp only [modEst, car_modCar]
  split <;> simp_all
@[simp] theorem modEst_car_wires (c d : Carrier) (f : Estimator → Estimator) (s : State) :
    ((modEst c f s).car d).wires = (s.car d).wires := by
  simp only [modEst, car_modCar]
  split <;> simp_all
@[simp] theorem modEst_car_reports (c d : Carrier) (f : Estimator → Estimator) (s : State) :
    ((modEst c f s).car d).reports = (s.car d).reports := by
  simp only [modEst, car_modCar]
  split <;> simp_all
@[simp] theorem modEst_car_stats (c d : Carrier) (f : Estimator → Estimator) (s : State) :
    ((modEst c f s).car d).stats = (s.car d).stats := by
  simp only [modEst, car_modCar]
  split <;> simp_all

@[simp] theorem modRac_car_est (c d : Carrier) (f : Rac → Rac) (s : State) :
    ((modRac c f s).car d).est = (s.car d).est := by
  simp only [modRac, car_modCar]
  split <;> simp_all
@[simp] theorem modRac_car_rac (c : Carrier) (f : Rac → Rac) (s : State) :
    ((modRac c f s).car c).rac = f (s.car c).rac := by simp [modRac]
@[simp] theorem modRac_car_tac (c d : Carrier) (f : Rac → Rac) (s : State) :
    ((modRac c f s).car d).tac = (s.car d).tac := by
  simp only [modRac, car_modCar]
  split <;> simp_all
@[simp] theorem modRac_car_lac (c d : Carrier) (f : Rac → Rac) (s : State) :
    ((modRac c f s).car d).lac = (s.car d).lac := by
  simp only [modRac, car_modCar]
  split <;> simp_all
@[simp] theorem modRac_car_sup (c d : Carrier) (f : Rac → Rac) (s : State) :
    ((modRac c f s).car d).sup = (s.car d).sup := by
  simp only [modRac, car_modCar]
  split <;> simp_all
@[simp] theorem modRac_car_fade (c d : Carrier) (f : Rac → Rac) (s : State) :
    ((modRac c f s).car d).fade = (s.car d).fade := by
  simp only [modRac, car_modCar]
  split <;> simp_all
@[simp] theorem modRac_car_wires (c d : Carrier) (f : Rac → Rac) (s : State) :
    ((modRac c f s).car d).wires = (s.car d).wires := by
  simp only [modRac, car_modCar]
  split <;> simp_all
@[simp] theorem modRac_car_reports (c d : Carrier) (f : Rac → Rac) (s : State) :
    ((modRac c f s).car d).reports = (s.car d).reports := by
  simp only [modRac, car_modCar]
  split <;> simp_all
@[simp] theorem modRac_car_stats (c d : Carrier) (f : Rac → Rac) (s : State) :
    ((modRac c f s).car d).stats = (s.car d).stats := by
  simp only [modRac, car_modCar]
  split <;> simp_all

@[simp] theorem modTac_car_est (c d : Carrier) (f : Tac → Tac) (s : State) :
    ((modTac c f s).car d).est = (s.car d).est := by
  simp only [modTac, car_modCar]
  split <;> simp_all
@[simp] theorem modTac_car_rac (c d : Carrier) (f : Tac → Tac) (s : State) :
    ((modTac c f s).car d).rac = (s.car d).rac := by
  simp only [modTac, car_modCar]
  split <;> simp_all
@[simp] theorem modTac_car_tac (c : Carrier) (f : Tac → Tac) (s : State) :
    ((modTac c f s).car c).tac = f (s.car c).tac := by simp [modTac]
@[simp] theorem modTac_car_lac (c d : Carrier) (f : Tac → Tac) (s : State) :
    ((modTac c f s).car d).lac = (s.car d).lac := by
  simp only [modTac, car_modCar]
  split <;> simp_all
@[simp] theorem modTac_car_sup (c d : Carrier) (f : Tac → Tac) (s : State) :
    ((modTac c f s).car d).sup = (s.car d).sup := by
  simp only [modTac, car_modCar]
  split <;> simp_all
@[simp] theorem modTac_car_fade (c d : Carrier) (f : Tac → Tac) (s : State) :
    ((modTac c f s).car d).fade = (s.car d).fade := by
  simp only [modTac, car_modCar]
  split <;> simp_all
@[simp] theorem modTac_car_wires (c d : Carrier) (f : Tac → Tac) (s : State) :
    ((modTac c f s).car d).wires = (s.car d).wires := by
  simp only [modTac, car_modCar]
  split <;> simp_all
@[simp] theorem modTac_car_reports (c d : Carrier) (f : Tac → Tac) (s : State) :
    ((modTac c f s).car d).reports = (s.car d).reports := by
  simp only [modTac, car_modCar]
  split <;> simp_all
@[simp] theorem modTac_car_stats (c d : Carrier) (f : Tac → Tac) (s : State) :
    ((modTac c f s).car d).stats = (s.car d).stats := by
  simp only [modTac, car_modCar]
  split <;> simp_all

@[simp] theorem modLac_car_est (c d : Carrier) (f : Lac → Lac) (s : State) :
    ((modLac c f s).car d).est = (s.car d).est := by
  simp only [modLac, car_modCar]
  split <;> simp_all
@[simp] theorem modLac_car_rac (c d : Carrier) (f : Lac → Lac) (s : State) :
    ((modLac c f s).car d).rac = (s.car d).rac := by
  simp only [modLac, car_modCar]
  split <;> simp_all
@[simp] theorem modLac_car_tac (c d : Carrier) (f : Lac → Lac) (s : State) :
    ((modLac c f s).car d).tac = (s.car d).tac := by
  simp only [modLac, car_modCar]
  split <;> simp_all
@[simp] theorem modLac_car_lac (c : Carrier) (f : Lac → Lac) (s : State) :
    ((modLac c f s).car c).lac = f (s.car c).lac := by simp [modLac]
@[simp] theorem modLac_car_sup (c d : Carrier) (f : Lac → Lac) (s : State) :
    ((modLac c f s).car d).sup = (s.car d).sup := by
  simp only [modLac, car_modCar]
  split <;> simp_all
@[simp] theorem modLac_car_fade (c d : Carrier) (f : Lac → Lac) (s : State) :
    ((modLac c f s).car d).fade = (s.car d).fade := by
  simp only [modLac, car_modCar]
  split <;> simp_all
@[simp] theorem modLac_car_wires (c d : Carrier) (f : Lac → Lac) (s : State) :
    ((modLac c f s).car d).wires = (s.car d).wires := by
  simp only [modLac, car_modCar]
  split <;> simp_all
@[simp] theorem modLac_car_reports (c d : Carrier) (f : Lac → Lac) (s : State) :
    ((modLac c f s).car d).reports = (s.car d).reports := by
  simp only [modLac, car_modCar]
  split <;> simp_all
@[simp] theorem modLac_car_stats (c d : Carrier) (f : Lac → Lac) (s : State) :
    ((modLac c f s).car d).stats = (s.car d).stats := by
  simp only [modLac, car_modCar]
  split <;> simp_all

@[simp] theorem modSup_car_est (c d : Carrier) (f : Supervisor → Supervisor) (s : State) :
    ((modSup c f s).car d).est = (s.car d).est := by
  simp only [modSup, car_modCar]
  split <;> simp_all
@[simp] theorem modSup_car_rac (c d : Carrier) (f : Supervisor → Supervisor) (s : State) :
    ((modSup c f s).car d).rac = (s.car d).rac := by
  simp only [modSup, car_modCar]
  split <;> simp_all
@[simp] theorem modSup_car_tac (c d : Carrier) (f : Supervisor → Supervisor) (s : State) :
    ((modSup c f s).car d).tac = (s.car d).tac := by
  simp only [modSup, car_modCar]
  split <;> simp_all
@[simp] theorem modSup_car_lac (c d : Carrier) (f : Supervisor → Supervisor) (s : State) :
    ((modSup c f s).car d).lac = (s.car d).lac := by
  simp only [modSup, car_modCar]
  split <;> simp_all
@[simp] theorem modSup_car_sup (c : Carrier) (f : Supervisor → Supervisor) (s : State) :
    ((modSup c f s).car c).sup = f (s.car c).sup := by simp [modSup]
@[simp] theorem modSup_car_fade (c d : Carrier) (f : Supervisor → Supervisor) (s : State) :
    ((modSup c f s).car d).fade = (s.car d).fade := by
  simp only [modSup, car_modCar]
  split <;> simp_all
@[simp] theorem modSup_car_wires (c d : Carrier) (f : Supervisor → Supervisor) (s : State) :
    ((modSup c f s).car d).wires = (s.car d).wires := by
  simp only [modSup, car_modCar]
  split <;> simp_all
@[simp] theorem modSup_car_reports (c d : Carrier) (f : Supervisor → Supervisor) (s : State) :
    ((modSup c f s).car d).reports = (s.car d).reports := by
  simp only [modSup, car_modCar]
  split <;> simp_all
@[simp] theorem modSup_car_stats (c d : Carrier) (f : Supervisor → Supervisor) (s : State) :
    ((modSup c f s).car d).stats = (s.car d).stats := by
  simp only [modSup, car_modCar]
  split <;> simp_all

@[simp] theorem modStats_car_est (c d : Carrier) (f : CarrierStats → CarrierStats) (s : State) :
    ((modStats c f s).car d).est = (s.car d).est := by
  simp only [modStats, car_modCar]
  split <;> simp_all
@[simp] theorem modStats_car_rac (c d : Carrier) (f : CarrierStats → CarrierStats) (s : State) :
    ((modStats c f s).car d).rac = (s.car d).rac := by
  simp only [modStats, car_modCar]
  split <;> simp_all
@[simp] theorem modStats_car_tac (c d : Carrier) (f : CarrierStats → CarrierStats) (s : State) :
    ((modStats c f s).car d).tac = (s.car d).tac := by
  simp only [modStats, car_modCar]
  split <;> simp_all
@[simp] theorem modStats_car_lac (c d : Carrier) (f : CarrierStats → CarrierStats) (s : State) :
    ((modStats c f s).car d).lac = (s.car d).lac := by
  simp only [modStats, car_modCar]
  split <;> simp_all
@[simp] theorem modStats_car_sup (c d : Carrier) (f : CarrierStats → CarrierStats) (s : State) :
    ((modStats c f s).car d).sup = (s.car d).sup := by
  simp only [modStats, car_modCar]
  split <;> simp_all
@[simp] theorem modStats_car_fade (c d : Carrier) (f : CarrierStats → CarrierStats) (s : State) :
    ((modStats c f s).car d).fade = (s.car d).fade := by
  simp only [modStats, car_modCar]
  split <;> simp_all
@[simp] theorem modStats_car_wires (c d : Carrier) (f : CarrierStats → CarrierStats) (s : State) :
    ((modStats c f s).car d).wires = (s.car d).wires := by
  simp only [modStats, car_modCar]
  split <;> simp_all
@[simp] theorem modStats_car_reports (c d : Carrier) (f : CarrierStats → CarrierStats) (s : State) :
    ((modStats c f s).car d).reports = (s.car d).reports := by
  simp only [modStats, car_modCar]
  split <;> simp_all
@[simp] theorem modStats_car_stats (c : Carrier) (f : CarrierStats → CarrierStats) (s : State) :
    ((modStats c f s).car c).stats = f (s.car c).stats := by simp [modStats]

end Sys2Proof.Machine
end

