-- ==== Sys2Proof/Laws/Entries.lean ====
section
/-! SUPPORT. What the mismatch of a carrier, and HALTED and DISABLED entry of a carrier or of a pair, make of the part. -/

namespace Sys2Proof.Machine

/-- Mismatch formed again changes that carrier's mismatch and its wire, collapsed wires, ALERT and notices (R122). -/
theorem formMismatch_spec (c : Carrier) (s : State) :
    ∃ (collapsed : BitVec 6) (alert : Bool) (p : Port),
      formMismatch c s = { s with
        carriers := s.carriers.set c { s.car c with
          lac := { (s.car c).lac with mismatch := mismatchOf (s.car c).lac.peerDigest s.tables.digest }
          wires := { (s.car c).wires with mismatch := mismatchOf (s.car c).lac.peerDigest s.tables.digest } }
        alarms := { s.alarms with collapsed, alert }, port := p } ∧
      s.port.sameButNotices p := by
  obtain ⟨a, b, p, e, n⟩ := setWire_spec .mismatch c (mismatchOf (s.car c).lac.peerDigest s.tables.digest)
    (modLac c (fun l => { l with mismatch := mismatchOf (s.car c).lac.peerDigest s.tables.digest }) s)
  refine ⟨a, b, p, ?_, n⟩
  unfold formMismatch
  rw [e]
  simp [modLac, modCar, State.setCar, State.car, CarrierWires.set]

/-! ### Entries -/

/-- A carrier after its open fade, if it had one, has closed (R149). -/
def CarrierState.faded (k : CarrierState) : CarrierState :=
  { k with fade := none, wires := { k.wires with fade := k.wires.fade && k.fade.isNone } }

/-- A carrier after the wires of an entry have been set (R131, R141). -/
def CarrierState.wired (kind : EntryKind) (k : CarrierState) : CarrierState :=
  { k with wires := match kind with
    | .halt _ => { k.wires with link := true }
    | .disable => { k.wires with link := false, diversity := false, mismatch := false } }

/-- Closing a carrier's fade, whether it has one or not. -/
theorem closeFade_any (e : EndedBy) (c : Carrier) (s : State) :
    ∃ (a : BitVec 6) (b : Bool) (p : Port),
      closeFade e c s = { s with
        carriers := s.carriers.set c (s.car c).faded, fades := fadesClosed [(c, e)] s
        alarms := { s.alarms with collapsed := a, alert := b }, port := p } ∧ s.port.sameButNotices p := by
  cases h : (s.car c).fade with
  | none =>
    refine ⟨s.alarms.collapsed, s.alarms.alert, s.port, ?_, rfl⟩
    have hk : (s.car c).faded = s.carriers.get c := by
      unfold CarrierState.faded
      rw [h, ← h]
      simp only [h, Option.isNone_none, Bool.and_true]
      rw [← h]
      rfl
    rw [(closeFade_spec e c s).1 h, hk, Four.set_get]
    simp [fadesClosed, h]
  | some f =>
    obtain ⟨a, b, p, e', n⟩ := (closeFade_spec e c s).2 f h
    refine ⟨a, b, p, ?_, n⟩
    rw [e']
    simp [fadesClosed, h, CarrierState.faded]

/-- The queue after the places of one entering carrier have been emptied (R110). -/
def entryQueue (x : Entering) (pair : Bool) (q : List Placed) : List Placed :=
  match x.kind with
  | .halt _ => if pair then withoutCarrier (partner x.carrier) (withoutCarrier x.carrier q)
    else withoutCarrier x.carrier q
  | .disable => withoutCarrier x.carrier q

theorem clearCarrier_eq (c : Carrier) (s : State) :
    clearCarrier c s = { s with outQueue := withoutCarrier c s.outQueue } := by
  simp only [clearCarrier, clearPlace, withoutCarrier, List.filter_filter]
  congr 1
  exact List.filter_congr fun m _ => Bool.and_comm _ _

/-- The blocks of one entering carrier: that carrier and the Out Queue change. -/
theorem enterBlocks_eq (x : Entering) (s : State) :
    enterBlocks x s = { s with
      carriers := s.carriers.set x.carrier
        ((s.car x.carrier).entered x.kind (s.govRecord x.carrier).tHold (s.isUpper x.carrier))
      outQueue := entryQueue x (s.paired x.carrier) s.outQueue } := by
  unfold enterBlocks enterPlaces entryQueue
  cases x.kind with
  | halt cause =>
    have hp : ∀ t : State, t.pairedA = s.pairedA → t.pairedB = s.pairedB → t.paired x.carrier = s.paired x.carrier := by
      intro t ha hb
      simp [State.paired, ha, hb]
    simp only [hp (modCar _ _ s) rfl rfl]
    split <;> simp [clearCarrier_eq, modCar, State.setCar]
  | disable => simp [clearCarrier_eq, modCar, State.setCar]

/-- The wires of one entering carrier. -/
theorem enterWires_any (x : Entering) (s : State) :
    ∃ (a : BitVec 6) (b : Bool) (p : Port),
      enterWires x s = { s with
        carriers := s.carriers.set x.carrier ((s.car x.carrier).wired x.kind)
        alarms := { s.alarms with collapsed := a, alert := b }, port := p } ∧ s.port.sameButNotices p := by
  unfold enterWires CarrierState.wired
  cases x.kind with
  | halt cause => exact setWire_spec .link x.carrier true s
  | disable =>
    obtain ⟨a, b, p, e, n⟩ := setWire_spec .link x.carrier false s
    rw [e]
    obtain ⟨a', b', p', e', n'⟩ := setWire_spec .diversity x.carrier false { s with
      carriers := s.carriers.set x.carrier { s.car x.carrier with wires := (s.car x.carrier).wires.set .link false }
      alarms := { s.alarms with collapsed := a, alert := b }, port := p }
    rw [e']
    obtain ⟨a'', b'', p'', e'', n''⟩ := setWire_spec .mismatch x.carrier false { s with
      carriers := s.carriers.set x.carrier { s.car x.carrier with
        wires := ((s.car x.carrier).wires.set .link false).set .diversity false }
      alarms := { s.alarms with collapsed := a', alert := b' }, port := p' }
    refine ⟨a'', b'', p'', ?_, Port.sameButNotices_trans n (Port.sameButNotices_trans n' n'')⟩
    simp only [State.car, Four.get_set_same, Four.set_set, CarrierWires.set] at e'' ⊢
    exact e''

/-- One carrier at an entry: what its fade, blocks and wires make of it. -/
def CarrierState.atEntry (kind : EntryKind) (tHold : Nat) (upper : Bool) (k : CarrierState) : CarrierState :=
  (k.faded.entered kind tHold upper).wired kind

/-- The carriers of a list of entering carriers, no two the same. -/
def distinct (xs : List Entering) : Prop := (xs.map Entering.carrier).Nodup

theorem distinct_cons {x : Entering} {xs : List Entering} (h : distinct (x :: xs)) :
    (∀ y ∈ xs, y.carrier ≠ x.carrier) ∧ distinct xs := by
  simp only [distinct, List.map_cons, List.nodup_cons, List.mem_map, not_exists, not_and] at h
  exact ⟨fun y hy e => h.1 y hy e, h.2⟩

/-- A change of carriers `f` made for each member of a list: what the four then hold. -/
def Changed (f : Entering → CarrierState → CarrierState) (xs : List Entering) (v w : Four CarrierState) : Prop :=
  (∀ x ∈ xs, w.get x.carrier = f x (v.get x.carrier)) ∧ ∀ d, (∀ x ∈ xs, d ≠ x.carrier) → w.get d = v.get d

theorem Changed.nil (f : Entering → CarrierState → CarrierState) (v : Four CarrierState) : Changed f [] v v :=
  ⟨fun _ h => (List.not_mem_nil h).elim, fun _ _ => rfl⟩

theorem Changed.cons {f : Entering → CarrierState → CarrierState} {x : Entering} {xs : List Entering}
    {v w : Four CarrierState} (h : ∀ y ∈ xs, y.carrier ≠ x.carrier)
    (k : Changed f xs (v.set x.carrier (f x (v.get x.carrier))) w) : Changed f (x :: xs) v w := by
  refine ⟨fun y hy => ?_, fun d hd => ?_⟩
  · rcases List.mem_cons.1 hy with rfl | hy
    · rw [k.2 _ fun z hz => (h z hz).symm, Four.get_set_same]
    · rw [k.1 y hy, Four.get_set_other _ _ (h y hy)]
  · rw [k.2 d fun z hz => hd z (List.mem_cons_of_mem _ hz), Four.get_set_other _ _ (hd x List.mem_cons_self)]

/-- Two changes of the same carriers, one after the other. -/
theorem Changed.trans {f g : Entering → CarrierState → CarrierState} {xs : List Entering} {u v w : Four CarrierState}
    (h : Changed f xs u v) (k : Changed g xs v w) : Changed (fun x y => g x (f x y)) xs u w :=
  ⟨fun x hx => by rw [k.1 x hx, h.1 x hx], fun d hd => by rw [k.2 d hd, h.2 d hd]⟩

/-- The fades of entering carriers close in order. -/
theorem closeFades_spec (xs : List Entering) (s : State) (hx : distinct xs) :
    ∃ (v : Four CarrierState) (a : BitVec 6) (b : Bool) (p : Port),
      xs.foldl (fun s x => closeFade x.kind.endedBy x.carrier s) s = { s with
        carriers := v, fades := fadesClosed (xs.map fun x => (x.carrier, x.kind.endedBy)) s
        alarms := { s.alarms with collapsed := a, alert := b }, port := p } ∧
      s.port.sameButNotices p ∧ Changed (fun _ k => k.faded) xs s.carriers v := by
  induction xs generalizing s with
  | nil => exact ⟨_, s.alarms.collapsed, s.alarms.alert, s.port, rfl, rfl, Changed.nil _ _⟩
  | cons x xs ih =>
    obtain ⟨h, hd⟩ := distinct_cons hx
    obtain ⟨a, b, p, e, n⟩ := closeFade_any x.kind.endedBy x.carrier s
    obtain ⟨w, a', b', p', e', n', k⟩ := ih (closeFade x.kind.endedBy x.carrier s) hd
    rw [e] at n' k
    refine ⟨w, a', b', p', ?_, Port.sameButNotices_trans n n', Changed.cons h k⟩
    have hf : fadesClosed (xs.map fun y => (y.carrier, y.kind.endedBy)) (closeFade x.kind.endedBy x.carrier s) =
        fadesClosed ((x :: xs).map fun y => (y.carrier, y.kind.endedBy)) s := by
      rw [e]
      simp only [fadesClosed, List.map_cons, List.foldl_cons, List.foldl_nil]
      refine List.foldl_ext _ _ _ fun l y hy => ?_
      obtain ⟨z, hz, rfl⟩ := List.mem_map.1 hy
      simp only [State.car, Four.get_set_other _ _ (h z hz)]
    rw [List.foldl_cons, e', hf, e]

/-- The blocks of entering carriers take their values in order. -/
theorem enterBlocks_spec (xs : List Entering) (s : State) (hx : distinct xs) :
    ∃ v : Four CarrierState,
      xs.foldl (fun s x => enterBlocks x s) s = { s with
        carriers := v
        outQueue := xs.foldl (fun q x => entryQueue x (s.paired x.carrier) q) s.outQueue } ∧
      Changed (fun x k => k.entered x.kind (s.govRecord x.carrier).tHold (s.isUpper x.carrier)) xs s.carriers v := by
  induction xs generalizing s with
  | nil => exact ⟨_, rfl, Changed.nil _ _⟩
  | cons x xs ih =>
    obtain ⟨h, hd⟩ := distinct_cons hx
    obtain ⟨w, e, k⟩ := ih (enterBlocks x s) hd
    have hf := enterBlocks_frame x s
    have hp : ∀ d, (enterBlocks x s).paired d = s.paired d := by
      intro d
      simp only [State.paired, hf.pairedA, hf.pairedB]
    have hr : ∀ d, (enterBlocks x s).govRecord d = s.govRecord d := by
      intro d
      simp only [State.govRecord, State.gov, hp]
      exact (hf.carriers _).1
    simp only [hr] at k
    rw [enterBlocks_eq] at k
    refine ⟨w, ?_, Changed.cons h k⟩
    simp only [List.foldl_cons, e]
    rw [enterBlocks_eq]
    rfl

/-- SET_ATTEN for each entering carrier in order. -/
theorem enterAttens_spec (xs : List Entering) (s : State) :
    xs.foldl (fun s x => enterAtten x s) s = { s with
      modem := { s.modem with outbound := s.modem.outbound ++
        (xs.map fun x => .setAtten (carrierMask x.carrier) (s.car x.carrier).sup.record.attenMin) } } := by
  induction xs generalizing s with
  | nil => simp
  | cons x xs ih =>
    rw [List.foldl_cons, ih]
    simp [enterAtten, emit, State.car]

/-- The wires of entering carriers are set in order. -/
theorem enterWires_spec (xs : List Entering) (s : State) (hx : distinct xs) :
    ∃ (v : Four CarrierState) (a : BitVec 6) (b : Bool) (p : Port),
      xs.foldl (fun s x => enterWires x s) s = { s with
        carriers := v, alarms := { s.alarms with collapsed := a, alert := b }, port := p } ∧
      s.port.sameButNotices p ∧ Changed (fun x k => k.wired x.kind) xs s.carriers v := by
  induction xs generalizing s with
  | nil => exact ⟨_, s.alarms.collapsed, s.alarms.alert, s.port, rfl, rfl, Changed.nil _ _⟩
  | cons x xs ih =>
    obtain ⟨h, hd⟩ := distinct_cons hx
    obtain ⟨a, b, p, e, n⟩ := enterWires_any x s
    obtain ⟨w, a', b', p', e', n', k⟩ := ih (enterWires x s) hd
    rw [e] at n' k
    refine ⟨w, a', b', p', ?_, Port.sameButNotices_trans n n', Changed.cons h k⟩
    simp only [List.foldl_cons, e']
    rw [e]

/-- The carriers of a list change alike in either order. -/
theorem Changed.of_mem {f : Entering → CarrierState → CarrierState} {xs ys : List Entering}
    {u v : Four CarrierState} (h : Changed f xs u v) (hm : ∀ x, x ∈ ys ↔ x ∈ xs) : Changed f ys u v :=
  ⟨fun x hx => h.1 x ((hm x).1 hx), fun d hd => h.2 d fun x hx => hd x ((hm x).2 hx)⟩

/-- The turns of the wires are the same carriers. -/
theorem wireTurns_perm (back : Bool) (xs : List Entering) : (wireTurns back xs).Perm xs := by
  unfold wireTurns
  split
  · split
    · exact .swap _ _ _
    · exact .refl _
  · exact .refl _

/-- The wires of entering carriers are set in either order. -/
theorem enterWires_turned (back : Bool) (xs : List Entering) (s : State) (hx : distinct xs) :
    ∃ (v : Four CarrierState) (a : BitVec 6) (b : Bool) (p : Port),
      (wireTurns back xs).foldl (fun s x => enterWires x s) s = { s with
        carriers := v, alarms := { s.alarms with collapsed := a, alert := b }, port := p } ∧
      s.port.sameButNotices p ∧ Changed (fun x k => k.wired x.kind) xs s.carriers v := by
  have hp := wireTurns_perm back xs
  obtain ⟨v, a, b, p, e, n, k⟩ := enterWires_spec (wireTurns back xs) s ((hp.map _).nodup_iff.2 hx)
  exact ⟨v, a, b, p, e, n, k.of_mem fun x => hp.mem_iff.symm⟩

/-- All that an entry does: to the carriers that enter, the Out Queue, the outbound records, the Fade Log, the
collapsed wires, ALERT and the notices; then the sender follows (R131, R137, R138). -/
theorem enter_spec (back : Bool) (xs : List Entering) (s : State) (hx : distinct xs) :
    ∃ (v : Four CarrierState) (a : BitVec 6) (b : Bool) (p : Port),
      enter back xs s = senderFollowsLinks { s with
        carriers := v
        outQueue := xs.foldl (fun q x => entryQueue x (s.paired x.carrier) q) s.outQueue
        modem := { s.modem with outbound := s.modem.outbound ++ (.forceBase (enteringMask xs) ::
          xs.map fun x => .setAtten (carrierMask x.carrier) (s.car x.carrier).sup.record.attenMin) }
        fades := fadesClosed (xs.map fun x => (x.carrier, x.kind.endedBy)) s
        alarms := { s.alarms with collapsed := a, alert := b }, port := p } ∧
      s.port.sameButNotices p ∧
      Changed (fun x k => k.atEntry x.kind (s.govRecord x.carrier).tHold (s.isUpper x.carrier)) xs s.carriers v := by
  obtain ⟨v1, a1, b1, p1, e1, n1, k1⟩ := closeFades_spec xs s hx
  have hs : ∀ d, (v1.get d).sup = (s.car d).sup := by
    intro d
    by_cases h : ∃ x ∈ xs, d = x.carrier
    · obtain ⟨x, hx, rfl⟩ := h
      rw [k1.1 x hx]
      rfl
    · rw [k1.2 d fun x hx e => h ⟨x, hx, e⟩]
      rfl
  obtain ⟨v2, e2, k2⟩ := enterBlocks_spec xs { s with
    carriers := v1, fades := fadesClosed (xs.map fun x => (x.carrier, x.kind.endedBy)) s
    alarms := { s.alarms with collapsed := a1, alert := b1 }, port := p1 } hx
  simp only [State.govRecord, State.car, hs] at k2
  have hs2 : ∀ d, (v2.get d).sup.record = (s.car d).sup.record := by
    intro d
    by_cases h : ∃ x ∈ xs, d = x.carrier
    · obtain ⟨x, hx, rfl⟩ := h
      rw [k2.1 x hx, ← hs]
      simp only [CarrierState.entered, Supervisor.entered]
      split <;> rfl
    · rw [k2.2 d fun x hx e => h ⟨x, hx, e⟩, hs]
  obtain ⟨v3, a3, b3, p3, e3, n3, k3⟩ := enterWires_turned back xs { s with
    carriers := v2
    outQueue := xs.foldl (fun q x => entryQueue x (s.paired x.carrier) q) s.outQueue
    modem := { s.modem with outbound := s.modem.outbound ++ (.forceBase (enteringMask xs) ::
      xs.map fun x => .setAtten (carrierMask x.carrier) (s.car x.carrier).sup.record.attenMin) }
    fades := fadesClosed (xs.map fun x => (x.carrier, x.kind.endedBy)) s
    alarms := { s.alarms with collapsed := a1, alert := b1 }, port := p1 } hx
  refine ⟨v3, a3, b3, p3, ?_, Port.sameButNotices_trans n1 n3, (k1.trans k2).trans k3⟩
  simp only [enter, e1, e2, enterAttens_spec, emit, State.car, hs2, List.append_assoc, List.singleton_append]
  exact congrArg senderFollowsLinks e3

/-- What HALTED entry makes of one carrier. -/
theorem atEntry_halted (cause : HaltCause) (tHold : Nat) (upper : Bool) (k : CarrierState) :
    CarrierHalted tHold upper (k.stats.sup.countHalt cause) k (k.atEntry (.halt cause) tHold upper) := by
  refine ⟨rfl, rfl, rfl, rfl, rfl, rfl, rfl, rfl, ?_⟩
  cases h : k.tac.order <;> cases upper <;>
    simp [CarrierState.atEntry, CarrierState.wired, CarrierState.entered, CarrierState.faded, h, count32]

/-- What DISABLED entry makes of one carrier. -/
theorem atEntry_disabled (tHold : Nat) (upper : Bool) (k : CarrierState) :
    CarrierDisabled upper k (k.atEntry .disable tHold upper) := by
  refine ⟨rfl, rfl, rfl, rfl, rfl, rfl, rfl, rfl, ?_⟩
  cases h : k.tac.order <;> cases upper <;>
    simp [CarrierState.atEntry, CarrierState.wired, CarrierState.entered, CarrierState.faded, h, count32]

/-- The two carriers of a position, the lower first. -/
theorem position (c : Carrier) :
    (c = lowerOf c ∧ partner c = upperOf c) ∨ (c ≠ lowerOf c ∧ c = upperOf c ∧ partner c = lowerOf c) := by
  revert c
  decide

theorem partner_position (c : Carrier) : lowerOf (partner c) = lowerOf c ∧ upperOf (partner c) = upperOf c := by
  revert c
  decide

theorem paired_partner (s : State) (c : Carrier) : s.paired (partner c) = s.paired c := by
  simp only [State.paired, (partner_position c).1]

theorem govRecord_partner {s : State} {c : Carrier} (h : s.paired c = true) :
    s.govRecord (partner c) = s.govRecord c := by
  simp only [State.govRecord, State.gov, paired_partner, h, if_true, (partner_position c).1]

theorem takesPartner_iff (s : State) (c : Carrier) :
    (s.paired c && s.enabled (partner c)) = true ↔ TakesPartner s c := by
  simp [TakesPartner, State.enabled]

theorem withoutCarrier_comm (c d : Carrier) (q : List Placed) :
    withoutCarrier c (withoutCarrier d q) = withoutCarrier d (withoutCarrier c q) := by
  simp only [withoutCarrier, List.filter_filter]
  exact List.filter_congr fun m _ => Bool.and_comm _ _

theorem withoutCarrier_idem (c : Carrier) (q : List Placed) :
    withoutCarrier c (withoutCarrier c q) = withoutCarrier c q := by
  simp [withoutCarrier, List.filter_filter]

/-- What an entry leaves of the carriers, seen at the state after the sender has followed it. -/
theorem car_senderFollowsLinks (s : State) (d : Carrier) : (senderFollowsLinks s).car d = s.car d := by
  rw [(senderFollowsLinks_spec s).2]
  rfl

/-- An entry, part by part: what its carriers, its other carriers and the device hold after it. -/
theorem enter_parts (back : Bool) (xs : List Entering) (s : State) (hx : distinct xs) :
    (∀ x ∈ xs, (enter back xs s).car x.carrier =
      (s.car x.carrier).atEntry x.kind (s.govRecord x.carrier).tHold (s.isUpper x.carrier)) ∧
    (∀ d, (∀ x ∈ xs, d ≠ x.carrier) → (enter back xs s).car d = s.car d) ∧ DeviceSame s (enter back xs s) ∧
    SenderFollows (xs.foldl (fun q x => entryQueue x (s.paired x.carrier) q) s.outQueue) s (enter back xs s) ∧
    (enter back xs s).modem.outbound = s.modem.outbound ++ (.forceBase (enteringMask xs) ::
      xs.map fun x => .setAtten (carrierMask x.carrier) (s.car x.carrier).sup.record.attenMin) ∧
    (enter back xs s).fades = fadesClosed (xs.map fun x => (x.carrier, x.kind.endedBy)) s ∧
    s.port.sameButNotices (enter back xs s).port := by
  obtain ⟨v, a, b, p, e, n, k⟩ := enter_spec back xs s hx
  rw [e]
  refine ⟨fun x hx => ?_, fun d hd => ?_, ?_, (senderFollowsLinks_spec _).1, ?_, ?_, ?_⟩
  · rw [car_senderFollowsLinks]
    exact k.1 x hx
  · rw [car_senderFollowsLinks]
    exact k.2 d hd
  all_goals rw [(senderFollowsLinks_spec _).2]
  · rfl
  · exact n

theorem entering_alone {s : State} {c : Carrier} (kind : EntryKind) (h : ¬ TakesPartner s c) :
    s.entering c kind = [⟨c, kind⟩] := by
  rw [State.entering, if_neg fun k => h ((takesPartner_iff s c).1 k)]

theorem entering_pair {s : State} {c : Carrier} (kind : EntryKind) (h : TakesPartner s c) :
    s.entering c kind = if c = lowerOf c then [⟨c, kind⟩, ⟨partner c, .halt .partner⟩]
      else [⟨partner c, .halt .partner⟩, ⟨c, kind⟩] := by
  rw [State.entering, if_pos ((takesPartner_iff s c).2 h)]

theorem distinct_pair (c : Carrier) (k l : EntryKind) :
    distinct [⟨c, k⟩, ⟨partner c, l⟩] ∧ distinct [⟨partner c, l⟩, ⟨c, k⟩] := by
  have h := partner_ne c
  exact ⟨by simp [distinct, h.symm], by simp [distinct, h]⟩

/-- HALTED entry (R110, R137, R138). -/
theorem haltedEntry_spec (c : Carrier) (cause : HaltCause) (s : State) :
    Halted c ((s.car c).stats.sup.countHalt cause) s (haltedEntry c cause s) ∧
      s.port.sameButNotices (haltedEntry c cause s).port := by
  unfold haltedEntry
  by_cases ht : TakesPartner s c
  · have hg := govRecord_partner ht.1
    have hp := paired_partner s c
    rw [entering_pair _ ht]
    rcases position c with ⟨h1, h2⟩ | ⟨h0, h1, h2⟩
    · rw [if_pos h1]
      obtain ⟨k1, k2, k3, k4, k5, k6, k7⟩ := enter_parts false _ s (distinct_pair c (.halt cause) (.halt .partner)).1
      have c1 := k1 ⟨c, .halt cause⟩ (by simp)
      have c2 := k1 ⟨partner c, .halt .partner⟩ (by simp)
      refine ⟨⟨?_, k3, ?_, fun _ => ⟨?_, fun d hd hd' => k2 d (by simp [hd, hd']), ?_, ?_⟩, fun h => absurd ht h⟩, k7⟩
      · rw [c1]
        exact atEntry_halted _ _ _ _
      · simpa [entryQueue, hp, ht.1, withoutCarrier_idem, withoutCarrier_comm c (partner c)] using k4
      · rw [c2, hg]
        exact atEntry_halted _ _ _ _
      · rw [k5]
        simp [entryRecords, enteringMask, ← h1, ← h2]
      · rw [k6, ← h1, ← h2]
        rfl
    · rw [if_neg h0]
      obtain ⟨k1, k2, k3, k4, k5, k6, k7⟩ := enter_parts false _ s (distinct_pair c (.halt cause) (.halt .partner)).2
      have c1 := k1 ⟨c, .halt cause⟩ (by simp)
      have c2 := k1 ⟨partner c, .halt .partner⟩ (by simp)
      refine ⟨⟨?_, k3, ?_, fun _ => ⟨?_, fun d hd hd' => k2 d (by simp [hd, hd']), ?_, ?_⟩, fun h => absurd ht h⟩, k7⟩
      · rw [c1]
        exact atEntry_halted _ _ _ _
      · simpa [entryQueue, hp, ht.1, withoutCarrier_idem, withoutCarrier_comm c (partner c)] using k4
      · rw [c2, hg]
        exact atEntry_halted _ _ _ _
      · rw [k5]
        simp [entryRecords, enteringMask, ← h1, ← h2]
      · rw [k6, ← h1, ← h2]
        rfl
  · rw [entering_alone _ ht]
    obtain ⟨k1, k2, k3, k4, k5, k6, k7⟩ := enter_parts false [⟨c, .halt cause⟩] s (by simp [distinct])
    have c1 := k1 ⟨c, .halt cause⟩ (by simp)
    refine ⟨⟨?_, k3, ?_, fun h => absurd h ht, fun _ => ⟨fun d hd => k2 d (by simp [hd]), ?_, k6⟩⟩, k7⟩
    · rw [c1]
      exact atEntry_halted _ _ _ _
    · simpa [entryQueue] using k4
    · rw [k5]
      simp [entryRecords, enteringMask]

theorem drawn_deviceSame {s t : State} (h : DeviceSame s t) : DeviceSame (drawn s) (drawn t) := by
  unfold DeviceSame at *
  rw [h]
  rfl

theorem drawn_senderFollows {q : List Placed} {s t : State} (h : SenderFollows q s t) :
    SenderFollows q s (drawn t) := h

/-- DISABLED entry (R110, R131). -/
theorem disabledEntry_spec (c : Carrier) (s : State) :
    Disabled c s (disabledEntry c s) ∧ s.port.sameButNotices (disabledEntry c s).port := by
  unfold disabledEntry
  by_cases ht : TakesPartner s c
  · have hg := govRecord_partner ht.1
    have hp := paired_partner s c
    rw [entering_pair _ ht]
    rcases position c with ⟨h1, h2⟩ | ⟨h0, h1, h2⟩
    · rw [if_pos h1]
      obtain ⟨k1, k2, k3, k4, k5, k6, k7⟩ := enter_parts s.linkWiresBack _ s (distinct_pair c .disable (.halt .partner)).1
      have c1 := k1 ⟨c, .disable⟩ (by simp)
      have c2 := k1 ⟨partner c, .halt .partner⟩ (by simp)
      refine ⟨⟨?_, drawn_deviceSame k3, fun _ => ⟨?_, ?_, fun d hd hd' => k2 d (by simp [hd, hd']), ?_, ?_⟩, fun h => absurd ht h⟩, k7⟩
      · rw [drawn_car, c1]
        exact atEntry_disabled _ _ _
      · exact drawn_senderFollows (by simpa [entryQueue, hp, ht.1, withoutCarrier_idem, withoutCarrier_comm c (partner c)] using k4)
      · rw [drawn_car, c2, hg]
        exact atEntry_halted _ _ _ _
      · rw [drawn_modem, k5]
        simp [entryRecords, enteringMask, ← h1, ← h2]
      · rw [drawn_fades, k6, if_pos h1]
        rfl
    · rw [if_neg h0]
      obtain ⟨k1, k2, k3, k4, k5, k6, k7⟩ := enter_parts s.linkWiresBack _ s (distinct_pair c .disable (.halt .partner)).2
      have c1 := k1 ⟨c, .disable⟩ (by simp)
      have c2 := k1 ⟨partner c, .halt .partner⟩ (by simp)
      refine ⟨⟨?_, drawn_deviceSame k3, fun _ => ⟨?_, ?_, fun d hd hd' => k2 d (by simp [hd, hd']), ?_, ?_⟩, fun h => absurd ht h⟩, k7⟩
      · rw [drawn_car, c1]
        exact atEntry_disabled _ _ _
      · exact drawn_senderFollows (by simpa [entryQueue, hp, ht.1, withoutCarrier_idem, withoutCarrier_comm c (partner c)] using k4)
      · rw [drawn_car, c2, hg]
        exact atEntry_halted _ _ _ _
      · rw [drawn_modem, k5]
        simp [entryRecords, enteringMask, ← h1, ← h2]
      · rw [drawn_fades, k6, if_neg h0]
        rfl
  · rw [entering_alone _ ht]
    obtain ⟨k1, k2, k3, k4, k5, k6, k7⟩ := enter_parts s.linkWiresBack [⟨c, .disable⟩] s (by simp [distinct])
    have c1 := k1 ⟨c, .disable⟩ (by simp)
    refine ⟨⟨?_, drawn_deviceSame k3, fun h => absurd h ht, fun _ => ⟨?_, fun d hd => k2 d (by simp [hd]), ?_, k6⟩⟩, k7⟩
    · rw [drawn_car, c1]
      exact atEntry_disabled _ _ _
    · exact drawn_senderFollows (by simpa [entryQueue] using k4)
    · rw [drawn_modem, k5]
      simp [entryRecords, enteringMask]

/-- What a change of pairing can do: the pairing of the position, and, where it differs, the T and V places of both
carriers (R130). -/
theorem changePairing_spec (c : Carrier) (paired : Bool) (s : State) :
    changePairing c paired s = { s with
      pairedA := if c = 0 ∨ c = 1 then paired else s.pairedA
      pairedB := if c = 2 ∨ c = 3 then paired else s.pairedB
      outQueue := if paired = s.paired c then s.outQueue
        else withoutCarrier (partner c) (withoutCarrier c s.outQueue) } := by
  unfold changePairing setPaired
  simp only [clearCarrier_eq]
  by_cases h : paired = s.paired c
  · rw [if_pos h, if_pos h]
    fin_cases c <;> simp [State.paired, lowerOf] at h <;> simp [h]
  · rw [if_neg h, if_neg h]
    fin_cases c <;> simp [lowerOf]

end Sys2Proof.Machine
end

