-- ==== Sys2Proof/Laws/Service.lean ====
section
/-! SUPPORT. What the service of a request does, said once: the lemmas that a statement about one request cites. -/

namespace Sys2Proof.Machine

/-- With RESET high a command runs its effect. -/
theorem running_high (g : State → State) {s : State} (h : s.resetHeld = false) : running g s = .next (g s) := by
  simp [running, h]

/-- With RESET held low a command leaves the part as it is. -/
theorem running_low (g : State → State) {s : State} (h : s.resetHeld = true) : running g s = .next s := by
  simp [running, h]

/-- Every effect that `running` guards completes. -/
theorem running_completes (g : State → State) (s : State) : ∃ t, running g s = .next t := by
  unfold running
  split <;> exact ⟨_, rfl⟩

/-- The request that waits is the one that can be served. -/
theorem nextRequest_waiting {s : State} {f : Frame} {rest : List Frame} (h : Waiting s f rest) :
    s.nextRequest = some f := by
  obtain ⟨_, h2, h3, h4⟩ := h
  simp [State.nextRequest, Port.mayServe, h2, h3, h4]

/-- What the queue holds once the waiting request has left it. -/
theorem dequeue_waiting {s : State} {f : Frame} {rest : List Frame} (h : Waiting s f rest) :
    dequeue s = { s with port := { s.port with queue := rest } } := by
  obtain ⟨_, _, _, h4⟩ := h
  simp [dequeue, modPort, h4]

/-- A request of a fitting length is taken by the rule that owns its kind. -/
theorem serve_waiting {s : State} {f : Frame} {rest : List Frame} (h : Waiting s f rest) (kind : Byte)
    (take : Frame → State → State) (hk : f.kind = kind) (hl : lengthFits kind f.body.length = true) :
    running (serve kind take) s = .next (take f { s with port := { s.port with queue := rest } }) := by
  rw [running_high _ h.1, ← dequeue_waiting h]
  simp [serve, nextRequest_waiting h, hk, hl]

/-- A request of another length is answered BAD_LENGTH. -/
theorem serve_badLength {s : State} {f : Frame} {rest : List Frame} (h : Waiting s f rest) (kind : Byte)
    (take : Frame → State → State) (hk : f.kind = kind) (hl : lengthFits kind f.body.length = false) :
    running (serve kind take) s = .next { s with port := s.answered f rest [statusBadLength] } := by
  rw [running_high _ h.1]
  simp [serve, nextRequest_waiting h, hk, hl, dequeue_waiting h, reply, modPort, State.answered, replyKind]

/-- A reply given to the waiting request leaves the port as `answered` says. -/
theorem reply_waiting (s : State) (f : Frame) (rest : List Frame) (body : List Byte) :
    reply f body { s with port := { s.port with queue := rest } } = { s with port := s.answered f rest body } := rfl

/-- A carrier number in range is read back from its octet. -/
theorem carrierOf_carrierByte (c : Carrier) : carrierOf (carrierByte c).toNat = some c := by
  revert c
  decide

/-- A carrier number above 3 is none. -/
theorem carrierOf_above {n : Nat} (h : 4 ≤ n) : carrierOf n = none := by
  simp [carrierOf]
  omega

/-- A boolean octet above 1 is none. -/
theorem boolAt_above {b : List Byte} {i : Nat} (h : 2 ≤ natAt b i) : boolAt b i = none := by
  have h0 : natAt b i ≠ 0 := by omega
  have h1 : natAt b i ≠ 1 := by omega
  simp [boolAt, h0, h1]

end Sys2Proof.Machine
end

