-- ==== Sys2Proof/Laws/Time.lean ====
section
/-! SUPPORT. The clock, and what a boundary makes of the device when the timebase state has changed at it. -/

namespace Sys2Proof.Machine

/-- Within the due instant the clock moves by all of `elapsed` (log entry 2). -/
theorem advance_within {t : Timebase} {elapsed : Nat} (h : t.sinceBoundary + elapsed ≤ t.due) :
    t.advance elapsed = { t with
      sinceBoundary := t.sinceBoundary + elapsed, atBoundary := t.atBoundary && elapsed == 0 } := by
  have e : min elapsed (t.due - t.sinceBoundary) = elapsed := by omega
  simp [Timebase.advance, e]

/-- A count of time shorter than the due instant lets nothing happen of its own (R3, R5, R6). -/
theorem actWhenDue_before {s : State} (h : s.timebase.sinceBoundary < s.timebase.due) : actWhenDue s = s := by
  unfold actWhenDue
  rw [if_neg (by omega)]

/-- At the due instant the timebase acts by its state (R3, R5). -/
theorem actWhenDue_due {s : State} (h : s.timebase.due ≤ s.timebase.sinceBoundary) :
    (s.timebase.state = .external → actWhenDue s = superviseExpired s) ∧
      (s.timebase.state = .internal → actWhenDue s = internalBoundary s) := by
  refine ⟨fun e => ?_, fun e => ?_⟩ <;> unfold actWhenDue <;> rw [if_pos h, e]

/-- With RESET high the internal schedule gives a boundary; with RESET held low the number alone advances (R5; log
entry 24). -/
theorem internalBoundary_cases (s : State) :
    (s.resetHeld = false → internalBoundary s = boundary s) ∧
      (s.resetHeld = true → internalBoundary s = heldBoundary s) := by
  refine ⟨fun h => ?_, fun h => ?_⟩ <;> simp [internalBoundary, h]

theorem setTimebaseWire_frame (v : Bool) (s : State) :
    WorkFrame { s with alarms := { s.alarms with timebaseWire := v } } (setTimebaseWire v s) :=
  formCollapsed_frame _ _

@[simp] theorem setTimebaseWire_timebase (v : Bool) (s : State) : (setTimebaseWire v s).timebase = s.timebase :=
  (setTimebaseWire_frame v s).timebase

@[simp] theorem setTimebaseWire_wire (v : Bool) (s : State) : (setTimebaseWire v s).alarms.timebaseWire = v :=
  (setTimebaseWire_frame v s).timebaseWire

/-- The TIMEBASE wire set: only that wire, the collapsed wires, ALERT and notices change (R153, R154). -/
theorem setTimebaseWire_spec (v : Bool) (s : State) :
    ∃ (collapsed : BitVec 6) (alert : Bool) (p : Port),
      setTimebaseWire v s = { s with
        alarms := { s.alarms with timebaseWire := v, collapsed, alert }, port := p } ∧ s.port.sameButNotices p := by
  obtain ⟨a, b, p, e, n, _, _⟩ := formCollapsed_spec .timebase { s with alarms := { s.alarms with timebaseWire := v } }
  exact ⟨a, b, p, e, n⟩

/-- What a boundary takes of a part, it takes of a part that differs in its timebase, its TIMEBASE wire with what
follows it, and its notices alone. -/
theorem BoundaryTaken.of_clock {s t : State} {b : Timebase} {p : Port} {timebaseWire alert : Bool} {collapsed : BitVec 6}
    (h : BoundaryTaken { s with
      timebase := b, port := p, alarms := { s.alarms with timebaseWire, collapsed, alert } } t)
    (hb : b.superframe = s.timebase.superframe ∧ b.period = s.timebase.period ∧ b.rejected = s.timebase.rejected)
    (n : s.port.sameButNotices p) : BoundaryTaken s t := by
  obtain ⟨h1, h2, h3, h4, h5, h6, h7, h8, h9, h10, h11, h12, h13, h14, h15, h16, h17, h18, h19, place, order, v,
    hl, ho, hv, ev, nv, pv⟩ := h
  exact ⟨h1.trans (congrArg (· + 1) hb.1), h2, h3.trans hb.2.1, h4.trans hb.2.2, h5, h6, h7, h8, h9, h10, h11, h12,
    h13, h14, h15, h16, h17, h18, Port.sameButNotices_trans n h19, place, order, v, hl, ho, hv, ev, nv.trans hb.1,
    Port.sameButNotices_trans n pv⟩

/-- A boundary at which the timebase changed its state and wire (R3, R4). -/
theorem boundary_after_state (f : Timebase → Timebase) (v : Bool) {s : State}
    (hf : (f s.timebase).superframe = s.timebase.superframe ∧ (f s.timebase).period = s.timebase.period ∧
      (f s.timebase).rejected = s.timebase.rejected) :
    BoundaryTaken s (boundary (setTimebaseWire v (modTimebase f s))) := by
  obtain ⟨a, b, p, e, n⟩ := setTimebaseWire_spec v (modTimebase f s)
  rw [e]
  exact BoundaryTaken.of_clock (s := s) (boundaryWith_taken _ _ _ (supervisorPlace_lt _) (wireOrder_perm _)) hf n

/-- A boundary at which the clock alone changed (R2, R5). -/
theorem boundary_after_clock (f : Timebase → Timebase) {s : State}
    (hf : (f s.timebase).superframe = s.timebase.superframe ∧ (f s.timebase).period = s.timebase.period ∧
      (f s.timebase).rejected = s.timebase.rejected) :
    BoundaryTaken s (boundary (modTimebase f s)) :=
  BoundaryTaken.of_clock (s := s) (boundaryWith_taken _ _ _ (supervisorPlace_lt _) (wireOrder_perm _)) hf rfl

end Sys2Proof.Machine
end

