-- ==== Sys2Proof/Tests/Slice0.lean ====
section
/-! SUPPORT. Tests of the model: ill-formed terms refused, the manual's worked examples and tables, and for each
statement of the certificates with hypotheses a concrete state that meets them, clause by clause. -/

namespace Sys2Proof.Tests

set_option Elab.async false

open Sys2Proof Sys2Proof.Machine

/-! ### Helpers -/

/-- The state after a command that ends in a next state. -/
def after (i : Instr) (s : State) : State :=
  match exec i s with
  | .next t => t
  | _ => s

/-- Whether a command ends in the malformed-record fault. -/
def faults (i : Instr) (s : State) : Bool :=
  match exec i s with
  | .fault .malformedRecord => true
  | _ => false

/-- The part with one request waiting. -/
def asked (kind : Byte) (body : List Byte) (s : State) : State :=
  { s with port := { s.port with queue := [⟨kind, 7, body⟩], reply := none } }

/-- The body of the reply in the reply buffer. -/
def replyBody (s : State) : List Byte := (s.port.reply.map Frame.body).getD []

/-- A single carrier in a link state, with its LINK wire as the state has it. -/
def carrierIn (l : LinkState) : CarrierState :=
  { factoryCarrier with
    sup := { factoryCarrier.sup with link := l, record := CarrierRecord.factory true, inForce := CarrierRecord.factory true }
    wires := { CarrierWires.clear with link := l == .halted || l == .seeking || l == .quiet } }

/-- The factory part in EXTERNAL at boundary 930, with carrier 0 as given and the others DISABLED. -/
def part (k : CarrierState) : State :=
  let s := State.reset
  let t := { s with
    timebase := ⟨.external, 930, 0, 4000, 0, true⟩
    modem := ⟨0, [], []⟩
    carriers := ⟨k, factoryCarrier, factoryCarrier, factoryCarrier⟩
    port := { s.port with notices := [] }
    alarms := { s.alarms with timebaseWire := false, collapsed := if k.wires.link then 0b100010 else 0b100000 } }
  formAlert t

/-- The part with carriers 0 and 1 a pair at position A. -/
def pairPart (k l : CarrierState) : State :=
  { part k with carriers := ⟨k, l, factoryCarrier, factoryCarrier⟩, pairedA := true }

def active : CarrierState := carrierIn .active

/-- The carriers in increasing number, for the wires of every kind. -/
def inOrder (_ : AlarmKind) : List Carrier := [0, 1, 2, 3]

/-- An order of carrier 0 opened at 925 with lead 5, so that it takes effect at 930. -/
def order : OpenOrder := ⟨5, 2, 925, 930, false, false⟩

/-- A carrier whose TAC holds an order. -/
def withOrder (st : OrderState) (o : OpenOrder) (k : CarrierState) : CarrierState :=
  { k with tac := { k.tac with state := st, order := some o, nextId := 6, current := 1, target := 2 } }

/-- What every statement about a command of carrier 0 asks of the part: RESET high, at a boundary, a single carrier. -/
theorem test_part_is_ready (k : CarrierState) :
    (part k).resetHeld = false ∧ (part k).timebase.atBoundary = true ∧ (part k).isUpper 0 = false ∧
      (part k).paired 0 = false ∧ (part k).car 0 = k ∧ (part k).sender.state = .idle := ⟨rfl, rfl, rfl, rfl, rfl, rfl⟩

/-! ### Ill-formed terms -/

theorem test_slot_of_fifteen_octets_is_ill_formed :
    (Instr.slotIn 0 (List.replicate 15 0)).wellFormed = false ∧
      faults (.slotIn 0 (List.replicate 15 0)) State.reset = true := by decide

theorem test_record_of_nineteen_octets_is_ill_formed :
    (Instr.inboundRecordDiscarded (List.replicate 19 0)).wellFormed = false ∧
      faults (.inboundRecordDiscarded (List.replicate 19 0)) State.reset = true := by decide

theorem test_whole_record_is_not_cut_short :
    (Instr.recordCutShort (List.replicate 20 0)).wellFormed = false ∧
      (Instr.recordCutShort (List.replicate 19 0)).wellFormed = true ∧
      faults (.recordCutShort (List.replicate 20 0)) State.reset = true := by decide

/-- No row of the command table has bits, so no word spells a command. -/
theorem test_no_word_spells_a_command : decodeTableWord 16 0x0412 = none ∧
    State.withFetchWord State.reset 16 0x0412 = State.reset := by decide

/-! ### Check codes (Introduction, Check codes; R42) -/

/-- The octets of "123456789". -/
def nineDigits : List Byte := [0x31, 0x32, 0x33, 0x34, 0x35, 0x36, 0x37, 0x38, 0x39]

theorem test_crc16_check_value : crc16 nineDigits = 0x29B1 := by decide +kernel

theorem test_crc8_check_value : crc8 nineDigits = 0xF4 := by decide +kernel

theorem test_factory_digest : digestOf factoryTable = 0x3E2D := by decide +kernel

/-- The octets of entries 2, 5 and 7 (chapter 9, R166). -/
theorem test_transfer_octets :
    entryOctets 2 ⟨2, 2, 208, 16⟩ = [0x02, 0x02, 0x02, 0x00, 0xD0, 0x10] ∧
      entryOctets 5 ⟨5, 5, 360, 24⟩ = [0x05, 0x05, 0x05, 0x01, 0x68, 0x18] ∧
      entryOctets 7 ⟨8, 5, 504, 32⟩ = [0x07, 0x08, 0x05, 0x01, 0xF8, 0x20] := by decide +kernel

/-! ### Worked estimation sequence (chapter 2) -/

def both (a b : Nat) (x y : Int) : FrameValue := combineFrame .combine .a ⟨true, a, x⟩ ⟨true, b, y⟩

theorem test_combining_single_frames :
    both 120 112 (-52) (-55) = ⟨some (128, -52), false⟩ ∧ both 60 61 (-71) (-70) = ⟨some (73, -70), false⟩ ∧
      both 40 103 (-80) (-58) = ⟨some (104, -58), false⟩ ∧ both 30 100 (-84) (-59) = ⟨some (100, -59), false⟩ ∧
      both 250 249 (-24) (-25) = ⟨some (255, -24), true⟩ ∧
      combineFrame .combine .a ⟨true, 255, -20⟩ ⟨false, 0, 0⟩ = ⟨some (255, -20), true⟩ ∧
      combineFrame .combine .a ⟨false, 0, 0⟩ ⟨false, 0, 0⟩ = ⟨none, false⟩ := by decide +kernel

/-- The same frames in SELECT mode with branch A selected, rows 3 and 5. -/
theorem test_select_takes_the_selected_branch :
    combineFrame .select .a ⟨true, 40, -80⟩ ⟨true, 103, -58⟩ = ⟨some (40, -80), false⟩ ∧
      combineFrame .select .a ⟨true, 250, -24⟩ ⟨true, 249, -25⟩ = ⟨some (250, -24), false⟩ := by decide +kernel

/-- f, g, p and the clips after a superframe whose minimum is `m`. -/
def reduced (f : Option Nat) (g : Option Int) (m : Nat) : Option Nat × Option Int × Option Nat × Bool × Bool :=
  let e := reduceSuperframe (CarrierRecord.factory true) { Estimator.afterReset with f, g, p := f, minC := some m }
  (e.f, e.g, e.p, e.dynamicClip, e.stickyClip)

theorem test_fade_followed_across_superframes :
    [reduced none none 80, reduced (some 320) (some 0) 84, reduced (some 324) (some 0) 60,
      reduced (some 240) (some (-21)) 30, reduced (some 120) (some (-45)) 44, reduced (some 127) (some (-32)) 72] =
    [(some 320, some 0, some 320, false, false), (some 322, some 0, some 322, false, false),
      (some 240, some (-21), some 135, false, false), (some 120, some (-45), some 0, true, true),
      (some 127, some (-32), some 0, true, true), (some 148, some (-18), some 58, false, false)] := by decide +kernel

/-- Branch choice with sel_hyst 8 (chapter 2), the six rows of the example. -/
theorem test_branch_choice :
    let pick (held : Branch) (x y : Option Nat) :=
      chooseBranch 8 { Estimator.afterReset with selection := held, minA := x, minB := y }
    pick .a (some 100) (some 106) = .a ∧ pick .a (some 90) (some 100) = .b ∧ pick .b (some 97) (some 95) = .b ∧
      pick .b none (some 88) = .b ∧ pick .b (some 84) none = .a ∧ pick .a (some 84) (some 90) = .a := by
  decide +kernel

/-! ### Worked advice sequence (chapter 4) -/

/-- Advice, power and hold of the example's RAC for a projected `p`, with peer headroom `h`. -/
def advised (cur p h : Nat) : Nat × Int × Nat :=
  let r := decideAdvice ⟨p, -50, factoryTable, 16, 32, 1, -60, -45⟩
    { Rac.afterReset with current := cur, peerHeadroom := some h, peerAtten := some 2, peerCap := some 7 }
  (r.advice, r.power, r.hold)

theorem test_worked_advice_sequence :
    advised 6 392 2 = (6, 0, 0) ∧ advised 6 352 2 = (6, 2, 0) ∧ advised 6 316 2 = (4, 2, 0) ∧
      advised 6 340 2 = (4, 2, 0) ∧ advised 6 348 0 = (4, 0, 0) ∧ advised 6 352 0 = (4, 0, 0) ∧
      advised 4 356 0 = (4, 0, 0) := by decide +kernel

/-! ### Worked candidate sets (chapter 3) -/

def candidatePart : State :=
  { part (carrierIn .active) with
    pairedA := true
    carriers := (part (carrierIn .active)).carriers.set 0
      { active with sup := { active.sup with inForce := { active.sup.inForce with ceiling := 6 } } }
    tables := { State.reset.tables with enableSets := ⟨0x00FF, 0x0055, 0x0AAB, 0xFFFF⟩ } }

theorem test_worked_candidate_sets :
    candidatePart.cap 0 = 6 ∧ candidatePart.cap 1 = 6 ∧ candidatePart.cap 2 = 7 ∧ candidatePart.cap 3 = 7 ∧
      (List.range 16).filter (candidatePart.candidate 2) = [0, 1, 3, 5, 7] := by decide +kernel

/-! ### Worked superframe of arbitration (chapter 6) -/

def arbitrationPart : State :=
  { part active with
    carriers := ⟨active, active, carrierIn .quiet, carrierIn .seeking⟩
    outQueue := [⟨.s, .tableEntry 41 3 ⟨3, 3, 256, 16⟩, false⟩, ⟨.t 0, .order 0 5 2 false, false⟩,
      ⟨.t 2, .order 2 9 4 false, false⟩, ⟨.v 1, .confirm 1 12 6, false⟩] }

theorem test_arbitration_on_a_seeking_carrier :
    (after (.slotRequest 3) arbitrationPart).outQueue = arbitrationPart.outQueue ∧
      (after (.slotRequest 3) arbitrationPart).modem.outbound.length = 1 := by decide +kernel

theorem test_arbitration_sends_confirm_then_the_older_order :
    let s := after (.slotRequest 0) arbitrationPart
    s.outQueue = arbitrationPart.outQueue.take 3 ∧
      (after (.slotRequest 2) s).outQueue =
        [⟨.s, .tableEntry 41 3 ⟨3, 3, 256, 16⟩, false⟩, ⟨.t 0, .order 0 5 2 false, true⟩,
          ⟨.t 2, .order 2 9 4 false, false⟩] := by decide +kernel

/-! ### Worked slot on a quiet carrier (chapter 6) -/

def quietPair : State :=
  let lac : Lac := ⟨some 0x3E2D, some .active, some 138, some true, false⟩
  pairPart { active with lac } { carrierIn .quiet with lac, sup := { (carrierIn .quiet).sup with miss := 8 } }

def quietSlot : List Byte :=
  slotOctets ⟨.active, 1, true, 147, 6, 0, 7, 3, 3, 0x3E2D⟩ (some (.order 0 2 7 true))

theorem test_slot_on_a_quiet_carrier :
    let t := after (.slotIn 1 quietSlot) quietPair
    t.link 1 = .active ∧ (t.car 1).sup.miss = 0 ∧ (t.car 1).stats.lac.breaks = 1 ∧
      (t.car 1).rac.peerHeadroom = some 3 ∧ (t.car 1).rac.peerCap = some 7 ∧
      (t.car 1).tac.latestAdvice = some 6 ∧ (t.car 0).rac.armed = some ⟨2, 7, true⟩ ∧
      (t.car 1).rac.armed = some ⟨2, 7, true⟩ ∧ t.modem.outbound = [.armRx 0b0011 8 5] ∧
      t.outQueue = [⟨.v 0, .confirm 0 2 7, false⟩] := by decide +kernel

/-- The same slot with its check octet damaged is invalid. -/
theorem test_damaged_slot_is_invalid :
    let t := after (.slotIn 1 (quietSlot.set 15 ((quietSlot.getD 15 0) ^^^ 1))) quietPair
    t.link 1 = .quiet ∧ (t.car 1).stats.lac.invalid = 1 ∧ t.outQueue = [] := by decide +kernel

/-! ### Strobes (chapter 1, the example's rows) -/

def strobePart : State := { part active with timebase := ⟨.external, 1000, 0, 4000, 0, true⟩ }

theorem test_spike_is_a_glitch :
    let t := after (.sfsStrobe 1500) strobePart
    t.timebase.superframe = 1000 ∧ t.timebase.rejected = 1 ∧ t.timebase.sinceBoundary = 1500 := by decide +kernel

/-- At half the nominal period a strobe is a boundary, wherever the Supervisor's work falls. -/
theorem test_strobe_at_half_the_period :
    (after (.sfsStrobe 2000) strobePart).timebase.superframe = 1001 := by
  exact (boundaryWith_taken _ _ (modTimebase (Timebase.advance 2000) strobePart) (supervisorPlace_lt _)
    (wireOrder_perm _)).1

/-! ### A busy part that meets every law -/

/-- Carrier 0 with an open order, a fade, an advice and filter values. -/
def busyCarrier : CarrierState :=
  { withOrder .ordered order active with
    est := { Estimator.afterReset with f := some 150, g := some (-4), p := some 130, minC := some 37 }
    rac := { Rac.afterReset with current := 2, advice := 3, peerHeadroom := some 4, peerAtten := some 3, peerCap := some 7 }
    fade := some ⟨928, 2, 140, 2, 2⟩
    wires := { CarrierWires.clear with fade := true } }

/-- Carrier 0 busy, a transfer under way, and a SLOT_REQUEST waiting. -/
def busy : State :=
  let s := part busyCarrier
  formAlert { s with
    outQueue := [⟨.t 0, .order 0 5 2 false, true⟩, ⟨.s, .tableEntry 9 1 ⟨0, 3, 144, 16⟩, false⟩]
    sender := { s.sender with state := .sending, id := 9, buffer := factoryTable, next := 1 }
    alarms := { s.alarms with collapsed := 0b100001 }
    pending := [.slotRequest 0] }

theorem busy_steps : ∃ t, step busy = .next t := ⟨_, rfl⟩

theorem busy_queueLaw : QueueLaw busy := ⟨by decide, by decide⟩

theorem busy_boundsLaw : BoundsLaw busy := by unfold BoundsLaw; decide

theorem busy_alarmLaw : AlarmLaw busy := by
  refine ⟨fun k => by cases k <;> decide, by decide, ?_⟩
  rw [if_neg (by decide)]
  refine ⟨by decide, by decide, ?_⟩
  unfold CarrierState.wiresFollow
  decide

theorem busy_bounded (c : Carrier) : (busy.car c).est.bounded := by
  revert c
  unfold Estimator.bounded
  decide

theorem busy_recordLaw : RecordLaw busy := by unfold RecordLaw; decide

theorem busy_attenuationLaw : AttenuationLaw busy := ⟨busy_recordLaw, by decide⟩

theorem busy_orderLaw : OrderLaw busy := by
  unfold OrderLaw State.pairAgrees CarrierState.orderly
  decide

theorem busy_adviceLaw : AdviceLaw busy := by unfold AdviceLaw; decide

theorem busy_profileLaw : ProfileLaw busy := by
  refine ⟨⟨by decide, by decide +kernel, by decide, rfl, by decide, ?_, ?_⟩, ?_⟩
  · intro e h
    have held : ∀ place ∈ busy.tables.pending, ∀ e ∈ place, entryInRange e = true := by decide
    exact held _ h e rfl
  · intro e h
    have held : busy.tables.pending.head? = some (some ⟨0, 0, 96, 0⟩) := by decide
    rw [held] at h
    cases h
    decide
  · unfold CarrierState.profilesBelow
    decide

theorem busy_transferLaw : TransferLaw busy := by unfold TransferLaw; decide

theorem busy_saveLaw : SaveLaw busy := by unfold SaveLaw; decide

theorem busy_timeLaw : TimeLaw busy := by unfold TimeLaw; decide

theorem test_witness_StepKeepsQueueLaws : QueueLaw busy ∧ BoundsLaw busy ∧ ∃ t, step busy = .next t :=
  ⟨busy_queueLaw, busy_boundsLaw, busy_steps⟩

theorem test_witness_StepKeepsAlarmLaw : AlarmLaw busy ∧ ∃ t, step busy = .next t := ⟨busy_alarmLaw, busy_steps⟩

theorem test_witness_StepKeepsRangeLaws :
    EstimatorLaw busy ∧ AttenuationLaw busy ∧ AdviceLaw busy ∧ ∃ t, step busy = .next t :=
  ⟨busy_bounded, busy_attenuationLaw, busy_adviceLaw, busy_steps⟩

/-- A committed order at its boundary, its ORDER_SWITCH waiting. -/
def switching : State := { part (withOrder .committed order active) with pending := [.orderSwitch 0] }

theorem test_witness_TransmitProfileChangesOnlyAtTheSwitch :
    OrderLaw switching ∧ ∃ t, step switching = .next t ∧ (t.car 0).tac.current = 2 ∧ (switching.car 0).tac.current = 1 := by
  refine ⟨?_, _, rfl, by decide +kernel, by decide⟩
  unfold OrderLaw State.pairAgrees CarrierState.orderly
  decide

/-- A slot that carries an ORDER, and the CONFIRM that answers it. -/
theorem test_witness_ConfirmAnswersAnAcceptedOrder :
    let o := slotOctets ⟨.active, 0, false, 1, 0, 0, 7, 0, 0, 0x3E2D⟩ (some (.order 0 5 2 false))
    let s := { part active with pending := [.slotIn 0 o] }
    ∃ t, step s = .next t ∧ s.outQueue = [] ∧ t.outQueue = [⟨.v 0, .confirm 0 5 2, false⟩] :=
  ⟨_, rfl, rfl, by decide +kernel⟩

theorem test_witness_StepKeepsOrderLaw : OrderLaw busy ∧ ∃ t, step busy = .next t := ⟨busy_orderLaw, busy_steps⟩

theorem test_witness_StepKeepsProfileLaw : ProfileLaw busy ∧ ∃ t, step busy = .next t := ⟨busy_profileLaw, busy_steps⟩

theorem test_witness_StepKeepsBookkeeping :
    TransferLaw busy ∧ SaveLaw busy ∧ TimeLaw busy ∧ ∃ t, step busy = .next t :=
  ⟨busy_transferLaw, busy_saveLaw, busy_timeLaw, busy_steps⟩

/-! ### The step, time and encodings: states that meet the statements' hypotheses -/

theorem test_witness_StepRunsFrontCommand : busy.pending = .slotRequest 0 :: [] := rfl

/-- The microsecond before the due instant, the due instant, and both while RESET is held low. -/
theorem test_witness_IdleStepPassesTime :
    let at_ (n : Nat) (held : Bool) : State := { State.reset with
      resetHeld := held, timebase := { State.reset.timebase with sinceBoundary := n } }
    (at_ 0 false).pending = [] ∧ (at_ 0 false).timebase.sinceBoundary + 1 < (at_ 0 false).timebase.due ∧
      (at_ 3999 false).timebase.due ≤ (at_ 3999 false).timebase.sinceBoundary + 1 ∧
      (at_ 4000 false).timebase.due ≤ (at_ 4000 false).timebase.sinceBoundary + 1 ∧
      (tick (at_ 3998 false)).timebase.sinceBoundary = 3999 ∧ (tick (at_ 3998 true)).timebase.sinceBoundary = 3999 ∧
      (at_ 3999 true).timebase.state = .internal ∧ (tick (at_ 3999 true)).timebase.superframe = 1 ∧
      (tick (at_ 4000 true)).timebase.sinceBoundary = 0 := by decide +kernel

/-- A command that waits, and the clock, while RESET is held low; the last instant that an operand may name. -/
theorem test_witness_CommandsCompleteAndHeldPartWaits :
    let held := { State.reset with resetHeld := true }
    let external := { held with timebase := { held.timebase with state := .external } }
    Instr.frameTransmit.wellFormed = true ∧ held.resetHeld = true ∧ after .frameTransmit held = held ∧
      held.timebase.sinceBoundary + 4000 ≤ held.timebase.due ∧
      (after (.sfsStrobe 4000) held).timebase.sinceBoundary = 4000 ∧
      after (.setTimebase 5) held = after (.sfsStrobe 5) held ∧ held.timebase.state = .internal ∧
      (after .internalBoundary held).timebase.superframe = 1 ∧ external.timebase.state = .external ∧
      after .internalBoundary external = external := by decide +kernel

/-- The octets of a frame on the line, without a line error. -/
def onLine (f : Frame) : List RxOctet := (frameOctets f).map fun v => ⟨v, false⟩

/-- The part with `n` requests and `m` BUSY answers waiting. -/
def crowded (n m : Nat) : State :=
  { State.reset with port := { State.reset.port with
    queue := List.replicate n ⟨2, 1, []⟩, busy := List.replicate m ⟨0x82, 1, [4]⟩ } }

/-- The bodies are the shortest and the longest; a fourth place, a BUSY answer and a dropped request. -/
theorem test_witness_FrameOctetsHandOnTheFrame :
    let long : Frame := ⟨0x0B, 9, List.replicate 240 0xC5⟩
    (crowded 0 0).resetHeld = false ∧ (crowded 0 0).port.framer.state = .hunt ∧
      (after (.requestFrame (onLine ⟨1, 7, []⟩)) (crowded 3 0)).port.queue.drop 3 = [⟨1, 7, []⟩] ∧
      long.body.length = 240 ∧
      (after (.requestFrame (onLine ⟨0x11, 7, [1, 2, 3, 4, 5, 6]⟩)) (crowded 0 0)).port.queue = [⟨0x11, 7, [1, 2, 3, 4, 5, 6]⟩] ∧
      (after (.requestFrame (onLine ⟨1, 7, []⟩)) (crowded 4 7)).port.busy.drop 7 = [⟨0x81, 7, [4]⟩] ∧
      (after (.requestFrame (onLine ⟨1, 7, []⟩)) (crowded 4 8)).port.requestsDropped = true := by decide +kernel

/-- Headers and messages at the ends of their ranges. -/
theorem test_witness_SlotDecodesToItsContents :
    let low : SlotHeader := ⟨.seeking, 0, false, 0, 0, -1, 0, 0, 0, 0⟩
    let high : SlotHeader := ⟨.quiet, 3, true, 255, 15, 3, 15, 255, 255, 0xFFFF⟩
    ((decodeSlot 0 (slotOctets low none)).map Slot.power = some (-1)) ∧
      quietSlot.take 15 = [0x13, 0x11, 147, 0x67, 0, 3, 3, 0x3E, 0x2D, 0x52, 0, 7, 1, 0, 0] ∧
      (slotOctets high (some (.tableEntry 9 15 ⟨10, 7, 1020, 255⟩))).take 15 =
        [0x14, 0x31, 255, 0xFF, 3, 255, 255, 0xFF, 0xFF, 0x67, 9, 0xFA, 0x03, 0xFC, 255] ∧
      [LacMsg.confirm 3 15 255, .refuse 3 15 255, .cancel 3 15 true, .tableAbort 255, .order 3 15 255 true,
        .tableEntry 255 15 ⟨10, 7, 1020, 255⟩, .tableAck 255 255, .tableEnd 255 255 0xFFFF,
        .tableResult 255 255].all (fun m => (decodeSlot 3 (slotOctets high (some m))).map Slot.part
          == some (.message m)) = true := by decide +kernel

theorem test_witness_ImageReadsBackItsSettings :
    imageTableValid factoryImage.active = true ∧ (∀ c : Carrier, recordInRange (factoryImage.records.get c) = true) ∧
      (∀ c : Carrier, (factoryImage.enableSets.get c).getLsbD 0 = true) := by decide

theorem waiting_asked (kind : Byte) (body : List Byte) {s : State} (h : s.resetHeld = false)
    (r : s.port.restarting = false) : Waiting (asked kind body s) ⟨kind, 7, body⟩ [] := ⟨h, rfl, r, rfl⟩

/-- Every statement about a request is met by a waiting request of its kind. -/
theorem test_witness_Waiting :
    Waiting (asked 0x01 [] State.reset) ⟨0x01, 7, []⟩ [] ∧
      Waiting (asked 0x04 [0x03, 0xE8] (part active)) ⟨0x04, 7, [0x03, 0xE8]⟩ [] :=
  ⟨waiting_asked _ _ rfl rfl, waiting_asked _ _ rfl rfl⟩

/-- R181 on the factory part: 0x0412, revision 2, digest 0x3E2D, INTERNAL. -/
theorem test_witness_IdentifyReports :
    (after .identify (asked 0x01 [] State.reset)).port.reply =
      some ⟨0x81, 7, [0x00, 0x04, 0x12, 0x02, 0x3E, 0x2D, 0x01]⟩ := by decide +kernel

theorem test_witness_GetStatusReportsAndClears :
    let s := asked 0x02 [] { part active with sender := Sender.afterReset 3, receiver := Receiver.afterReset false true 4 }
    let t := after .getStatus s
    (replyBody t).take 7 = [0x00, 0x00, 0x00, 0x03, 0xA2, 0x00, 0x0F] ∧ t.sender.stale = 0 ∧ t.receiver.stale = 0 ∧
      t.port.queue = [] := by decide +kernel

/-- Every clear and part, the body of two octets, and each operand one above its range in both bodies. -/
theorem test_witness_GetStatsReportsAndClears :
    let k := { active with stats := { active.stats with duplicates := 258 } }
    let ask (body : List Byte) := after .getStats (asked 0x03 body (part k))
    let duplicates (s : State) := (s.car 0).stats.duplicates
    (replyBody (ask [0, 0])).take 5 = [0x00, 0x00, 0x00, 0x01, 0x02] ∧ replyBody (ask [0, 0, 0]) = replyBody (ask [0, 0]) ∧
      [duplicates (ask [0, 0]), duplicates (ask [0, 0, 1]), duplicates (ask [0, 1]), duplicates (ask [0, 1, 0]),
        duplicates (ask [0, 1, 1])] = [258, 258, 0, 0, 0] ∧
      replyBody (ask [0, 1]) = replyBody (ask [0, 0]) ∧ (replyBody (ask [0, 1, 1])).length = 133 ∧
      replyBody (ask [0, 0, 1]) = replyBody (ask [0, 1, 1]) ∧
      [[4, 0, 0], [0, 2, 0], [0, 0, 2], [4, 0], [0, 2]].all (fun body => replyBody (ask body) == [3]) = true := by
  decide +kernel

/-- The octets of a carrier after its record and its Supervisor's state, as R38, R80, R107, R124 and R143 list them; an
upper carrier with an armed order. -/
theorem test_witness_CarrierAndProfileReads_octets :
    let u := { active with rac := { active.rac with
      armed := some ⟨5, 7, true⟩, lastCancelled := some 4, lastSwitched := some 3 } }
    (replyBody (after .getCarrier (asked 0x05 [0] (part busyCarrier)))).drop 33 =
        [0, 0, 0, 0] ++ [1, 0, 150] ++ [1, 0xFF, 0xFC] ++ [1, 0, 130] ++ [0, 0] ++ [0, 0] ++ [0, 0, 0] ++ [0, 0, 0] ++
        [2] ++ [0, 0, 0, 0] ++ [0, 0] ++ [0, 0] ++ [0, 3, 0] ++ [1, 4] ++ [1, 3] ++ [1, 7] ++ [0] ++
        [1, 1, 0] ++ [1, 5, 2, 0, 0, 0x03, 0x9D, 0, 0, 0x03, 0xA2, 0, 0] ++ [6, 2] ++ [0, 0] ++ [0, 0] ++ [0, 0, 7] ++
        [0, 0, 0] ++ [0, 0] ++ [0, 0] ++ [0, 0] ++ [0] ++ [1, 0, 0, 0x03, 0xA0, 0, 2, 0, 140, 2, 2] ∧
      ((replyBody (after .getCarrier (asked 0x05 [1] (pairPart busyCarrier u)))).drop 56).take 17 =
        [0] ++ [1, 5, 7, 1] ++ [0, 0] ++ [0, 0] ++ [0, 0, 0] ++ [0, 0] ++ [0, 0] ++ [0] ∧
      (pairPart busyCarrier u).isUpper 1 = true := by
  decide +kernel

theorem test_witness_CarrierAndProfileReads :
    let k := { active with est := { active.est with stickyClip := true } }
    let read (body : List Byte) := replyBody (after .readProfiles (asked 0x0B body (part k)))
    ((after .getCarrier (asked 0x05 [0] (part k))).car 0).est.stickyClip = false ∧
      (replyBody (after .getCarrier (asked 0x05 [3] (part k)))).take 4 = [0x00, 0x00, 0x00, 0x00] ∧
      replyBody (after .getCarrier (asked 0x05 [4] (part k))) = [3] ∧
      read [0, 7, 2] = [0x00, 0, 7, 2, 8, 0, 0, 0, 0] ++ [1, 7, 8, 5, 0x01, 0xF8, 32] ++ [0, 0, 0, 0, 0, 0, 0] ∧
      (read [1, 15, 1]).length = 16 ∧ read [2, 0, 1] = [3] ∧ read [0, 15, 2] = [3] ∧ read [0, 16, 1] = [3] ∧
      read [0, 0, 0] = [3] ∧ read [0, 0, 17] = [3] := by decide +kernel

/-- A Fade Log of `n` records. -/
def logOf (n : Nat) : FadeLog := ⟨(List.range n).map fun i => ⟨1, ⟨BitVec.ofNat 32 i, 5, 130, 4, 4⟩, .recovered⟩, false⟩

theorem test_witness_StrobesAndOwnBoundaries :
    let s := strobePart
    let i := { s with timebase := { s.timebase with state := .internal } }
    s.resetHeld = false ∧ s.timebase.sinceBoundary + 8000 ≤ s.timebase.due ∧ s.timebase.state = .external ∧
      2 * (s.timebase.sinceBoundary + 1999) < s.timebase.period ∧
      s.timebase.period ≤ 2 * (s.timebase.sinceBoundary + 2000) ∧
      (after (.sfsStrobe 1999) s).timebase.rejected = 1 ∧
      i.timebase.state = .internal ∧ i.timebase.sinceBoundary + 4000 ≤ i.timebase.due ∧
      (part busyCarrier).timebase.state = .external := by decide

/-- The ends of the range of P, and the last microsecond before the new limit. -/
theorem test_witness_SetTimebaseGovernsAtOnce :
    let set (hi lo : Byte) (e : Nat) := after (.setTimebase e) (asked 0x04 [hi, lo] strobePart)
    replyBody (set 0x03 0xE7 0) = [3] ∧ (set 0x03 0xE7 5).timebase.period = 4000 ∧
      (set 0x03 0xE7 5).timebase.sinceBoundary = 5 ∧ (set 0x03 0xE8 1999).timebase.period = 1000 ∧
      (set 0x4E 0x20 0).timebase.period = 20000 ∧ replyBody (set 0x4E 0x21 0) = [3] ∧
      2 * (256 * (0x03 : Byte).toNat + (0xE8 : Byte).toNat) ≤ strobePart.timebase.sinceBoundary + 2000 ∧
      strobePart.timebase.sinceBoundary + 2000 ≤ strobePart.timebase.due := by decide +kernel

/-- A carrier before a boundary: a superframe with a frame of branch A alone, payload lock seen or not. -/
def superframe (l : LinkState) (lockSeen : Bool) : CarrierState :=
  { carrierIn l with
    est := { Estimator.afterReset with minC := some 40, minRsl := some (-50), minA := some 40, clipSeen := true, absentA := 3, absentB := 254 }
    rac := { Rac.afterReset with current := 2, unlocked := 5, lockSeen }
    sup := { (carrierIn l).sup with holdoff := 9, seek := 9 } }

/-- Each link state, locked and not, with the counts of that carrier after the boundary. -/
theorem test_witness_BoundaryClosesTheSuperframe :
    let closed (l : LinkState) (lockSeen : Bool) :=
      let k := (boundaryWith (fun _ => 0) inOrder (part (superframe l lockSeen))).car 0
      (k.rac.unlocked, k.stats.occupancy[2]?, k.stats.outage)
    let t := boundaryWith (fun _ => 5) inOrder (part (superframe .active true))
    [closed .active true, closed .active false, closed .quiet true, closed .halted true, closed .seeking false,
      closed .disabled true] =
    [(0, some 1, 0), (6, some 1, 0), (0, some 1, 0), (0, some 0, 1), (6, some 0, 1), (5, some 0, 0)] ∧
    ((t.car 0).est.minC, (t.car 0).est.minRsl, (t.car 0).est.minA, (t.car 0).est.clipSeen) = (none, none, none, false) ∧
    ((t.car 0).est.absentA, (t.car 0).est.absentB) = (0, 255) ∧
    ((boundaryWith (fun _ => 0) inOrder (part { superframe .active false with
      rac := { Rac.afterReset with unlocked := 7 } })).car 0).rac.unlocked = 0 := by decide +kernel

/-- The part of that carrier with its superframe begun and closed, before any block has done its work. -/
def begun : State :=
  let s := part (superframe .active true)
  let k := superframe .active true
  { s with
    timebase := { s.timebase with superframe := 931, sinceBoundary := 0, atBoundary := true }
    choices := 1
    carriers := s.carriers.set 0 { k with
      rac := { k.rac with unlocked := 0, lockSeen := false }, sup := { k.sup with miss := 1 }
      stats := { k.stats with occupancy := k.stats.occupancy.set 2 1 } } }

/-- The hypotheses of the statement hold of that part, and the blocks' work is done: a carrier with a frame has a
filter value, its advice and its target. -/
theorem test_witness_BoundaryRunsTheBlocks :
    let s := part (superframe .active true)
    (begun = { s with
      timebase := { s.timebase with superframe := s.timebase.superframe + 1, sinceBoundary := 0, atBoundary := true }
      outQueue := s.outQueue.map fun m => { m with ridden := false }
      choices := s.choices + 1, carriers := begun.carriers }) ∧
    (∀ c : Carrier, begun.car c = { s.car c with
      reports := 0
      rac := { (s.car c).rac with
        lockSeen := false
        unlocked := if (s.car c).sup.link = .disabled then (s.car c).rac.unlocked
          else if (s.car c).rac.lockSeen = true ∧ (s.car c).est.minC ≠ none then 0
          else min ((s.car c).rac.unlocked + 1) 255 }
      stats := { (s.car c).stats with
        occupancy := if (s.car c).sup.link = .active ∨ (s.car c).sup.link = .quiet then
          (s.car c).stats.occupancy.modify (s.car c).rac.current (fun n => min (n + 1) 4294967295)
          else (s.car c).stats.occupancy
        outage := if (s.car c).sup.link = .halted ∨ (s.car c).sup.link = .seeking then
          min ((s.car c).stats.outage + 1) 4294967295 else (s.car c).stats.outage }
      sup := { (s.car c).sup with
        inForce := (s.car c).sup.record
        miss := if (s.car c).sup.link = .halted ∨ (s.car c).sup.link = .disabled then (s.car c).sup.miss
          else min ((s.car c).sup.miss + 1) 65535
        holdoff := if (s.car c).sup.link = .halted then (s.car c).sup.holdoff - 1 else (s.car c).sup.holdoff
        seek := if (s.car c).sup.link = .seeking then (s.car c).sup.seek - 1 else (s.car c).sup.seek } }) := by
  decide +kernel

theorem test_begun_meets_no_test (c : Carrier) : NoTestMet begun c := by
  revert c
  unfold NoTestMet
  decide +kernel

theorem test_boundary_runs_the_blocks :
    let t := boundaryWith (fun _ => 3) inOrder (part (superframe .active true))
    (t.car 0).est.f = some 160 ∧ (t.car 0).rac.advice = 1 ∧ estimatorBoundary 1 t = t ∧
      ((estimatorBoundary 0 begun).car 0).est.absentB = 255 := by decide +kernel

/-! ### The Modem Link and the estimator -/

theorem test_witness_RecordsDiscardedAndReportsNotTaken :
    let s := part { active with reports := 0x8000 }
    let taken (t : State) : Bool × Nat × List Byte :=
      (t == { s with modem := t.modem }, t.modem.discarded, t.modem.partialRecord)
    let t := after (.frameReport 0 14 0xE3 40 50 0x80 0x00) s
    taken (after (.recordCutShort (List.replicate 19 5)) s) = (true, 1, List.replicate 19 5) ∧
      [[0, 3], [4, 0], [3, 4], [255, 255]].all (fun (x : List Byte) =>
        taken (after (.inboundRecordDiscarded (x ++ List.replicate 18 0)) s) == (true, 1, [])) = true ∧
      taken (after (.frameReport 4 0 0 0 0 0 0) s) = (true, 1, []) ∧
      taken (after (.slotIn 4 (List.replicate 16 0)) s) = (true, 1, []) ∧
      taken (after (.slotRequest 4) s) = (true, 1, []) ∧ taken (after (.frameReport 0 16 3 40 50 0 0) s) = (true, 1, []) ∧
      s.link 1 = .disabled ∧ (s.car 0).reports.getLsbD 15 = true ∧ (s.car 0).reports.getLsbD 0 = false ∧
      (after (.frameReport 1 0 3 40 50 0 0) s).carriers = s.carriers ∧
      ((after (.frameReport 0 15 3 40 50 0 0) s).car 0).stats.duplicates = 1 ∧
      (t.car 0).reports = 0xC000 ∧ (t.car 0).est.lastA = ⟨true, 40, -110⟩ ∧
      (t.car 0).est.lastB = ⟨true, 50, -10⟩ := by decide +kernel

/-- One frame of carrier 0 in a diversity mode: the accumulators, and the clip. -/
def framed (mode : DiversityMode) (selection : Branch) (flags a b : Byte) : Option Nat × Option Nat × Option Nat × Bool :=
  let k := { active with
    sup := { active.sup with record := { active.sup.record with diversity := mode } }
    est := { active.est with selection } }
  let e := ((after (.frameReport 0 0 flags a b 0xC4 0xBA) (part k)).car 0).est
  (e.minC, e.minA, e.minB, e.clipSeen)

/-- Both branches, one branch, the selected branch and none, in each mode. -/
theorem test_witness_ReportIsCombined :
    [framed .combine .a 3 120 112, framed .combine .a 3 255 0, framed .combine .a 1 90 9, framed .select .b 3 40 103,
      framed .select .b 1 40 103, framed .branchA .a 3 40 255, framed .branchB .a 1 40 50, framed .combine .a 0 9 9,
      framed .branchB .a 3 40 255] =
    [(some 128, some 120, some 112, false), (some 255, some 255, some 0, true), (some 90, some 90, none, false),
      (some 103, some 40, some 103, false), (some 40, some 40, none, false), (some 40, some 40, some 255, false),
      (none, some 40, none, false), (none, none, none, false), (some 255, some 40, some 255, true)] := by
  decide +kernel

/-- An absent superframe (row 205 of the example); the others are the rows of the test above. -/
theorem test_witness_SuperframeReduction :
    let e := { Estimator.afterReset with f := some 120, g := some (-45), p := some 0, dynamicClip := true, stickyClip := true }
    reduceSuperframe (CarrierRecord.factory true) e = { e with dynamicClip := false } := by decide

/-- Each case of R36; and the table of R33 for each selection, the hysteresis of 8 met and missed, a due SELECT_BRANCH. -/
theorem test_witness_BranchLossAndChoice :
    let lost (mode : DiversityMode) (a b : Nat) (was : Bool) : Bool × Bool :=
      let r := { active.sup.record with diversity := mode }
      let k := { active with
        sup := { active.sup with inForce := r }
        est := { active.est with absentA := a, absentB := b, branchLost := was } }
      let t := after (.branchLoss 0) (part k)
      ((t.car 0).est.branchLost, t.collapsedWire .diversity)
    let pick (mode : DiversityMode) (selection : Branch) (minA minB : Option Nat) (selectDue : Bool) :=
      let r := { active.sup.record with diversity := mode }
      let t := selectBranchWork 0 (part { active with
        sup := { active.sup with inForce := r }, est := { active.est with selection, minA, minB, selectDue } })
      ((t.car 0).est.selection, t.modem.outbound)
    lost .branchA 64 64 true = (false, false) ∧ lost .combine 0 0 true = (false, false) ∧
      lost .combine 0 64 false = (true, true) ∧ lost .select 63 0 false = (false, false) ∧
      lost .select 63 0 true = (true, true) ∧
      [pick .select .a (some 90) (some 98) false, pick .select .a (some 90) (some 97) false, pick .select .b none none true,
        pick .select .b none (some 1) false, pick .select .b (some 1) none false, pick .combine .a none (some 9) true] =
      [(.b, [.selectBranch 0 .b]), (.a, []), (.b, [.selectBranch 0 .b]), (.b, []), (.a, [.selectBranch 0 .a]), (.a, [])] := by
  decide +kernel

/-! ### Receive adaptation -/

/-- A RAC with an armed order. -/
def withArmed (a : ArmedOrder) (k : CarrierState) : CarrierState :=
  { k with rac := { k.rac with current := 5, armed := some a, hold := 9 } }

theorem test_witness_ToggleMovesTheProfile :
    let k := { withArmed ⟨3, 3, false⟩ active with fade := some ⟨928, 2, 140, 5, 5⟩ }
    let t := after (.frameReport 0 0 0x17 40 50 0xC4 0xC4) (part k)
    let u := after (.frameReport 0 0 0x17 40 50 0xC4 0xC4) (part active)
    (t.car 0).rac.current = 3 ∧ (t.car 0).rac.armed = none ∧ (t.car 0).rac.hold = 0 ∧
      (t.car 0).rac.lastSwitched = some 3 ∧ (t.car 0).fade = some ⟨928, 2, 140, 5, 3⟩ ∧
      t.port.notices = [.profileChanged 0 true 5 3] ∧ (u.car 0).stats.rac.unexpected = 1 ∧
      (after (.frameReport 0 0 0x13 40 50 0xC4 0xC4) (part k)).port.notices = [] := by decide +kernel

/-- The last row of each clause: a deficit within power, one beyond it, no candidate, and a candidate; then the work of a
boundary in each link state, on a present and on an absent superframe, the advice bounded at current plus up_step. -/
theorem test_witness_AdviceDecision :
    let x : DecisionInput := ⟨424, -50, factoryTable, 16, 2, 1, -60, -45⟩
    let r := { Rac.afterReset with current := 5, peerHeadroom := some 1, peerAtten := some 2, peerCap := some 15 }
    let work (l : LinkState) (present : Bool) : Nat × Int × Nat :=
      let k := { carrierIn l with
        est := { Estimator.afterReset with p := some 352, rslMin := some (-50) }
        rac := { r with current := 4, advice := 7, power := 2, hold := 31, peerHeadroom := some 2 } }
      let t := racBoundary present 0 (part k)
      ((t.car 0).rac.advice, (t.car 0).rac.power, (t.car 0).rac.hold)
    advised 6 352 2 = (6, 2, 0) ∧ advised 6 351 2 = (4, 2, 0) ∧ advised 6 384 2 = (6, 0, 0) ∧
      (decideAdvice x r).advice = 5 ∧ (decideAdvice x r).hold = 1 ∧ (decideAdvice x { r with hold := 1 }).advice = 6 ∧
      (decideAdvice { x with rslMin := -61 } r).power = 1 ∧
      (decideAdvice { x with p := 423, rslMin := -44 } r).power = -1 ∧
      [work .halted true, work .seeking true, work .disabled true, work .quiet true, work .active false,
        work .active true] = [(7, 2, 31), (7, 2, 31), (7, 2, 31), (5, 0, 31), (5, 0, 31), (4, 0, 0)] := by decide +kernel

/-- What an ORDER to carrier 0 leaves in V0, and the armed order. -/
def ordered (s : State) (id target : Nat) (pair : Bool) : Option LacMsg × Option ArmedOrder :=
  let t := takeOrder 0 id target pair s
  (t.messageAt (.v 0), (t.car 0).rac.armed)

theorem test_witness_OrderFromThePeer :
    let mism := { active with lac := { active.lac with mismatch := true } }
    let cancelled := { active with rac := { active.rac with lastCancelled := some 4 } }
    let switched := { active with rac := { active.rac with lastSwitched := some 4 } }
    let p := takeOrder 0 4 7 true (pairPart (withArmed ⟨4, 6, true⟩ active) active)
    [ordered (part cancelled) 4 3 false, ordered (part switched) 4 3 false,
      ordered (part (carrierIn .quiet)) 4 3 false, ordered (part mism) 4 3 false,
      ordered (part active) 4 8 false, ordered (part active) 4 7 true, ordered (part active) 4 7 false,
      ordered (part (withArmed ⟨4, 7, false⟩ active)) 4 7 false, ordered (pairPart active (carrierIn .quiet)) 4 3 true,
      ordered (pairPart active active) 4 3 false, ordered (pairPart active mism) 4 3 true] =
    [(none, none), (none, none), (some (.refuse 0 4 1), none), (some (.refuse 0 4 2), none),
      (some (.refuse 0 4 3), none), (some (.refuse 0 4 1), none), (some (.confirm 0 4 7), some ⟨4, 7, false⟩),
      (some (.confirm 0 4 7), some ⟨4, 7, false⟩), (some (.refuse 0 4 1), none), (some (.refuse 0 4 4), none),
      (some (.refuse 0 4 2), none)] ∧
    (p.car 0).rac.armed = some ⟨4, 7, true⟩ ∧ (p.car 1).rac.armed = some ⟨4, 7, true⟩ ∧
      (p.car 0).stats.rac.replaced = 1 ∧ p.modem.outbound = [.armRx 0b0011 8 5] ∧
      (takeOrder 1 4 7 true (pairPart active active)).messageAt (.v 1) = some (.refuse 1 4 4) ∧
      ordered { pairPart active mism with pairedA := false } 4 3 true = (some (.refuse 0 4 2), none) := by
  decide +kernel

theorem test_witness_CancelFromThePeer :
    let s := part (withArmed ⟨4, 7, false⟩ active)
    let p := takeCancel 0 4 true (pairPart (withArmed ⟨4, 7, true⟩ active) (withArmed ⟨4, 7, true⟩ active))
    let q := takeCancel 1 4 true (pairPart (carrierIn .disabled) (withArmed ⟨4, 7, true⟩ active))
    takeCancel 1 4 false s = s ∧ takeCancel 0 4 true s = s ∧
      ((takeCancel 0 4 false s).car 0).rac.armed = none ∧
      (takeCancel 0 4 false s).modem.outbound = [.disarmRx 0b0001] ∧
      ((takeCancel 0 5 false s).car 0).rac.lastCancelled = some 5 ∧
      ((takeCancel 0 5 false s).car 0).rac.armed = some ⟨4, 7, false⟩ ∧
      (p.car 0).rac.armed = none ∧ (p.car 1).rac.armed = none ∧ p.modem.outbound = [.disarmRx 0b0011] ∧
      (p.car 0).rac.lastCancelled = some 4 ∧ (p.car 1).rac.lastCancelled = none ∧
      (q.car 0).rac.lastCancelled = some 4 ∧ (q.car 1).rac.armed = none := by decide +kernel

/-! ### Transmit adaptation -/

/-- A carrier with the given latest advice. -/
def advisedTo (n : Nat) (k : CarrierState) : CarrierState := { k with tac := { k.tac with latestAdvice := some n } }

theorem test_witness_TargetFormed :
    let fixed := { active with sup := { active.sup with inForce := { active.sup.inForce with adapt := .fixed, fixedProfile := 4 } } }
    let mism := { advisedTo 6 active with lac := { active.lac with mismatch := true } }
    let target (s : State) (c : Carrier) := ((formTarget 0 s).car c).tac.target
    (part active).isUpper 0 = false ∧ ((part active).tables.enableSets.get 0).getLsbD 0 = true ∧
      target (part fixed) 0 = 4 ∧ target (part (advisedTo 15 active)) 0 = 7 ∧ target (part active) 0 = 0 ∧
      target (pairPart (advisedTo 6 active) (advisedTo 3 active)) 1 = 3 ∧ target (part mism) 0 = 0 := by
  decide +kernel

/-- Carrier 0 ready to open: its target is 2. -/
def readyToOpen : State := part { active with tac := { active.tac with target := 2, nextId := 15 } }

theorem test_witness_OrderOpens :
    let t := openOrderWork 0 readyToOpen
    QueueLaw readyToOpen ∧ readyToOpen.isUpper 0 = false ∧ readyToOpen.timebase.state = .external ∧
      readyToOpen.tables.scheduled = none ∧ readyToOpen.messageAt (.t 0) = none ∧
      (t.car 0).tac.order = some ⟨15, 2, 930, 935, false, false⟩ ∧ (t.car 0).tac.nextId = 0 ∧
      t.outQueue = [⟨.t 0, .order 0 15 2 false, false⟩] ∧
      openOrderWork 0 { readyToOpen with timebase := { readyToOpen.timebase with state := .internal } } =
        { readyToOpen with timebase := { readyToOpen.timebase with state := .internal } } :=
  ⟨⟨by decide, by decide⟩, by decide +kernel⟩

theorem test_witness_OrderDeadlineAndArmTx :
    let o := { order with effect := 931 }
    let t := after (.orderDeadline 0) (part (withOrder .ordered o active))
    let u := after (.armTx 0) (part (withOrder .committed o active))
    (t.car 0).tac.state = .backoff ∧ (t.car 0).tac.backoff = 2 ∧ t.outQueue = [⟨.t 0, .cancel 0 5 false, false⟩] ∧
      t.port.notices = [.changeFailed 0 none] ∧ (t.car 0).stats.tac.timeouts = 1 ∧
      u.modem.outbound = [.armTx 0b0001 2 2] ∧ (u.car 0).tac.order = some { o with armed := true } ∧
      after (.armTx 0) (part (withOrder .committed { o with armed := true } active)) =
        part (withOrder .committed { o with armed := true } active) := by decide +kernel

theorem test_witness_OrderSwitchAndBackoffExpiry :
    let t := after (.orderSwitch 0) (part (withOrder .committed order (advisedTo 2 active)))
    let b := after (.backoffExpiry 0) (part { active with tac := { active.tac with state := .backoff } })
    let k := withOrder .committed { order with pair := true } (advisedTo 2 active)
    let p := after (.orderSwitch 0) (pairPart k k)
    let q := after (.orderSwitch 0) { part k with
      pairedA := true, carriers := (pairPart k k).carriers, alarms := { (part k).alarms with noticeEnable := 0x3BF } }
    (t.car 0).tac.state = .steady ∧ (t.car 0).tac.current = 2 ∧ (t.car 0).stats.tac.switched = 1 ∧
      t.port.notices = [.profileChanged 0 false 1 2] ∧ (b.car 0).tac.state = .steady ∧
      p.port.notices = [.profileChanged 0 false 1 2, .profileChanged 1 false 1 2] ∧ (p.car 1).tac.current = 2 ∧
      q.port.notices = [] ∧ (q.car 0).tac.current = 2 := by decide +kernel

theorem test_witness_ResponsesToAnOrder :
    let s := part (withOrder .ordered order active)
    let c := part (withOrder .committed order active)
    takeConfirm 1 5 2 s = s ∧ ((takeConfirm 0 5 2 s).car 0).tac.state = .committed ∧
      ((takeConfirm 0 5 3 s).car 0).stats.tac.late = 1 ∧ ((takeConfirm 0 5 2 c).car 0).stats.tac.repeatedConfirms = 1 ∧
      ((takeRefuse 0 5 4 s).car 0).stats.tac.refPairSplit = 1 ∧ ((takeRefuse 0 5 5 s).car 0).tac.state = .backoff ∧
      ((takeRefuse 0 5 0 s).car 0).stats.tac = (s.car 0).stats.tac ∧
      ((takeRefuse 0 5 1 c).car 0).stats.tac.late = 1 ∧
      (takeRefuse 0 5 1 s).port.notices = [.changeFailed 0 (some 1)] := by decide +kernel

theorem test_witness_PowerStepApplied :
    let step (atten : Nat) (request : Option Int) :=
      let t := applyPower 0 (part { active with tac := { active.tac with atten, pendingPower := request } })
      ((t.car 0).tac.atten, t.modem.outbound)
    step 2 (some 3) = (0, [.setAtten 0b0001 0]) ∧ step 30 (some (-1)) = (30, []) ∧ step 29 (some (-1)) = (30, [.setAtten 0b0001 30]) ∧
      step 7 none = (7, []) := by decide +kernel

/-- Each step of the work that no command names, met and not met: the timebase lost with an armed order, the backoff count
at 2 and at 1, an upshift whose new target falls below the profile in use and one whose does not. -/
theorem test_witness_TransmitWorkOfABoundary :
    let o := { order with armed := true }
    let lost (st : OrderState) := part (withOrder st o active)
    let internal (s : State) := { s with timebase := { s.timebase with state := .internal } }
    let t := closeOnTimebaseLoss 0 (internal (lost .committed))
    let backoff (n : Nat) := part { active with tac := { active.tac with state := .backoff, backoff := n } }
    let count (n : Nat) := ((countBackoff 0 (backoff n)).car 0).tac
    let upshift (target : Nat) :=
      let k := withOrder .ordered order active
      reverseUpshift 0 (part { k with tac := { k.tac with target } })
    closeOnTimebaseLoss 0 (lost .committed) = lost .committed ∧ (lost .committed).isUpper 0 = false ∧
      (t.car 0).tac.state = .steady ∧ (t.car 0).stats.tac.timebaseCancels = 1 ∧
      t.outQueue = [⟨.t 0, .cancel 0 5 false, false⟩] ∧ t.modem.outbound = [.disarmTx 0b0001] ∧
      countBackoff 0 (part active) = part active ∧ ((count 2).state, (count 2).backoff) = (.backoff, 1) ∧
      ((count 1).state, (count 1).backoff) = (.steady, 0) ∧ ((upshift 0).car 0).stats.tac.superseded = 1 ∧
      (upshift 0).outQueue = [⟨.t 0, .cancel 0 5 false, false⟩] ∧ ((upshift 1).car 0).tac.state = .ordered ∧
      reverseUpshift 0 (lost .committed) = lost .committed ∧ tacBoundary 1 (part active) = part active := by decide +kernel

/-! ### The Link Adaptation Channel -/

/-- The slot of the quiet carrier for carrier 0, with octet `i` changed and the check formed anew. -/
def damaged (i : Nat) (v : Byte) : List Byte :=
  let o := (slotOctets ⟨.active, 0, false, 147, 6, 0, 7, 3, 3, 0x3E2D⟩ none).set i v
  o.take 15 ++ [crc8 (o.take 15)]

theorem test_witness_InvalidAndHaltedSlots :
    let invalid (o : List Byte) (k : CarrierState) := ((after (.slotIn 0 o) (part k)).car 0).stats.lac.invalid
    (damaged 2 147).length = 16 ∧ invalid (damaged 2 147) active = 0 ∧ invalid ((damaged 2 147).set 15 0) active = 1 ∧
      invalid (damaged 0 0x23) active = 1 ∧ invalid (damaged 0 0x11) active = 1 ∧ invalid (damaged 0 0x15) active = 1 ∧
      invalid (damaged 1 0x10) active = 1 ∧ invalid (damaged 4 0xFE) active = 1 ∧ invalid (damaged 4 4) active = 1 ∧
      invalid (damaged 2 147) (carrierIn .disabled) = 1 ∧ (decodeSlot 0 (damaged 2 147)).isSome = true ∧
      ((after (.slotIn 0 (damaged 2 147)) (part (carrierIn .halted))).car 0).stats.lac.halted = 1 := by decide +kernel

/-- A transfer of the part, paused or under way. -/
def sendingPart (st : SenderState) (l : LinkState) : State :=
  { part (carrierIn l) with sender := { Sender.afterReset 0 with
      state := st, id := 9, buffer := factoryTable, next := 1, resume := if st = .paused then some .sending else none } }

/-- A slot brings a SEEKING and a QUIET carrier to ACTIVE, and a paused transfer goes on; on an ACTIVE one a slot of a
SEEKING peer is taken at base, and the sender stands; an unknown kind and a bad TABLE_ENTRY are counted, and the message
of a transfer reaches the sender. -/
theorem test_witness_SlotIsTakenInStages :
    let s := sendingPart .paused .seeking
    let t := after (.slotIn 0 (damaged 2 147)) s
    let a := sendingPart .sending .active
    let u := after (.slotIn 0 (damaged 0 0x12)) a
    let ack := slotOctets ⟨.active, 0, false, 147, 6, 0, 7, 3, 3, 0x3E2D⟩ (some (.tableAck 9 2))
    s.resetHeld = false ∧ (damaged 2 147).length = 16 ∧ (decodeSlot 0 (damaged 2 147)).isSome = true ∧
      s.link 0 = .seeking ∧ t.link 0 = .active ∧ (t.car 0).stats.sup.linkUps = 1 ∧ s.tables.digest = 0x3E2D ∧
      t.collapsedWire .link = false ∧ t.sender.state = .sending ∧
      t.outQueue = [⟨.s, .tableEntry 9 1 ⟨0, 3, 144, 16⟩, false⟩] ∧
      (after (.slotIn 0 (damaged 2 147)) (part (carrierIn .quiet))).link 0 = .active ∧
      (a.car 0).atBase = true ∧ u.link 0 = .active ∧ (u.car 0).lac.peerState = some .seeking ∧ u.sender = a.sender ∧
      (after (.slotIn 0 ack) a).sender.next = 2 ∧
      ((after (.slotIn 0 (damaged 9 0xF0)) a).car 0).stats.lac.unknown = 1 ∧
      (decodeSlot 0 (damaged 9 0x68)).map Slot.part = some .badEntry ∧
      (after (.slotIn 0 (damaged 9 0x68)) a).receiver.stale = 1 := by decide +kernel

/-- A single carrier with an order open, and a pair of which the other carrier alone is not at base, a transfer under way. -/
theorem test_witness_SeekingPeerHaltsTheCarrier :
    let s := part (withOrder .ordered order active)
    let o := damaged 0 0x12
    let t := after (.slotIn 0 o) s
    let p := { pairPart active (withArmed ⟨4, 7, true⟩ (carrierIn .quiet)) with
      sender := (sendingPart .sending .active).sender, outQueue := [⟨.v 1, .refuse 1 4 1, false⟩, ⟨.q, .tableAck 9 1, false⟩] }
    let q := after (.slotIn 0 o) p
    s.resetHeld = false ∧ o.length = 16 ∧ (decodeSlot 0 o).map Slot.link = some .seeking ∧ s.link 0 = .active ∧
      (s.car 0).atBase = false ∧ s.paired 0 = false ∧ t.link 0 = .halted ∧
      (t.car 0).stats.sup.seekingPeer = 1 ∧ (t.car 0).stats.lac.haltedByReceipt = 1 ∧
      (p.car 0).atBase = true ∧ p.paired 0 = true ∧ (p.car 1).rac.armed ≠ none ∧ q.link 0 = .halted ∧
      q.link 1 = .halted ∧ (q.car 1).stats.sup = ⟨1, 0, 0, 0, 0, 1, 0, 0⟩ ∧
      q.modem.outbound = [.forceBase 0b0011, .setAtten 0b0001 0, .setAtten 0b0010 0] ∧
      q.outQueue = [⟨.q, .tableAck 9 1, false⟩] ∧ q.sender.state = .paused := by decide +kernel

/-- SILENT on a DISABLED carrier; an ORDER, and a TABLE_ENTRY whose wait is then begun; an older and a newer message of
the lowest class, and an ORDER that has ridden. -/
theorem test_witness_SlotRequestAnsweredByArbitration :
    let s := { busy with outQueue := busy.outQueue.drop 1 }
    let ridden := { s with outQueue := [⟨.t 0, .order 0 5 2 false, true⟩] }
    (after (.slotRequest 1) busy).modem.outbound = [.slotOut 1 none] ∧
      busy.arbitrated = some ⟨.s, .tableEntry 9 1 ⟨0, 3, 144, 16⟩, false⟩ ∧
      (after (.slotRequest 0) busy).sender.wait = some 8 ∧ (after (.slotRequest 0) s).outQueue = [] ∧
      ((after (.slotRequest 0) s).car 0).stats.lac.sentClass3 = 1 ∧ ridden.arbitrated = none ∧
      { s with outQueue := [] }.arbitrated = none ∧
      arbitrationPart.arbitrated = some ⟨.v 1, .confirm 1 12 6, false⟩ ∧
      candidatePart.isUpper 1 = true ∧ (candidatePart.tables.enableSets.get 0).getLsbD 0 = true ∧
      candidatePart.candidate 1 6 = true ∧ candidatePart.candidate 1 7 = false ∧ candidatePart.cap 1 = 6 ∧
      (after (.slotRequest 2) { candidatePart with carriers := Four.same active }).modem.outbound.map (fun d =>
        match d with
        | .slotOut _ (some o) => o.getD 3 0
        | _ => 0) = [0x07] := by decide +kernel

/-! ### The profile table -/

/-- WRITE_PROFILES at the ends of its ranges and just outside them; DISABLE_PROFILES(carriers 0 and 2, profiles 0 and 6)
of the worked candidate sets. -/
theorem test_witness_ProfilesWrittenAndEnabled :
    let write (body : List Byte) (s : State) := after .writeProfiles (asked 0x0A body s)
    let owned := { part active with tables := { State.reset.tables with owner := .transfer } }
    let last := entryOctets 15 ⟨10, 7, 1020, 255⟩
    let t := after .disableProfiles (asked 0x09 [0x05, 0x00, 0x41] candidatePart)
    let u := after .enableProfiles (asked 0x08 [0x0F, 0x80, 0x00] candidatePart)
    (write ([15, 1] ++ last) (part active)).tables.pending[15]? = some (some ⟨10, 7, 1020, 255⟩) ∧
      (write ([15, 1] ++ last) (part active)).tables.pending.take 15 = (pendingCopy factoryTable).take 15 ∧
      replyBody (write ([15, 1] ++ last) owned) = [4] ∧ replyBody (write ([15, 2] ++ last) (part active)) = [3] ∧
      replyBody (write ([14, 1] ++ last) (part active)) = [3] ∧
      replyBody (write ([0, 1] ++ entryOctets 0 ⟨0, 1, 96, 0⟩) (part active)) = [3] ∧
      replyBody (write ([15, 1] ++ entryOctets 15 ⟨11, 7, 1020, 255⟩) (part active)) = [3] ∧
      (write ([0, 2] ++ entryOctets 0 ⟨0, 0, 90, 0⟩ ++ entryOctets 1 ⟨1, 1, 100, 4⟩) (part active)).tables.pending.take 2 =
        [some ⟨0, 0, 90, 0⟩, some ⟨1, 1, 100, 4⟩] ∧
      t.tables.enableSets = ⟨0x00BF, 0x0055, 0x0AAB, 0xFFFF⟩ ∧ t.cap 0 = 5 ∧ t.cap 2 = 7 ∧
      u.tables.enableSets = ⟨0x80FF, 0x8055, 0x8AAB, 0xFFFF⟩ ∧
      replyBody (after .enableProfiles (asked 0x08 [0x00, 0, 2] candidatePart)) = [3] ∧
      replyBody (after .enableProfiles (asked 0x08 [0x10, 0, 2] candidatePart)) = [3] := by decide +kernel

/-- The worked apply of chapter 3: thr of entry 5 changed, N_used 6, profiles 4 and 5 in use. -/
def applyPart : State :=
  let k := withOrder .ordered ⟨9, 5, 2999, 3004, false, false⟩ active
  let s := part { k with tac := { k.tac with current := 4 }, rac := { k.rac with current := 5 } }
  { s with tables := { s.tables with
    pending := pendingCopy (factoryTable.set 5 ⟨5, 5, 352, 24⟩) } }

theorem test_witness_ApplyTableChecks :
    let apply (n : Byte) (s : State) := after .applyTable (asked 0x0C [n] s)
    let offending := { applyPart with tables := { applyPart.tables with
      pending := pendingCopy (factoryTable.set 2 ⟨2, 2, 144, 16⟩) } }
    (apply 6 applyPart).tables.scheduled = some ((factoryTable.set 5 ⟨5, 5, 352, 24⟩).take 6) ∧
      replyBody (apply 6 applyPart) = [0] ∧ replyBody (apply 5 applyPart) = [6, 0] ∧ replyBody (apply 0 applyPart) = [3] ∧
      replyBody (apply 9 applyPart) = [3] ∧ replyBody (apply 16 applyPart) = [3] ∧ replyBody (apply 17 applyPart) = [3] ∧
      replyBody (apply 8 offending) = [7, 2] ∧ replyBody (apply 6 (apply 6 applyPart)) = [4] ∧
      replyBody (apply 6 { applyPart with tables := { applyPart.tables with completeness := .incomplete } }) = [3] := by
  decide +kernel

/-- What the checks of R41 and R48 name: the first offending entry of a table, and a profile of each kind in use. -/
theorem test_offending_and_in_use :
    firstOffending [⟨0, 0, 96, 0⟩, ⟨0, 3, 96, 0⟩] = some 1 ∧ firstOffending [⟨0, 0, 96, 0⟩, ⟨0, 3, 106, 10⟩] = none ∧
      firstOffending [⟨0, 0, 96, 0⟩, ⟨0, 3, 106, 11⟩] = some 1 ∧ firstOffending [⟨0, 0, 96, 0⟩] = none ∧
      firstOffending [⟨0, 0, 96, 0⟩, ⟨0, 3, 106, 0⟩, ⟨11, 3, 200, 0⟩, ⟨0, 8, 300, 0⟩] = some 2 ∧
      inUseAt 3 (withArmed ⟨4, 2, false⟩ active) = true ∧ inUseAt 6 (withArmed ⟨4, 6, false⟩ active) = true ∧
      inUseAt 7 (withArmed ⟨4, 6, false⟩ active) = false ∧ inUseAt 2 (withOrder .committed order active) = true ∧
      inUseAt 2 (withOrder .backoff order active) = false ∧ inUseAt 1 (withOrder .backoff order active) = true := by
  decide +kernel

/-- With the order closed the recheck finds profile 6 armed; without it the table is applied, and mismatch follows.
After the Store's work of a boundary an apply waits for the next, "the boundary first" of R47. -/
theorem test_witness_ScheduledApplyTakesEffect :
    let entries := (factoryTable.set 5 ⟨5, 5, 352, 24⟩).take 6
    let ready (k : CarrierState) := { part { k with lac := { k.lac with peerDigest := some 0x3E2D } } with
      tables := { State.reset.tables with scheduled := some entries, effectDue := true } }
    let done (s : State) := drawn { s with tables := { s.tables with effectDue := false } }
    let late := after .applyTable (asked 0x0C [6] (boundaryWith (fun _ => 5) inOrder (part active)))
    let abandoned := after .applyEffect (ready (withArmed ⟨3, 6, false⟩ active))
    let applied := applyBoundary (inOrder .mismatch) (ready (withArmed ⟨3, 5, false⟩ active))
    after .applyEffect (ready (withOrder .ordered order active)) = done (ready (withOrder .ordered order active)) ∧
      late.timebase.atBoundary = true ∧ late.tables.scheduled.isSome = true ∧ late.anyOrderOpen = false ∧ after .applyEffect late = late ∧
      abandoned.tables.scheduled = none ∧ abandoned.port.notices = [.tableEvent .apply 10] ∧
      applied.tables.active = entries ∧ applied.port.notices.getLast? = some (.tableEvent .apply 4) ∧ (applied.car 0).lac.mismatch = true ∧
      applied.collapsedWire .mismatch = true ∧ after .applyEffect (part active) = part active ∧
      (part active).tables.effectDue = false ∧
      (boundaryWith (fun _ => 5) inOrder (part active)).tables.effectDue = false := by decide +kernel

/-! ### Remote table transfer -/

theorem test_witness_PushStartsAndAborts :
    let push (source : Byte) (s : State) := after .pushTable (asked 0x0D [source] s)
    let abort (s : State) := after .abortPush (asked 0x0E [] s)
    let pendingOne := { part active with tables := { State.reset.tables with pending := some ⟨0, 0, 96, 0⟩ :: List.replicate 15 none } }
    let empty := { part active with tables := { State.reset.tables with pending := List.replicate 16 none } }
    (push 0 (part active)).sender.buffer = factoryTable ∧ (push 0 (part active)).sender.id = 1 ∧
      (push 0 (part active)).outQueue = [⟨.s, .tableEntry 1 0 ⟨0, 0, 96, 0⟩, false⟩] ∧
      (push 0 { part active with sender := { Sender.afterReset 0 with id := 255 } }).sender.id = 0 ∧
      (push 1 pendingOne).sender.buffer = [⟨0, 0, 96, 0⟩] ∧ replyBody (push 1 empty) = [3] ∧
      replyBody (push 2 (part active)) = [3] ∧ replyBody (push 0 busy) = [4] ∧
      replyBody (push 0 (part (carrierIn .quiet))) = [8] ∧ replyBody (abort (part active)) = [9] ∧
      (abort busy).sender.state = .idle ∧ (abort busy).sender.last = some 8 ∧
      (abort busy).outQueue.getLast? = some ⟨.s, .tableAbort 9, false⟩ := by decide +kernel

/-- The busy part with its sender in the given state. -/
def sending (st : SenderState) (next retry : Nat) : State :=
  { busy with sender := { busy.sender with state := st, next, retry, wait := some 0 } }

theorem test_witness_SenderAdvancesAndWaits :
    let last (s : State) := s.outQueue.getLast?.map Placed.msg
    let waiting (w : Nat) := senderBoundary { busy with sender := { busy.sender with retry := 3, wait := some w } }
    last (takeAck 9 2 (sending .sending 1 3)) = some (.tableEntry 9 2 ⟨2, 2, 208, 16⟩) ∧
      (takeAck 9 2 (sending .sending 1 3)).sender.retry = 0 ∧
      (takeAck 9 8 (sending .sending 7 3)).sender.state = .awaitingResult ∧
      last (takeAck 9 8 (sending .sending 7 3)) = some (.tableEnd 9 8 (transferCheck factoryTable)) ∧
      (takeAck 9 9 (sending .sending 7 3)).sender.stale = 1 ∧ (takeAck 9 1 (sending .sending 1 3)).sender.stale = 1 ∧
      (takeAck 8 2 (sending .sending 1 3)).sender.stale = 1 ∧
      (takeAck 9 2 (sending .awaitingResult 1 3)).sender.stale = 1 ∧
      (takeResult 9 4 (sending .awaitingResult 8 0)).sender.last = some 4 ∧
      (takeResult 9 4 (sending .done 8 0)).sender.stale = 1 ∧
      (after .ackWaitExpiry (sending .sending 1 15)).sender.retry = 16 ∧
      last (after .ackWaitExpiry (sending .awaitingResult 8 0)) = some (.tableEnd 9 8 (transferCheck factoryTable)) ∧
      (after .ackWaitExpiry (sending .sending 1 16)).sender.state = .failed ∧
      (after .ackWaitExpiry (sending .sending 1 16)).port.notices = [.tableEvent .push 9] ∧
      (waiting 2).sender.wait = some 1 ∧ (waiting 1).sender.retry = 4 ∧ (waiting 0).sender.retry = 4 ∧
      senderBoundary (part active) = part active := by decide +kernel

/-- The part receiving transfer 9, entry 1 expected. -/
def receiving : State :=
  takeEntry 9 0 ⟨4, 4, 96, 0⟩ { part active with receiver := Receiver.afterReset true false 0 }

theorem test_witness_ReceiverTakesATransfer :
    let e : Entry := ⟨3, 3, 256, 16⟩
    let last (s : State) := s.outQueue.getLast?.map Placed.msg
    let barred := { receiving with receiver := { receiving.receiver with remoteWrite := false } }
    let x := takeEntry 8 0 e barred
    receiving.receiver.state = .receiving ∧ receiving.tables.pending.head? = some (some ⟨0, 0, 96, 0⟩) ∧
      receiving.tables.owner = .transfer ∧ last receiving = some (.tableAck 9 1) ∧
      last (takeEntry 9 1 e receiving) = some (.tableAck 9 2) ∧ (takeEntry 9 1 e receiving).tables.pending[1]? = some (some e) ∧
      takeEntry 9 0 e receiving = { receiving with outQueue := (takeEntry 9 0 e receiving).outQueue } ∧
      (takeEntry 8 2 e receiving).receiver.stale = 1 ∧ (takeEntry 8 0 e receiving).receiver.id = some 8 ∧
      (takeEntry 8 1 e (part active)).receiver.stale = 1 ∧ last (takeEntry 8 0 e (part active)) = some (.tableResult 8 1) ∧
      (takeEntry 8 0 e (takeEntry 8 0 e (part active))).receiver.stale = 1 ∧
      x.receiver.lastId = some 8 ∧ x.tables.owner = .host ∧ last x = some (.tableResult 8 1) ∧
      x.port.notices = [.tableEvent .receive 1, .tableEvent .receive 1] := by decide +kernel

/-- TABLE_END with each result. -/
theorem test_witness_ReceiverTakesATransfer_results :
    let base : List Entry := [⟨0, 0, 96, 0⟩]
    let auto := { receiving with receiver := { receiving.receiver with remoteApply := true } }
    let result (s : State) := (s.receiver.lastResult, s.tables.completeness, s.tables.scheduled)
    receiving.tables.pending.take 1 = base.map some ∧ receiving.tables.pending.length = 16 ∧
      [result (takeEnd 9 1 (transferCheck base) receiving), result (takeEnd 9 2 (transferCheck base) receiving),
        result (takeEnd 9 1 (transferCheck base + 1) receiving), result (takeEnd 9 1 (transferCheck base) auto),
        result (takeEnd 9 1 (transferCheck base) { auto with tables := { auto.tables with scheduled := some base } }),
        result (takeEnd 9 1 (transferCheck base) { auto with carriers := busy.carriers }),
        result (takeEnd 9 2 (transferCheck (base ++ [⟨0, 3, 96, 0⟩])) (takeEntry 9 1 ⟨0, 3, 96, 0⟩ auto))] =
      [(some 3, .complete, none), (some 2, .incomplete, none), (some 2, .incomplete, none), (some 4, .complete, some base),
        (some 7, .complete, some base), (some 6, .complete, none), (some 5, .complete, none)] := by decide +kernel

/-- TABLE_END and TABLE_ABORT that end nothing, a TABLE_END answered again, and the abort of a reception. -/
theorem test_witness_ReceiverTakesATransfer_end :
    let held := takeEnd 9 1 (transferCheck [⟨0, 0, 96, 0⟩]) receiving
    let refused := takeEntry 8 0 ⟨0, 0, 96, 0⟩ (part active)
    let aborted := takeAbort 9 receiving
    (takeEnd 8 1 0 receiving).receiver.stale = 1 ∧ (takeAbort 8 receiving).receiver.stale = 1 ∧
      held.receiver.state = .idle ∧ (takeEnd 9 7 0 { held with outQueue := [] }).outQueue = [⟨.q, .tableResult 9 3, false⟩] ∧
      (takeEnd 8 1 0 held).receiver.stale = 1 ∧ (takeEnd 8 1 0 refused).receiver.stale = 1 ∧
      (takeAbort 9 held).receiver.stale = 1 ∧ aborted.receiver.lastId = some 9 ∧ aborted.receiver.lastResult = none ∧
      aborted.tables.owner = .host ∧ aborted.outQueue = [] ∧ aborted.port.notices = [.tableEvent .receive 8] ∧
      (takeEnd 9 1 0 aborted).receiver.stale = 1 := by decide +kernel

/-! ### Carrier configuration and supervision -/

/-- SET_CARRIER of carrier `n` with a record. -/
def setRecord (n : Byte) (paired : Bool) (r : CarrierRecord) (s : State) : State :=
  after .setCarrier (asked 0x06 (n :: recordOctets paired r) s)

/-- The ends of the ranges of R126, and values just outside them. -/
theorem test_witness_SetCarrierReplacesTheRecord :
    let r := CarrierRecord.factory true
    let bad (r : CarrierRecord) := replyBody (setRecord 0 false r (part active)) == [3]
    let edge : CarrierRecord := ⟨true, .select, 40, 255, 7, 15, 255, 255, 15, 15, .fixed, 15, 30, -110, -10, 1019, 1020, 64, 255, 64, 255, 4095⟩
    let low : CarrierRecord := ⟨true, .branchB, 0, 8, 0, 3, 0, 1, 1, 0, .auto, 0, 0, -110, -109, 0, 1, 2, 3, 1, 4, 16⟩
    let refused := { part active with outQueue := [⟨.v 3, .refuse 3 4 1, false⟩, ⟨.v 0, .refuse 0 4 1, false⟩] }
    recordInRange edge = true ∧ recordInRange low = true ∧
      ((setRecord 0 false edge (part active)).car 0).sup.record = edge ∧
      ((setRecord 0 false edge (part active)).car 0).tac.atten = 30 ∧
      ((setRecord 0 false edge (part active)).car 0).est.selectDue = true ∧
      (setRecord 0 false edge (part active)).modem.outbound = [.setAtten 0b0001 30] ∧
      ((setRecord 0 false low (part active)).car 0).sup.record = low ∧
      replyBody (setRecord 4 false r (part active)) = [3] ∧ replyBody (setRecord 0 true r (part active)) = [9] ∧
      (setRecord 2 true (CarrierRecord.factory false) (part active)).pairedB = true ∧
      (setRecord 2 true (CarrierRecord.factory false) refused).outQueue = [⟨.v 0, .refuse 0 4 1, false⟩] ∧
      (setRecord 2 false (CarrierRecord.factory false) refused).outQueue = refused.outQueue ∧
      [{ r with selHyst := 41 }, { r with divLost := 7 }, { r with releaseShift := 8 }, { r with lead := 2 },
        { r with lead := 16 }, { r with upHold := 0 }, { r with upStep := 16 }, { r with attenMin := 31 },
        { r with rslHi := -60 }, { r with fadeLow := 240 }, { r with w2 := 8 }, { r with kLock := 65 },
        { r with tHold := 3 }, { r with tSeek := 4096 }].all bad = true := by decide +kernel

/-- Carriers alone, and a pair: enabled beside a DISABLED and beside an enabled partner, disabled with its partner, and
paired while both are DISABLED; the SET_ATTEN of a raised floor precedes the entry's. -/
theorem test_witness_InAndOutOfService :
    let off := setRecord 0 false { CarrierRecord.factory false with attenMin := 4 } (part active)
    let on := setRecord 1 false (CarrierRecord.factory true) (part active)
    let pairOn := setRecord 1 true (CarrierRecord.factory true) (pairPart active factoryCarrier)
    let pair := pairPart active active
    let ask (n : Byte) := after .restartCarrier (asked 0x07 [n] (sendingPart .sending .active))
    (part active).paired 0 = false ∧ recordInRange (CarrierRecord.factory true) = true ∧
      recordInRange { CarrierRecord.factory false with attenMin := 4 } = true ∧ off.link 0 = .disabled ∧
      off.modem.outbound = [.setAtten 0b0001 4, .forceBase 0b0001, .setAtten 0b0001 4] ∧ on.link 1 = .halted ∧
      (on.car 1).sup.holdoff = 16 ∧ (pairOn.link 0, pairOn.link 1) = (.halted, .halted) ∧
      (pairOn.car 0).stats.sup.partner = 1 ∧ pair.paired 0 = true ∧ pair.link 1 = .active ∧
      (setRecord 2 true (CarrierRecord.factory true) (part active)).pairedB = true ∧
      (ask 0).link 0 = .halted ∧ ((ask 0).car 0).stats.sup.rendezvous = 1 ∧ (ask 0).sender.state = .paused ∧
      replyBody (ask 3) = [5] ∧ replyBody (ask 4) = [3] := by decide +kernel

/-- A pair of which carrier 0, its LINK wire asserted, is disabled and carrier 1 halts with it: the deassertion or the
assertion first, by the order of their turns (R154). -/
theorem test_pair_disabled_in_either_order :
    [false, true].all (fun back =>
      let s := pairPart (carrierIn .quiet) active
      let t := enter back (s.entering 0 .disable) s
      (t.link 0, t.link 1) == (.disabled, .halted) && t.collapsedWire .link &&
        t.modem.outbound == [.forceBase 0b0011, .setAtten 0b0001 0, .setAtten 0b0010 0] &&
        t.port.notices == if back then [] else [.alarm .link false, .alarm .link true]) = true := by decide +kernel

/-- Each test at its limit: k_lock 8, W1 8, W2 32, and the counts at 0; a pair halted with one cause partner, and the
sender following. -/
theorem test_witness_SupervisionTests :
    let run (i : Instr) (l : LinkState) (unlocked miss : Nat) : LinkState × SupStats :=
      let k := carrierIn l
      let t := after i (part { k with rac := { k.rac with unlocked }, sup := { k.sup with miss } })
      (t.link 0, (t.car 0).stats.sup)
    let locked := { active with rac := { active.rac with unlocked := 8 } }
    let p := after (.lockLossHalt 0) (pairPart locked active)
    let q := after (.quietEntry 0) (let s := sendingPart .sending .active
      { s with carriers := s.carriers.set 0 { active with sup := { active.sup with miss := 8 } } })
    run (.lockLossHalt 0) .active 8 0 = (.halted, ⟨1, 1, 0, 0, 0, 0, 0, 0⟩) ∧
      run (.lockLossHalt 0) .quiet 7 0 = (.quiet, ⟨0, 0, 0, 0, 0, 0, 0, 0⟩) ∧
      run (.silenceHalt 0) .quiet 7 32 = (.halted, ⟨1, 0, 1, 0, 0, 0, 0, 0⟩) ∧
      run (.silenceHalt 0) .quiet 7 31 = (.quiet, ⟨0, 0, 0, 0, 0, 0, 0, 0⟩) ∧
      run (.quietEntry 0) .active 7 8 = (.quiet, ⟨0, 0, 0, 0, 0, 0, 1, 0⟩) ∧
      run (.quietEntry 0) .active 7 7 = (.active, ⟨0, 0, 0, 0, 0, 0, 0, 0⟩) ∧
      run (.seekTimeout 0) .seeking 0 0 = (.halted, ⟨1, 0, 0, 0, 1, 0, 0, 0⟩) ∧
      run (.holdoffExpiry 0) .halted 0 0 = (.seeking, ⟨0, 0, 0, 0, 0, 0, 0, 0⟩) ∧
      (p.link 1, (p.car 1).stats.sup) = (.halted, ⟨1, 0, 0, 0, 0, 1, 0, 0⟩) ∧
      p.modem.outbound = [.forceBase 0b0011, .setAtten 0b0001 0, .setAtten 0b0010 0] ∧
      q.link 0 = .quiet ∧ q.collapsedWire .link = true ∧ q.sender.state = .paused := by decide +kernel

/-- A boundary of a carrier with the given counts, the Supervisor before the blocks or after them all: the link state,
the miss counter, the holdoff, the seek count and the Supervisor's counts. -/
def supervised (place : Nat) (l : LinkState) (unlocked miss holdoff seek : Nat) : Supervisor × SupStats :=
  let k := carrierIn l
  let t := boundaryWith (fun _ => place) inOrder
    (part { k with rac := { k.rac with unlocked }, sup := { k.sup with miss, holdoff, seek } })
  ((t.car 0).sup, (t.car 0).stats.sup)

/-- Each clause one short of its limit and at it: k_lock 8, W1 8, W2 32, T_hold 16, T_seek 256. -/
theorem test_witness_SupervisorAtABoundary :
    [0, 5].all (fun place =>
      let sup := (carrierIn .active).sup
      let none_ : SupStats := ⟨0, 0, 0, 0, 0, 0, 0, 0⟩
      [supervised place .active 6 6 0 0, supervised place .active 6 7 0 0, supervised place .active 7 0 0 0,
        supervised place .quiet 6 30 0 0, supervised place .quiet 6 31 0 0, supervised place .quiet 7 0 0 0,
        supervised place .halted 0 0 2 0, supervised place .halted 0 0 1 0, supervised place .seeking 0 5 0 2,
        supervised place .seeking 0 5 0 1, supervised place .disabled 0 5 0 0] ==
      [({ sup with miss := 7 }, none_), ({ sup with link := .quiet, miss := 8 }, { none_ with quietEntries := 1 }),
        ({ sup with link := .halted, holdoff := 16 }, { none_ with rendezvous := 1, lockLoss := 1 }),
        ({ sup with link := .quiet, miss := 31 }, none_),
        ({ sup with link := .halted, holdoff := 16 }, { none_ with rendezvous := 1, silence := 1 }),
        ({ sup with link := .halted, holdoff := 16 }, { none_ with rendezvous := 1, lockLoss := 1 }),
        ({ sup with link := .halted, holdoff := 1 }, none_), ({ sup with link := .seeking, seek := 256 }, none_),
        ({ sup with link := .seeking, miss := 6, seek := 1 }, none_),
        ({ sup with link := .halted, holdoff := 16 }, { none_ with rendezvous := 1, seekTimeouts := 1 }),
        ({ sup with link := .disabled, miss := 5 }, none_)]) = true := by decide +kernel

/-- A pair of which the upper carrier, or both carriers, meet a test that halts. -/
theorem test_witness_SupervisorAtABoundary_pair :
    let run (l : LinkState) (unlocked miss : Nat) : CarrierState :=
      { carrierIn l with
        rac := { (carrierIn l).rac with unlocked }, sup := { (carrierIn l).sup with miss } }
    [boundaryWith (fun _ => 0) inOrder (pairPart active (run .quiet 0 31)),
      boundaryWith (fun c => if c = 0 then 5 else 0) inOrder (pairPart (run .active 7 0) (run .quiet 7 31))].all (fun t =>
        [t.car 0, t.car 1].all fun k => k.sup.link == .halted && k.sup.holdoff == 16 && k.sup.miss == 0 &&
          k.stats.sup.rendezvous == 1) = true := by decide +kernel

/-! ### Fades, alarms and notices -/

/-- A carrier whose filter gives `f`, with an open fade, at boundary 3101. -/
def fadePart (f : Nat) (fade : Option OpenFade) : State :=
  let s := part { active with est := { active.est with f := some f }, rac := { active.rac with current := 5 }, fade }
  { s with timebase := { s.timebase with superframe := 3101 } }

/-- Carrier 2's fade of the worked example: it opens, goes on, is held over an absent superframe, and closes; the log at
its bounds, and READ_FADES at the ends of its range. -/
theorem test_witness_FadeMonitorAndLog :
    let fade (present : Bool) (f : Nat) (x : Option OpenFade) := ((fadeBoundary present 0 (fadePart f x)).car 0).fade
    let closed := fadeBoundary true 0 (fadePart 244 (some ⟨3100, 5, 110, 5, 3⟩))
    let read (n : Byte) (held : Nat) := after .readFades (asked 0x10 [n] { part active with fades := logOf held })
    let more : FadeRecord := ⟨2, ⟨3100, 5, 110, 5, 3⟩, .recovered⟩
    (fade true 150 none = some ⟨3100, 1, 150, 5, 5⟩ ∧ fade true 160 none = none ∧ fade false 150 none = none ∧
      fade true 110 (some ⟨3100, 1, 150, 5, 5⟩) = some ⟨3100, 2, 110, 5, 5⟩ ∧
      fade false 110 (some ⟨3100, 2, 110, 5, 3⟩) = some ⟨3100, 3, 110, 5, 3⟩ ∧
      fade true 240 (some ⟨3100, 4, 110, 5, 3⟩) = some ⟨3100, 5, 110, 5, 3⟩ ∧
      fade true 241 (some ⟨3100, 5, 110, 5, 3⟩) = none ∧ closed.fades.log = [⟨0, ⟨3100, 5, 110, 5, 3⟩, .recovered⟩] ∧
      closed.port.notices.head? = some (.fadeRecorded 0 1) ∧
      (fadeBoundary true 0 (fadePart 150 none)).collapsedWire .fade = true ∧ fadeBoundary true 1 (part active) = part active ∧
      (part active).link 0 = .active ∧ fadeBoundary false 0 (part active) = part active) ∧
    ((read 1 32).fades.log.length = 31 ∧ (read 16 17).fades = ⟨(logOf 17).log.drop 16, false⟩ ∧
      (read 16 0).fades.log = [] ∧ replyBody (read 0 1) = [3] ∧ replyBody (read 17 1) = [3] ∧
      ((logOf 31).append more).log.length = 32 ∧ ((logOf 31).append more).overrun = false ∧
      ((logOf 32).append more).log.length = 32 ∧ ((logOf 32).append more).overrun = true ∧
      ((logOf 32).append more).log.head? = (logOf 32).log[1]?) := by decide +kernel

/-- The case of R154: at one boundary carrier 0's fade closes and carrier 1's opens.  Every order of the carriers can be
drawn. -/
theorem test_fades_change_in_either_order :
    let of (minC : Nat) (k : CarrierState) := { k with est := { k.est with minC := some minC, minRsl := some (-50) } }
    let s := part (of 70 { active with fade := some ⟨928, 2, 140, 2, 2⟩, wires := { CarrierWires.clear with fade := true } })
    let s := { s with
      carriers := s.carriers.set 1 (of 30 active), alarms := { s.alarms with collapsed := 0b100001 } }
    let alarms (order : List Carrier) := ((boundaryWith (fun _ => 5) (fun _ => order) s).port.notices).filter
      fun n => n.key == (0, 0)
    alarms [0, 1, 2, 3] = [.alarm .fade false, .alarm .fade true] ∧ alarms [1, 0, 2, 3] = [] ∧
      ((List.range 24).map (arrange · allCarriers)).Nodup := by decide +kernel

/-- A wire that changes its collapsed wire, and one that does not; the TIMEBASE and the STORE wire. -/
theorem test_witness_WiresCollapseWithTheirAlarms :
    let s := part (carrierIn .quiet)
    let t := setWire .fade 1 true s
    s.collapsedWire .link = true ∧ t.collapsedWire .fade = true ∧ t.port.notices = [.alarm .fade true] ∧
      (setWire .link 0 true s).port.notices = [] ∧ (setWire .link 0 false s).port.notices = [.alarm .link false] ∧
      (setWire .fade 0 true t).port.notices = t.port.notices ∧
      (setTimebaseWire true s).port.notices = [.alarm .timebase true] ∧
      (setStoreWire true s).port.notices = [] ∧ (setStoreWire false s).alarms.alert = true ∧
      (setStoreWire false (setWire .link 0 false s)).alarms.alert = false := by decide +kernel

theorem test_witness_PermissionsAndNoticeSets :
    let remote (w a : Byte) (s : State) := after .setRemote (asked 0x0F [w, a] s)
    let sets (body : List Byte) := after .setNotices (asked 0x11 body (part active))
    (remote 1 1 (part active)).receiver.remoteApply = true ∧ replyBody (remote 2 0 (part active)) = [3] ∧
      replyBody (remote 0 2 (part active)) = [3] ∧ (remote 0 1 receiving).receiver.lastResult = some 1 ∧
      receiving.receiver.id = some 9 ∧ (remote 0 1 receiving).tables.owner = .host ∧
      (sets [3, 0xFF, 0, 1, 0x3F, 0x20]).alarms.noticeEnable = 0x3FE ∧
      (sets [3, 0xFF, 0, 1, 0x3F, 0x20]).alarms.alertEnable = 0x1F ∧
      (sets [3, 0xFF, 0, 1, 0x3F, 0x20]).alarms.alert = false ∧ (part active).alarms.alert = true ∧
      replyBody (sets [4, 0, 0, 0, 0, 0]) = [3] ∧ replyBody (sets [0, 0, 4, 0, 0, 0]) = [3] ∧
      replyBody (sets [0, 0, 0, 0, 0x40, 0]) = [3] ∧ replyBody (sets [0, 0, 0, 0, 0, 0x40]) = [3] := by decide +kernel

/-! ### The Management Port -/

/-- The factory part whose framer is in the given state. -/
def framing (st : FramerState) : State :=
  { State.reset with port := { State.reset.port with framer := { Framer.hunting with state := st } } }

theorem test_witness_BadFramesAndBadRequests :
    let f : Frame := ⟨0x01, 7, []⟩
    let wrong : List RxOctet := [0xC5, 0, 0x01, 7, 0, 0].map fun v => ⟨v, false⟩
    replyBody (after .unknownKind (asked 0x00 [] State.reset)) = [1] ∧
      (after .unknownKind (asked 0x94 [] State.reset)).port.reply = some ⟨0x14, 7, [1]⟩ ∧
      ([(.identify, 0x01, 1), (.getStatus, 0x02, 1), (.getStats, 0x03, 1), (.getStats, 0x03, 4), (.setTimebase 0, 0x04, 3),
        (.getCarrier, 0x05, 0), (.setCarrier, 0x06, 26), (.restartCarrier, 0x07, 2), (.enableProfiles, 0x08, 2),
        (.disableProfiles, 0x09, 4), (.writeProfiles, 0x0A, 2), (.writeProfiles, 0x0A, 9), (.writeProfiles, 0x0A, 104),
        (.readProfiles, 0x0B, 2), (.applyTable, 0x0C, 0), (.pushTable, 0x0D, 0), (.abortPush, 0x0E, 1), (.setRemote, 0x0F, 1),
        (.readFades, 0x10, 2), (.setNotices, 0x11, 5), (.saveSettings, 0x12, 1), (.restart, 0x13, 1)] :
          List (Instr × Byte × Nat)).all (fun x =>
            replyBody (after x.1 (asked x.2.1 (List.replicate x.2.2 0) State.reset)) == [2]) = true ∧
      (after .frameGapTimeout (framing .body)).port.framer.state = .hunt ∧
      (after .frameGapTimeout (framing .body)).port.badFrames = 0 ∧
      (after (.badFrame [⟨0, true⟩]) (framing .length)).port.badFrames = 1 ∧
      (after (.badFrame [⟨241, false⟩]) (framing .length)).port.badFrames = 0 ∧
      (after (.badFrame [⟨241, true⟩]) (framing .length)).port.badFrames = 1 ∧
      (after (.badFrame [⟨240, false⟩]) (framing .length)).port.framer.state = .header ∧
      [0, 0] ≠ bytes16 (crc16 ([byteOf f.body.length, f.kind, f.tag] ++ f.body)) ∧
      (after (.badFrame wrong) State.reset).port.badFrames = 1 := by decide +kernel

/-- The last rows of the port's example: the delayed reply became ready before reply 5, so it leaves first. -/
theorem test_witness_TransmitterAndNoticeQueue :
    let r : Frame := ⟨0x82, 5, []⟩
    let d : Frame := ⟨0x92, 1, [0]⟩
    let s := { part active with settings := { State.reset.settings with saveState := .replying, heldReply := some 1 } }
    let send (p : Port) := after .frameTransmit { s with port := p }
    let full := { s.port with notices := .tableEvent .push 4 :: List.replicate 7 (.fadeRecorded 1 1) }
    (send { s.port with reply := some r, delayed := some d, delayedFirst := true }).port.sending = some d ∧
      (send { s.port with reply := some r, delayed := some d, delayedFirst := true }).settings.saveState = .idle ∧
      (send { s.port with reply := some r, delayed := some d }).port.sending = some r ∧
      (send { s.port with reply := some r, busy := [⟨0x82, 8, [4]⟩] }).port.sending = some ⟨0x82, 8, [4]⟩ ∧
      (send { s.port with reply := some r, restarting := true, sending := some d }).port.sending = some r ∧
      (send { s.port with reply := some r, restarting := true, sending := some d }).port.restarting = true ∧
      (send full).port.sending = some ⟨0x44, 0, [0, 4]⟩ ∧
      (enqueueNotice (.tableEvent .push 9) full).notices.getLast? = some (.tableEvent .push 9) ∧
      (enqueueNotice (.tableEvent .push 9) full).notices.length = 8 ∧
      (enqueueNotice (.alarm .store true) full).notices = full.notices ∧
      (enqueueNotice (.alarm .store true) full).noticesDropped = true := by decide +kernel

/-! ### Settings and resets -/

/-- The part with a save under way that wrote `octets`. -/
def saving (octets : List Byte) : State :=
  { part active with settings := ⟨[], true, .writing, some 7, octets⟩ }

theorem test_witness_SavesAndRestartRequests :
    let restarting := after .restart (asked 0x13 [] (part active))
    let more := asked 0x13 [] restarting
    (after .saveSettings (asked 0x12 [] (part active))).settings.heldReply = some 7 ∧
      (after .saveSettings (asked 0x12 [] (part active))).port.reply = none ∧
      replyBody (after .saveSettings (asked 0x12 [] (saving [1]))) = [4] ∧ restarting.port.restarting = true ∧
      (after (.saveWriteEnd [1]) (saving [1])).port.delayed = some ⟨0x92, 7, [0]⟩ ∧
      (after (.saveWriteEnd [2]) (saving [1])).port.delayed = some ⟨0x92, 7, [10]⟩ ∧
      (after (.saveWriteEnd [2]) (saving [1])).alarms.storeWire = true ∧
      (after (.saveWriteEnd [1]) (saving [1])).settings.nvm = [1] ∧ (after (.saveWriteEnd [2]) (saving [1])).settings.nvm = [] ∧
      (after .powerOnReset (after (.saveWriteEnd [2]) (saving [1]))).settings.storeValid = false ∧
      [.unknownKind, .identify, .setCarrier, .restart].all (fun i => after i more == more) = true ∧
      (after (.setTimebase 8000) more).timebase.sinceBoundary = 8000 ∧
      more.timebase.sinceBoundary + 8000 ≤ more.timebase.due := by decide +kernel

/-- With no image the power-on reset gives the reset state. -/
theorem test_witness_PowerOnLoadsTheSettings :
    readImage [] = none ∧ after .powerOnReset State.reset = State.reset ∧
      (after .powerOnReset { part active with straps := ⟨true, false⟩ }).port.lineRate = .r115200 := by decide +kernel

/-- A stored image: carriers 2 and 3 a pair, both enabled. -/
def storedImage : Image :=
  { factoryImage with
    records := ⟨CarrierRecord.factory false, CarrierRecord.factory false, CarrierRecord.factory true, CarrierRecord.factory true⟩
    pairedB := true }

/-- Octets with the check over them. -/
def checked (b : List Byte) : List Byte := b ++ bytes16 (crc16 b)

/-- Octets with a check after them are an intact image when the check is theirs and the first is version 1. -/
theorem imageIntact_append (v : Byte) (b : List Byte) (check : Word16) :
    imageIntact (v :: b ++ bytes16 check) = (bytes16 (crc16 (v :: b)) == bytes16 check && v.toNat == 1) := by
  have whole : (v :: b ++ bytes16 check).length - 2 = (v :: b).length := by
    have two : (bytes16 check).length = 2 := rfl
    simp only [List.length_append, two]
    omega
  unfold imageIntact
  rw [whole, List.take_left, List.drop_left]
  simp [natAt, bytes16]

theorem checked_intact (b : List Byte) : imageIntact (checked (1 :: b)) = true := by
  rw [checked, imageIntact_append, beq_self_eq_true]
  rfl

/-- The power-on reset loads the stored image: the carriers of the pair HALTED, the others DISABLED. -/
theorem test_witness_PowerOnLoadsTheSettings_valid : readImage (imageOctets storedImage) = some storedImage := by
  have intact : imageIntact (imageOctets storedImage) = true := checked_intact ((imageCovered storedImage).drop 1)
  unfold readImage
  rw [intact]
  decide +kernel

/-- A stored image with another version, and one with a bit of its check changed, are not intact (R184). -/
theorem test_witness_PowerOnLoadsTheSettings_judged :
    let b := (imageCovered storedImage).drop 1
    readImage (checked (2 :: b)) = none ∧ readImage (1 :: b ++ bytes16 (crc16 (1 :: b) ^^^ 1)) = none := by
  intro b
  have differ (x : Word16) : (bytes16 x == bytes16 (x ^^^ 1)) = false := by
    refine beq_eq_false_iff_ne.mpr fun h => ?_
    have low := congrArg (fun l => (l.getD 1 0).getLsbD 0) h
    simp [bytes16] at low
  unfold readImage
  rw [checked, imageIntact_append, imageIntact_append, differ]
  simp

/-- Intact images that are not valid by R184: no entry; an entry 0 with another modulation or code; equal thresholds; a
hysteresis above the step; a modulation 11; a record with a ceiling above 15; records of a position that differ in
paired.  At the ends of the ranges the image is valid. -/
theorem test_witness_PowerOnLoadsTheSettings_invalid :
    let table (t : List Entry) := readImage (checked (1 :: (imageCovered { storedImage with active := t }).drop 1))
    let octet (i : Nat) (v : Byte) := readImage (checked (1 :: ((imageCovered storedImage).set i v).drop 1))
    [[], [⟨1, 0, 96, 0⟩], [⟨0, 1, 96, 0⟩], [⟨0, 0, 96, 0⟩, ⟨0, 3, 96, 0⟩], [⟨0, 0, 96, 0⟩, ⟨0, 3, 97, 2⟩],
        [⟨0, 0, 96, 0⟩, ⟨11, 3, 97, 1⟩]].all (fun t => (table t).isNone) = true ∧
      table [⟨0, 0, 96, 255⟩, ⟨10, 7, 97, 1⟩] = some { storedImage with active := [⟨0, 0, 96, 255⟩, ⟨10, 7, 97, 1⟩] } ∧
      octet 52 16 = none ∧ (octet 52 15).isSome = true ∧ octet 69 1 = none ∧ octet 95 0 = none := by
  intro table octet
  refine ⟨?_, ?_, ?_, ?_, ?_, ?_⟩ <;> simp only [table, octet, readImage, checked_intact, List.all_cons, List.all_nil] <;>
    decide +kernel

/-- Intact images with a thr above 1020, a permission octet 2 and an octet too many are not valid; stray bits of the
alert mask are dropped (log 41). -/
theorem test_witness_PowerOnLoadsTheSettings_refused :
    let b := (imageCovered storedImage).drop 1
    let high := (imageCovered { storedImage with active := [⟨0, 0, 1021, 0⟩] }).drop 1
    readImage (checked (1 :: high)) = none ∧ readImage (checked (1 :: b.set (b.length - 2) 2)) = none ∧
      readImage (checked (1 :: (b ++ [0]))) = none ∧
      readImage (checked (1 :: b.set (b.length - 3) 0xFF)) = some { storedImage with alertEnable := 0x3F } := by
  intro b high
  unfold readImage
  rw [checked_intact, checked_intact, checked_intact, checked_intact]
  decide +kernel

/-- "A save cut short" (chapter 11): RESTART's reply has been sent while the save is in WRITING.  A pair starts up with
one FORCE_BASE, an upper carrier whose lower one is not enabled with its own; RESET_RELEASE leaves the clock. -/
theorem test_witness_LineResetReleaseAndRestart :
    let untidy := { saving [1] with
      modem := ⟨3, [0x01, 0x02], []⟩
      tables := { State.reset.tables with completeness := .incomplete, owner := .transfer, pending := [] }
      port := { (saving [1]).port with
        framer := ⟨.body, 2, some 1, 7, [0], none⟩, delayed := some ⟨0x92, 7, [0]⟩, delayedFirst := true
        sending := some ⟨0x81, 1, []⟩, restarting := true } }
    let s := saving [1]
    let ready := { s with port := { s.port with restarting := true, sending := some ⟨0x93, 8, [0]⟩ } }
    let t := after .restartTakesEffect ready
    let up (s : State) := after .resetRelease (after .lineReset s)
    let later := { after .lineReset s with timebase := { s.timebase with superframe := 3, sinceBoundary := 77 } }
    s.resetHeld = false ∧ ready.port.reply = none ∧ ready.port.sending.isSome = true ∧ t.settings.storeValid = false ∧
      t.settings.saveState = .idle ∧ t.alarms.storeWire = true ∧ t.link 0 = .halted ∧
      (after .lineReset s).alarms.storeWire = false ∧ (after .lineReset s).settings.storeValid = false ∧
      up ready = t ∧ after .frameTransmit ready = t ∧ (t.car 0).stats.sup.rendezvous = 1 ∧
      (up (pairPart active active)).modem.outbound = [.forceBase 0b0011, .setAtten 0b0001 0, .setAtten 0b0010 0] ∧
      ((up (pairPart active active)).car 1).stats.sup = ⟨1, 0, 0, 0, 0, 1, 0, 0⟩ ∧
      (up (pairPart factoryCarrier active)).modem.outbound = [.forceBase 0b0010, .setAtten 0b0010 0] ∧
      later.resetHeld = true ∧ (after .resetRelease later).timebase = later.timebase ∧
      (after .resetRelease s).timebase = s.timebase ∧
      (up { s with port := { s.port with requestsDropped := true }, pairedB := true }).port.requestsDropped = true ∧
      (up { s with pairedB := true }).pairedB = true ∧ (up s).alarms.noticeEnable = s.alarms.noticeEnable ∧
      (up (part active)).settings.nvm = (part active).settings.nvm ∧
      [after .lineReset untidy, up untidy].all (fun v =>
        v.port == { v.port with
          framer := Framer.hunting, delayed := none, delayedFirst := false, sending := none, restarting := false } &&
        v.tables == State.reset.tables && v.modem == ⟨3, [], v.modem.outbound⟩ &&
        v.settings == ⟨[], false, .idle, none, []⟩) = true ∧
      (up untidy).port.notices = [.alarm .timebase true, .alarm .store true, .alarm .link true] ∧
      ((up (part busyCarrier)).car 0).wires = ⟨false, true, false, false⟩ ∧
      (after .lineReset (part active)).alarms.collapsed = 0 := by decide +kernel

end Sys2Proof.Tests
end

section
/-! SUPPORT. The work of a boundary as an induction over its turns and blocks, and what each block can change of a
carrier and of the sender. -/

namespace Sys2Proof.Machine

/-! ### The induction over a boundary -/

/-- The work of the other blocks that stands behind the Supervisor's place `n`. -/
def blockAt (order : AlarmKind → List Carrier) (present : Four Bool) : Nat → State → State
  | 0 => qualityWork order present
  | 1 => receiveWork present
  | 2 => transmitWork
  | 3 => senderBoundary
  | _ => applyBoundary (order .mismatch)

/-- What holds before the turns of one place, and is kept by a turn of a carrier that had none, holds after them. -/
theorem superviseAt_induction (place : Carrier → Nat) (k : Nat) {I : Set Carrier → State × List Carrier → Prop}
    (turn : ∀ T c x, c ∉ T → I T x → I (insert c T) (superviseOnce c x)) {x : State × List Carrier}
    (h : I {d | place d < k} x) : I {d | place d < k + 1} (superviseAt place k x) := by
  have fold : ∀ (cs : List Carrier) (T : Set Carrier) (x : State × List Carrier), cs.Nodup →
      (∀ c ∈ cs, place c = k → c ∉ T) → I T x →
      I (T ∪ {d | d ∈ cs ∧ place d = k}) (cs.foldl (fun x c => if place c = k then superviseOnce c x else x) x) := by
    intro cs
    induction cs with
    | nil =>
      intro T x _ _ hx
      simpa using hx
    | cons c cs ih =>
      intro T x hn hT hx
      obtain ⟨hc, hn⟩ := List.nodup_cons.1 hn
      rw [List.foldl_cons]
      by_cases hk : place c = k
      · have e : T ∪ {d | d ∈ c :: cs ∧ place d = k} = insert c T ∪ {d | d ∈ cs ∧ place d = k} := by
          ext d
          simp only [Set.mem_union, Set.mem_ofPred_eq, List.mem_cons, Set.mem_insert_iff]
          grind
        rw [if_pos hk, e]
        refine ih _ _ hn (fun d hd hdk => ?_) (turn T c x (hT c List.mem_cons_self hk) hx)
        rintro (rfl | hd')
        · exact hc hd
        · exact hT d (List.mem_cons_of_mem _ hd) hdk hd'
      · have e : T ∪ {d | d ∈ c :: cs ∧ place d = k} = T ∪ {d | d ∈ cs ∧ place d = k} := by
          ext d
          simp only [Set.mem_union, Set.mem_ofPred_eq, List.mem_cons]
          grind
        rw [if_neg hk, e]
        exact ih _ _ hn (fun d hd => hT d (List.mem_cons_of_mem _ hd)) hx
  have e : {d | place d < k + 1} = {d | place d < k} ∪ {d | d ∈ allCarriers ∧ place d = k} := by
    ext d
    simp only [Set.mem_union, Set.mem_ofPred_eq, mem_allCarriers, true_and]
    omega
  rw [e]
  exact fold allCarriers _ x (by decide) (fun c _ hk hlt => absurd hk (Nat.ne_of_lt hlt)) h

/-- What holds at the start of a boundary, and is kept by each turn of the Supervisor and by each block's work, holds
after the boundary.  `I n T x` speaks of the part once `n` blocks have worked and the carriers of `T` have had their
turn. -/
theorem boundaryWith_induction (place : Carrier → Nat) (order : AlarmKind → List Carrier) (s : State)
    (I : Nat → Set Carrier → State × List Carrier → Prop) (start : I 0 ∅ (startBoundary s, []))
    (turn : ∀ n T c x, c ∉ T → I n T x → I n (insert c T) (superviseOnce c x))
    (work : ∀ n T x, n < 5 → I n T x → I (n + 1) T (blockWork (blockAt order s.presence n) x)) :
    ∃ done, I 5 {d | place d < 6} (boundaryWith place order s, done) := by
  have h0 : I 0 {d | place d < 0} (startBoundary s, []) := by simpa using start
  have h1 := work 0 _ _ (by omega) (superviseAt_induction place 0 (turn 0) h0)
  have h2 := work 1 _ _ (by omega) (superviseAt_induction place 1 (turn 1) h1)
  have h3 := work 2 _ _ (by omega) (superviseAt_induction place 2 (turn 2) h2)
  have h4 := work 3 _ _ (by omega) (superviseAt_induction place 3 (turn 3) h3)
  have h5 := work 4 _ _ (by omega) (superviseAt_induction place 4 (turn 4) h4)
  exact ⟨_, superviseAt_induction place 5 (turn 5) h5⟩

/-! ### The sender's ranges (chapter 9, The sender) -/

/-- The sender's counts lie within their ranges. -/
def Sender.inRange (x : Sender) : Prop := x.retry ≤ 16 ∧ (∀ w ∈ x.wait, w ≤ 8) ∧ x.id ≤ 255

/-- Following a change of link state moves no count of the sender but its wait, which stops. -/
theorem SenderFollows.inRange {q : List Placed} {s t : State} (h : SenderFollows q s t) (hs : s.sender.inRange) :
    t.sender.inRange := by
  obtain ⟨pauses, stays, resumes⟩ := h
  by_cases ha : ∃ c : Carrier, t.link c = .active
  · obtain ⟨same, sending, awaiting⟩ := resumes ha
    by_cases hp : s.sender.state = .paused
    · cases hr : s.sender.resume with
      | none =>
        rw [(same (.inr hr)).1]
        exact hs
      | some phase =>
        cases phase with
        | sending =>
          rw [(sending hp hr).1]
          exact hs
        | awaitingResult =>
          rw [(awaiting hp hr).1]
          exact hs
    · rw [(same (.inl hp)).1]
      exact hs
  · have hn : ∀ c : Carrier, t.link c ≠ .active := fun c hc => ha ⟨c, hc⟩
    by_cases hr : s.sender.state = .sending ∨ s.sender.state = .awaitingResult
    · rw [(pauses hn hr).1]
      exact ⟨hs.1, fun w hw => by simp at hw, hs.2.2⟩
    · rw [(stays hn (fun e => hr (.inl e)) fun e => hr (.inr e)).1]
      exact hs

theorem senderFollowsLinks_inRange {s : State} (h : s.sender.inRange) : (senderFollowsLinks s).sender.inRange :=
  (senderFollowsLinks_spec s).1.inRange h

@[simp] theorem placeNotice_sender (n : Notice) (s : State) : (placeNotice n s).sender = s.sender := by
  obtain ⟨p, e, -⟩ := placeNotice_spec n s
  rw [e]

@[simp] theorem placeNotice_carriers (n : Notice) (s : State) : (placeNotice n s).carriers = s.carriers := by
  obtain ⟨p, e, -⟩ := placeNotice_spec n s
  rw [e]

@[simp] theorem setWire_sender (k : AlarmKind) (c : Carrier) (v : Bool) (s : State) :
    (setWire k c v s).sender = s.sender := by
  obtain ⟨_, _, _, e, -⟩ := setWire_spec k c v s
  rw [e]

/-- A carrier after one of its wires has been set, and the others. -/
theorem car_setWire (k : AlarmKind) (c d : Carrier) (v : Bool) (s : State) :
    (setWire k c v s).car d = if d = c then { s.car c with wires := (s.car c).wires.set k v } else s.car d := by
  obtain ⟨_, _, _, e, -⟩ := setWire_spec k c v s
  rw [e]
  exact Four.get_set _ _ _ _

/-- A send again or the end of the transfer keeps the sender's ranges (R162). -/
theorem ackWaitExpired_inRange {s : State} (h : s.sender.inRange) : (ackWaitExpired s).sender.inRange := by
  obtain ⟨hr, -, hid⟩ := h
  unfold ackWaitExpired
  split
  · have e : (placeAgain (modSender (fun x => { x with retry := x.retry + 1, wait := none }) s)).sender =
        { s.sender with retry := s.sender.retry + 1, wait := none } := by
      unfold placeAgain
      split <;> rfl
    rw [e]
    exact ⟨by simpa using ‹s.sender.retry < 16›, fun w hw => by simp at hw, hid⟩
  · rw [placeNotice_sender]
    exact ⟨hr, fun w hw => by simp at hw, hid⟩

theorem senderBoundary_inRange {s : State} (h : s.sender.inRange) : (senderBoundary s).sender.inRange := by
  unfold senderBoundary
  split
  · exact h
  · rename_i w hw
    split
    · have h' : (modSender (fun x => { x with wait := some (w - 1) }) s).sender.inRange := by
        refine ⟨h.1, fun v hv => ?_, h.2.2⟩
        have := h.2.1 w hw
        simp only [modSender_sender, Option.mem_def, Option.some.injEq] at hv
        omega
      split
      · exact ackWaitExpired_inRange h'
      · exact h'
    · exact h

theorem senderBoundary_carriers (s : State) : (senderBoundary s).carriers = s.carriers := by
  have again : ∀ u : State, (placeAgain u).carriers = u.carriers := by
    intro u
    unfold placeAgain
    split <;> rfl
  have expired : ∀ u : State, (ackWaitExpired u).carriers = u.carriers := by
    intro u
    unfold ackWaitExpired
    split
    · rw [again]
      rfl
    · rw [placeNotice_carriers]
      rfl
  unfold senderBoundary
  split
  · rfl
  · split
    · simp only
      split
      · rw [expired]
        rfl
      · rfl
    · rfl

/-! ### What a block can change -/

/-- What the block behind the Supervisor's place `n` keeps of every carrier: all that the Supervisor holds, the lock of
the superframe, the counts of superframes and duplicates, and of a DISABLED carrier the contexts of R61, R19 and R149.
The estimators alone (0) move the estimator, the TACs alone (2) the TAC. -/
structure BlockKept (n : Nat) (k k' : CarrierState) : Prop where
  sup : k'.sup = k.sup
  lockSeen : k'.rac.lockSeen = k.rac.lockSeen
  unlocked : k'.rac.unlocked = k.rac.unlocked
  duplicates : k'.stats.duplicates = k.stats.duplicates
  occupancy : k'.stats.occupancy = k.stats.occupancy
  outage : k'.stats.outage = k.stats.outage
  est : n ≠ 0 ∨ k.sup.link = .disabled → k'.est = k.est
  tac : n ≠ 2 → k'.tac = k.tac
  rac : k.sup.link = .disabled → k'.rac = k.rac
  stats : k.sup.link = .disabled → k'.stats = k.stats
  fade : k.sup.link = .disabled → k'.fade = k.fade

theorem BlockKept.refl (n : Nat) (k : CarrierState) : BlockKept n k k where
  sup := rfl
  lockSeen := rfl
  unlocked := rfl
  duplicates := rfl
  occupancy := rfl
  outage := rfl
  est := fun _ => rfl
  tac := fun _ => rfl
  rac := fun _ => rfl
  stats := fun _ => rfl
  fade := fun _ => rfl

theorem BlockKept.trans {n : Nat} {k l m : CarrierState} (h : BlockKept n k l) (g : BlockKept n l m) :
    BlockKept n k m where
  sup := g.sup.trans h.sup
  lockSeen := g.lockSeen.trans h.lockSeen
  unlocked := g.unlocked.trans h.unlocked
  duplicates := g.duplicates.trans h.duplicates
  occupancy := g.occupancy.trans h.occupancy
  outage := g.outage.trans h.outage
  est := fun i => (g.est (i.imp_right fun e => by rw [h.sup, e])).trans (h.est i)
  tac := fun i => (g.tac i).trans (h.tac i)
  rac := fun i => (g.rac (by rw [h.sup, i])).trans (h.rac i)
  stats := fun i => (g.stats (by rw [h.sup, i])).trans (h.stats i)
  fade := fun i => (g.fade (by rw [h.sup, i])).trans (h.fade i)

/-- What the block behind place `n` keeps of the part: of every carrier what `BlockKept` says, and the sender's
ranges. -/
structure BlockFrame (n : Nat) (s t : State) : Prop where
  carriers : ∀ d, BlockKept n (s.car d) (t.car d)
  sender : s.sender.inRange → t.sender.inRange

namespace BlockFrame

theorem trans {n : Nat} {s t u : State} (h : BlockFrame n s t) (g : BlockFrame n t u) : BlockFrame n s u :=
  ⟨fun d => (h.carriers d).trans (g.carriers d), fun i => g.sender (h.sender i)⟩

/-- A step that touches neither a carrier nor the sender. -/
theorem of_same {n : Nat} {s t : State} (hc : t.carriers = s.carriers) (hs : t.sender = s.sender) :
    BlockFrame n s t :=
  ⟨fun d => by simpa only [State.car, hc] using BlockKept.refl n _, fun i => by rwa [hs]⟩

theorem refl (n : Nat) (s : State) : BlockFrame n s s := of_same rfl rfl

/-- A step that changes one carrier, and not the sender. -/
theorem of_one {n : Nat} {s t : State} {c : Carrier} {k : CarrierState} (hc : t.carriers = s.carriers.set c k)
    (hs : t.sender = s.sender) (h : BlockKept n (s.car c) k) : BlockFrame n s t := by
  refine ⟨fun d => ?_, fun i => by rwa [hs]⟩
  simp only [State.car, hc, Four.get_set]
  split
  · rename_i e
    rw [e]
    exact h
  · exact BlockKept.refl n _

theorem foldl {α : Type} {n : Nat} {f : State → α → State} (h : ∀ u a, BlockFrame n u (f u a)) (xs : List α)
    (s : State) : BlockFrame n s (xs.foldl f s) := by
  induction xs generalizing s with
  | nil => exact refl n s
  | cons x xs ih => exact (h s x).trans (ih _)

theorem ite {n : Nat} {p : Prop} [Decidable p] {s t u : State} (h : BlockFrame n s t) (g : BlockFrame n s u) :
    BlockFrame n s (if p then t else u) := by
  split
  · exact h
  · exact g

theorem emit (n : Nat) (d : Directive) (s : State) : BlockFrame n s (emit d s) := of_same rfl rfl

theorem placeMessage (n : Nat) (p : Place) (m : LacMsg) (s : State) : BlockFrame n s (placeMessage p m s) :=
  of_same rfl rfl

theorem clearPlace (n : Nat) (p : Place) (s : State) : BlockFrame n s (clearPlace p s) := of_same rfl rfl

theorem modTables (n : Nat) (f : TableStore → TableStore) (s : State) : BlockFrame n s (modTables f s) :=
  of_same rfl rfl

theorem placeNotice (n : Nat) (x : Notice) (s : State) : BlockFrame n s (placeNotice x s) :=
  of_same (placeNotice_carriers x s) (placeNotice_sender x s)

theorem link {n : Nat} {s t : State} (h : BlockFrame n s t) (c : Carrier) : t.link c = s.link c :=
  congrArg Supervisor.link (h.carriers c).sup

end BlockFrame

/-- Writing a carrier back changes nothing. -/
theorem set_car_self (s : State) (c : Carrier) : { s with carriers := s.carriers.set c (s.car c) } = s := by
  unfold State.car
  rw [Four.set_get]

/-! ### The estimators and the Fade Monitors -/

/-- Branch choice changes the selection, and may issue a SELECT_BRANCH (R33, R34). -/
theorem selectBranchWork_spec (c : Carrier) (s : State) :
    ∃ (b : Branch) (due : Bool) (out : List Directive),
      selectBranchWork c s = { s with
        carriers := s.carriers.set c { s.car c with est := { (s.car c).est with selection := b, selectDue := due } }
        modem := { s.modem with outbound := out } } := by
  unfold selectBranchWork
  simp only
  split
  · split
    · exact ⟨_, _, _, rfl⟩
    · exact ⟨_, _, s.modem.outbound, rfl⟩
  · exact ⟨(s.car c).est.selection, (s.car c).est.selectDue, s.modem.outbound, (set_car_self s c).symm⟩

/-- The branch loss decision changes that flag and its wire, collapsed wires, ALERT and notices (R36). -/
theorem judgeBranchLoss_spec (c : Carrier) (s : State) :
    ∃ (lost : Bool) (wires : CarrierWires) (a : BitVec 6) (b : Bool) (p : Port),
      judgeBranchLoss c s = { s with
        carriers := s.carriers.set c { s.car c with est := { (s.car c).est with branchLost := lost }, wires }
        alarms := { s.alarms with collapsed := a, alert := b }, port := p } := by
  obtain ⟨a, b, p, e, -⟩ := setWire_spec .diversity c (branchLostNext (s.car c).sup.inForce (s.car c).est)
    (modEst c (fun e => { e with branchLost := branchLostNext (s.car c).sup.inForce (s.car c).est }) s)
  refine ⟨branchLostNext (s.car c).sup.inForce (s.car c).est, (s.car c).wires.set .diversity
    (branchLostNext (s.car c).sup.inForce (s.car c).est), a, b, p, ?_⟩
  unfold judgeBranchLoss
  rw [e]
  simp [modEst, State.car]

theorem reduceSuperframe_keeps (r : CarrierRecord) (e : Estimator) :
    (reduceSuperframe r e).minA = e.minA ∧ (reduceSuperframe r e).minB = e.minB ∧
      (reduceSuperframe r e).absentA = e.absentA ∧ (reduceSuperframe r e).absentB = e.absentB := by
  unfold reduceSuperframe
  split <;> exact ⟨rfl, rfl, rfl, rfl⟩

/-- What the estimator's work leaves of the superframe just ended (R26, R35). -/
structure EstimatorClosed (e e' : Estimator) : Prop where
  minC : e'.minC = none
  minRsl : e'.minRsl = none
  minA : e'.minA = none
  minB : e'.minB = none
  clipSeen : e'.clipSeen = false
  absentA : e'.absentA = if e.minA = none then min (e.absentA + 1) 255 else 0
  absentB : e'.absentB = if e.minB = none then min (e.absentB + 1) 255 else 0

/-- The estimator's work at a boundary: nothing for a DISABLED carrier, else a change of that carrier's estimator and
wires, records to the modem, collapsed wires, ALERT and notices (R26, R35). -/
theorem estimatorBoundary_spec (c : Carrier) (s : State) :
    (s.link c = .disabled → estimatorBoundary c s = s) ∧
    (s.link c ≠ .disabled →
      ∃ (e : Estimator) (wires : CarrierWires) (out : List Directive) (a : BitVec 6) (b : Bool) (p : Port),
        estimatorBoundary c s = { s with
          carriers := s.carriers.set c { s.car c with est := e, wires }
          modem := { s.modem with outbound := out }
          alarms := { s.alarms with collapsed := a, alert := b }, port := p } ∧
        EstimatorClosed (s.car c).est e) := by
  refine ⟨fun h => by simp [estimatorBoundary, State.enabled, h], fun h => ?_⟩
  obtain ⟨hA, hB, haA, haB⟩ := reduceSuperframe_keeps (s.car c).sup.inForce (s.car c).est
  obtain ⟨sel, due, out, e1⟩ := selectBranchWork_spec c (modEst c (reduceSuperframe (s.car c).sup.inForce) s)
  obtain ⟨lost, wires, a, b, p, e2⟩ := judgeBranchLoss_spec c
    (modEst c countAbsent (selectBranchWork c (modEst c (reduceSuperframe (s.car c).sup.inForce) s)))
  have he : s.enabled c = true := by simpa [State.enabled] using h
  refine ⟨emptyAccumulators { countAbsent { reduceSuperframe (s.car c).sup.inForce (s.car c).est with
    selection := sel, selectDue := due } with branchLost := lost }, wires, out, a, b, p, ?_, ?_⟩
  · simp only [estimatorBoundary, he, if_true, e2]
    rw [e1]
    simp [modEst, modCar, State.setCar, State.car]
  · constructor <;> simp [emptyAccumulators, countAbsent, hA, hB, haA, haB, count8, Option.isSome_iff_ne_none]

/-- The estimator's work is a block's work of place 0. -/
theorem estimatorBoundary_block (c : Carrier) (s : State) : BlockFrame 0 s (estimatorBoundary c s) := by
  by_cases h : s.link c = .disabled
  · rw [(estimatorBoundary_spec c s).1 h]
    exact BlockFrame.refl 0 s
  · obtain ⟨e, wires, out, a, b, p, eq, -⟩ := (estimatorBoundary_spec c s).2 h
    rw [eq]
    exact .of_one (c := c) rfl rfl { BlockKept.refl 0 (s.car c) with est := fun i => (i.elim (absurd rfl) (absurd · h)) }

/-- A fade opened changes its carrier's open fade and wires, collapsed wires, ALERT and notices (R146). -/
theorem openFade_spec (c : Carrier) (f : Nat) (s : State) :
    ∃ (fade : Option OpenFade) (wires : CarrierWires) (a : BitVec 6) (b : Bool) (p : Port),
      openFade c f s = { s with
        carriers := s.carriers.set c { s.car c with fade, wires }
        alarms := { s.alarms with collapsed := a, alert := b }, port := p } := by
  obtain ⟨a, b, p, e, -⟩ := setWire_spec .fade c true (modCar c (fun k => { k with
    fade := some ⟨s.timebase.superframe - 1, 1, f, (s.car c).rac.current, (s.car c).rac.current⟩ }) s)
  refine ⟨some ⟨s.timebase.superframe - 1, 1, f, (s.car c).rac.current, (s.car c).rac.current⟩,
    (s.car c).wires.set .fade true, a, b, p, ?_⟩
  unfold openFade
  rw [e]
  simp

/-- The Fade Monitor's work at a boundary: nothing for a DISABLED carrier, else a change of its open fade and wires, the
Fade Log, collapsed wires, ALERT and notices (R146 to R148). -/
theorem fadeBoundary_spec (present : Bool) (c : Carrier) (s : State) :
    (s.link c = .disabled → fadeBoundary present c s = s) ∧
    (∃ (fade : Option OpenFade) (wires : CarrierWires) (fades : FadeLog) (a : BitVec 6) (b : Bool) (p : Port),
      fadeBoundary present c s = { s with
        carriers := s.carriers.set c { s.car c with fade, wires }, fades
        alarms := { s.alarms with collapsed := a, alert := b }, port := p }) := by
  refine ⟨fun h => by simp [fadeBoundary, State.enabled, h], ?_⟩
  have same : ∃ (fade : Option OpenFade) (wires : CarrierWires) (fades : FadeLog) (a : BitVec 6) (b : Bool) (p : Port),
      s = { s with
        carriers := s.carriers.set c { s.car c with fade, wires }, fades
        alarms := { s.alarms with collapsed := a, alert := b }, port := p } :=
    ⟨(s.car c).fade, (s.car c).wires, s.fades, s.alarms.collapsed, s.alarms.alert, s.port, (set_car_self s c).symm⟩
  unfold fadeBoundary
  simp only
  split
  · split
    · split
      · obtain ⟨fade, wires, a, b, p, e⟩ := openFade_spec c ((s.car c).est.f.getD 0) s
        exact ⟨fade, wires, s.fades, a, b, p, e⟩
      · exact same
    · split
      · obtain ⟨a, b, p, e, -⟩ := closeFade_any .recovered c s
        exact ⟨_, _, _, a, b, p, e⟩
      · exact ⟨_, _, s.fades, s.alarms.collapsed, s.alarms.alert, s.port, rfl⟩
  · exact same

theorem fadeBoundary_block (present : Bool) (c : Carrier) (s : State) : BlockFrame 0 s (fadeBoundary present c s) := by
  by_cases h : s.link c = .disabled
  · rw [(fadeBoundary_spec present c s).1 h]
    exact BlockFrame.refl 0 s
  · obtain ⟨fade, wires, fades, a, b, p, eq⟩ := (fadeBoundary_spec present c s).2
    rw [eq]
    exact .of_one (c := c) rfl rfl { BlockKept.refl 0 (s.car c) with fade := fun i => absurd i h }

theorem qualityWork_block (order : AlarmKind → List Carrier) (present : Four Bool) (s : State) :
    BlockFrame 0 s (qualityWork order present s) :=
  (BlockFrame.foldl (fun u c => estimatorBoundary_block c u) _ s).trans
    (.foldl (fun u c => fadeBoundary_block _ c u) _ _)

/-! ### The RACs -/

theorem decideAdvice_keeps (x : DecisionInput) (r : Rac) :
    (decideAdvice x r).lockSeen = r.lockSeen ∧ (decideAdvice x r).unlocked = r.unlocked := by
  unfold decideAdvice
  simp only
  split
  · split <;> exact ⟨rfl, rfl⟩
  · split <;> exact ⟨rfl, rfl⟩

/-- The RAC's work at a boundary: nothing for a DISABLED carrier, else a change of its RAC that keeps what it saw of
lock (R63). -/
theorem racBoundary_spec (present : Bool) (c : Carrier) (s : State) :
    ∃ r : Rac, racBoundary present c s = { s with carriers := s.carriers.set c { s.car c with rac := r } } ∧
      r.lockSeen = (s.car c).rac.lockSeen ∧ r.unlocked = (s.car c).rac.unlocked ∧
      (s.link c = .disabled → r = (s.car c).rac) := by
  have same : s = { s with carriers := s.carriers.set c { s.car c with rac := (s.car c).rac } } :=
    (set_car_self s c).symm
  unfold racBoundary
  cases h : s.link c with
  | disabled => exact ⟨_, same, rfl, rfl, fun _ => rfl⟩
  | halted => exact ⟨_, same, rfl, rfl, fun _ => rfl⟩
  | seeking => exact ⟨_, same, rfl, rfl, fun _ => rfl⟩
  | quiet => exact ⟨_, rfl, rfl, rfl, fun e => by cases e⟩
  | active =>
    simp only
    split
    · obtain ⟨hl, hu⟩ := decideAdvice_keeps (s.decisionInput c) (s.car c).rac
      exact ⟨_, rfl, hl, hu, fun e => by cases e⟩
    · exact ⟨_, rfl, rfl, rfl, fun e => by cases e⟩

theorem receiveWork_block (present : Four Bool) (s : State) : BlockFrame 1 s (receiveWork present s) := by
  refine .foldl (fun u c => ?_) _ s
  obtain ⟨r, e, hl, hu, hd⟩ := racBoundary_spec (present.get c) c u
  rw [e]
  exact .of_one (c := c) rfl rfl { BlockKept.refl 1 (u.car c) with lockSeen := hl, unlocked := hu, rac := hd }

/-! ### The TACs -/

namespace BlockFrame

theorem modTac (c : Carrier) (f : Tac → Tac) (s : State) : BlockFrame 2 s (modTac c f s) :=
  .of_one (c := c) rfl rfl { BlockKept.refl 2 (s.car c) with tac := fun i => absurd rfl i }

/-- An order statistic moves at a carrier that is not DISABLED. -/
theorem modTacStats {c : Carrier} {s t : State} (h : BlockFrame 2 s t) (hl : s.link c ≠ .disabled)
    (f : TacStats → TacStats) : BlockFrame 2 s (modTacStats c f t) :=
  h.trans (.of_one (c := c) rfl rfl { BlockKept.refl 2 (t.car c) with
    stats := fun i => absurd ((h.link c).symm.trans i) hl })

theorem mirrorOrder (c : Carrier) (s : State) : BlockFrame 2 s (mirrorOrder c s) := by
  unfold Machine.mirrorOrder
  exact ite (modTac _ _ s) (refl 2 s)

theorem closeOrder (c : Carrier) (st : OrderState) (b : Nat) (s : State) : BlockFrame 2 s (closeOrder c st b s) :=
  (modTac c _ s).trans (mirrorOrder c _)

/-- An order closes with its CANCEL placed (R97). -/
theorem cancelOrder (c : Carrier) (o : OpenOrder) (st : OrderState) (b : Nat) (s : State) :
    BlockFrame 2 s (Machine.closeOrder c st b (placeCancel c o s)) :=
  (placeMessage 2 _ _ s).trans (closeOrder c st b _)

theorem takeTarget (c : Carrier) (t : Nat) (s : State) : BlockFrame 2 s (takeTarget c t s) :=
  (modTac c _ s).trans (placeNotice 2 _ _)

theorem closeOnTimebaseLoss {c : Carrier} {s : State} (hl : s.link c ≠ .disabled) :
    BlockFrame 2 s (closeOnTimebaseLoss c s) := by
  unfold Machine.closeOnTimebaseLoss
  split
  · exact refl 2 s
  · rename_i o _
    have h := cancelOrder c o .steady 0 s
    exact ite (modTacStats (ite (h.trans (emit 2 _ _)) h) hl _) (refl 2 s)

theorem countBackoff (c : Carrier) (s : State) : BlockFrame 2 s (countBackoff c s) := by
  unfold Machine.countBackoff
  simp only
  exact ite (ite ((modTac c _ s).trans (closeOrder c _ _ _)) (modTac c _ s)) (refl 2 s)

theorem switchOrder {c : Carrier} {s : State} (hl : s.link c ≠ .disabled) (o : OpenOrder) :
    BlockFrame 2 s (switchOrder c o s) := by
  have h := ((clearPlace 2 (.t c) s).trans (closeOrder c .steady 0 _)).trans (takeTarget c o.target _)
  unfold Machine.switchOrder
  exact modTacStats (ite (h.trans (takeTarget _ _ _)) h) hl _

theorem switchAtEffect {c : Carrier} {s : State} (hl : s.link c ≠ .disabled) :
    BlockFrame 2 s (switchAtEffect c s) := by
  unfold Machine.switchAtEffect
  split
  · exact switchOrder hl _
  · exact refl 2 s

theorem deadline {c : Carrier} {s : State} (hl : s.link c ≠ .disabled) : BlockFrame 2 s (deadline c s) := by
  unfold Machine.deadline
  split
  · exact (modTacStats (cancelOrder c _ .backoff 2 s) hl _).trans (placeNotice 2 _ _)
  · exact refl 2 s

theorem armAtDeadline (c : Carrier) (s : State) : BlockFrame 2 s (armAtDeadline c s) := by
  unfold Machine.armAtDeadline
  split
  · exact ite (refl 2 s) (((emit 2 _ s).trans (modTac c _ _)).trans (mirrorOrder c _))
  · exact refl 2 s

theorem formTarget (c : Carrier) (s : State) : BlockFrame 2 s (formTarget c s) := by
  unfold Machine.formTarget
  simp only
  exact ite ((modTac c _ s).trans (modTac _ _ _)) (modTac c _ s)

theorem reverseUpshift {c : Carrier} {s : State} (hl : s.link c ≠ .disabled) :
    BlockFrame 2 s (reverseUpshift c s) := by
  unfold Machine.reverseUpshift
  simp only
  split
  · exact refl 2 s
  · exact ite (modTacStats (cancelOrder c _ .steady 0 s) hl _) (refl 2 s)

theorem openOrderWork {c : Carrier} {s : State} (hl : s.link c ≠ .disabled) :
    BlockFrame 2 s (openOrderWork c s) := by
  unfold Machine.openOrderWork
  simp only
  refine ite (modTacStats ?_ hl _) (refl 2 s)
  exact ((modTac c _ s).trans (mirrorOrder c _)).trans (placeMessage 2 _ _ _)

theorem applyPower {c : Carrier} {s : State} (hl : s.link c ≠ .disabled) : BlockFrame 2 s (applyPower c s) := by
  unfold Machine.applyPower
  simp only
  split
  · exact refl 2 s
  · exact ite (modTac c _ s) ((modTacStats (modTac c _ s) hl _).trans (emit 2 _ _))

/-- The steps of R100 one after the other, each at a carrier that is not DISABLED. -/
theorem orderBoundary {c : Carrier} {s : State} (hl : s.link c ≠ .disabled) : BlockFrame 2 s (orderBoundary c s) := by
  have enabled {u : State} (h : BlockFrame 2 s u) : u.link c ≠ .disabled := by rwa [h.link]
  have h2 := (closeOnTimebaseLoss hl).trans (countBackoff c _)
  have h3 := h2.trans (switchAtEffect (enabled h2))
  have h4 := h3.trans (deadline (enabled h3))
  have h6 := (h4.trans (armAtDeadline c _)).trans (formTarget c _)
  have h7 := h6.trans (reverseUpshift (enabled h6))
  exact h7.trans (openOrderWork (enabled h7))

end BlockFrame

theorem tacBoundary_block (c : Carrier) (s : State) : BlockFrame 2 s (tacBoundary c s) := by
  unfold tacBoundary
  split
  · have hl : s.link c ≠ .disabled := by simpa [State.enabled] using ‹s.enabled c = true›
    have h : BlockFrame 2 s (if s.isUpper c then s else orderBoundary c s) :=
      .ite (.refl 2 s) (.orderBoundary hl)
    exact h.trans (.applyPower (by rwa [h.link]))
  · exact .refl 2 s

theorem transmitWork_block (s : State) : BlockFrame 2 s (transmitWork s) := .foldl (fun u c => tacBoundary_block c u) _ s

/-! ### The transfer sender and the table store -/

theorem senderBoundary_block (s : State) : BlockFrame 3 s (senderBoundary s) :=
  ⟨(BlockFrame.of_same (senderBoundary_carriers s) (t := senderBoundary s) (s := { senderBoundary s with
    carriers := s.carriers }) rfl).carriers, senderBoundary_inRange⟩

theorem formMismatch_block (c : Carrier) (s : State) : BlockFrame 4 s (formMismatch c s) := by
  obtain ⟨a, b, p, e, -⟩ := formMismatch_spec c s
  rw [e]
  exact .of_one (c := c) rfl rfl { BlockKept.refl 4 (s.car c) with }

theorem takeApply_block (order : List Carrier) (entries : List Entry) (s : State) :
    BlockFrame 4 s (takeApply order entries s) :=
  (((BlockFrame.modTables 4 _ s).trans (.foldl (fun u c => formMismatch_block c u) order _)).trans
    (.modTables 4 _ _)).trans (.placeNotice 4 _ _)

theorem judgeApply_block (order : List Carrier) (s : State) : BlockFrame 4 s (judgeApply order s) := by
  unfold judgeApply
  split
  · exact .refl 4 s
  · exact .ite (.refl 4 s) (.ite ((BlockFrame.modTables 4 _ s).trans (.placeNotice 4 _ _)) (takeApply_block order _ s))

theorem applyBoundary_block (order : List Carrier) (s : State) : BlockFrame 4 s (applyBoundary order s) :=
  (BlockFrame.modTables 4 _ s).trans (judgeApply_block order _)

theorem blockAt_frame (order : AlarmKind → List Carrier) (present : Four Bool) {n : Nat} (h : n < 5) (s : State) :
    WorkFrame s (blockAt order present n s) := by
  match n, h with
  | 0, _ => exact qualityWork_frame order present s
  | 1, _ => exact receiveWork_frame present s
  | 2, _ => exact transmitWork_frame s
  | 3, _ => exact senderBoundary_frame s
  | 4, _ => exact applyBoundary_frame _ s

/-- Each block's work is that of its place. -/
theorem blockAt_block (order : AlarmKind → List Carrier) (present : Four Bool) {n : Nat} (h : n < 5) (s : State) :
    BlockFrame n s (blockAt order present n s) := by
  match n, h with
  | 0, _ => exact qualityWork_block order present s
  | 1, _ => exact receiveWork_block present s
  | 2, _ => exact transmitWork_block s
  | 3, _ => exact senderBoundary_block s
  | 4, _ => exact applyBoundary_block _ s

end Sys2Proof.Machine
end

section
/-! SUPPORT. The ownership of the Pending Table, the sender's ranges, the save state and the clock: what each command
makes of them. -/

namespace Sys2Proof.Machine

/-! ### The items that the three laws speak of -/

/-- What the three laws speak of. -/
structure Books where
  reception : ReceiverState × Option Nat × Owner × Completeness
  sender : Sender
  save : SaveState × Option Byte × Bool
  clock : Nat × Nat × Nat

def State.books (s : State) : Books :=
  { reception := (s.receiver.state, s.receiver.id, s.tables.owner, s.tables.completeness), sender := s.sender
    save := (s.settings.saveState, s.settings.heldReply, s.port.delayed.isSome)
    clock := (s.timebase.period, s.timebase.sinceBoundary, s.timebase.due) }

/-- A reception runs with an id and the Pending Table INCOMPLETE under TRANSFER, or none runs. -/
def ReceptionLaw (s : State) : Prop :=
  (s.receiver.state = .receiving ↔ s.tables.owner = .transfer) ∧
  (s.receiver.state = .receiving ↔ s.receiver.id.isSome = true) ∧
  (s.tables.owner = .transfer → s.tables.completeness = .incomplete)

theorem transferLaw_iff (s : State) : TransferLaw s ↔ ReceptionLaw s ∧ s.sender.inRange := by
  unfold TransferLaw ReceptionLaw Sender.inRange
  tauto

/-- The laws of the transfer, the save and the clock together. -/
structure Bookkeeping (s : State) : Prop where
  reception : ReceptionLaw s
  sender : s.sender.inRange
  save : SaveLaw s
  time : TimeLaw s

theorem bookkeeping_iff (s : State) : Bookkeeping s ↔ TransferLaw s ∧ SaveLaw s ∧ TimeLaw s := by
  rw [transferLaw_iff]
  exact ⟨fun h => ⟨⟨h.reception, h.sender⟩, h.save, h.time⟩, fun ⟨⟨hr, hs⟩, hv, ht⟩ => ⟨hr, hs, hv, ht⟩⟩

theorem ReceptionLaw.of_books {s t : State} (l : ReceptionLaw s) (h : t.books.reception = s.books.reception) :
    ReceptionLaw t := by
  simp only [State.books, Prod.mk.injEq] at h
  obtain ⟨h1, h2, h3, h4⟩ := h
  unfold ReceptionLaw at *
  rwa [h1, h2, h3, h4]

theorem SaveLaw.of_books {s t : State} (l : SaveLaw s) (h : t.books.save = s.books.save) : SaveLaw t := by
  simp only [State.books, Prod.mk.injEq] at h
  obtain ⟨h1, h2, h3⟩ := h
  unfold SaveLaw at *
  rwa [h1, h2, h3]

theorem TimeLaw.of_books {s t : State} (l : TimeLaw s) (h : t.books.clock = s.books.clock) : TimeLaw t := by
  simp only [State.books, Prod.mk.injEq] at h
  obtain ⟨h1, h2, h3⟩ := h
  unfold TimeLaw at *
  rwa [h1, h2, h3]

/-- A change that touches none of the items keeps the laws. -/
theorem Bookkeeping.of_books {s t : State} (l : Bookkeeping s) (h : t.books = s.books) : Bookkeeping t where
  reception := l.reception.of_books (congrArg Books.reception h)
  sender := by rw [show t.sender = s.sender from congrArg Books.sender h]; exact l.sender
  save := l.save.of_books (congrArg Books.save h)
  time := l.time.of_books (congrArg Books.clock h)

/-- A change of the sender alone that keeps its ranges keeps the laws. -/
theorem Bookkeeping.of_sender {s t : State} (l : Bookkeeping s) (h : t.books = { s.books with sender := t.sender })
    (k : t.sender.inRange) : Bookkeeping t where
  reception := l.reception.of_books (by rw [h])
  sender := k
  save := l.save.of_books (by rw [h])
  time := l.time.of_books (by rw [h])

/-- A change of the reception alone that keeps its law keeps the laws. -/
theorem Bookkeeping.of_reception {s t : State} (l : Bookkeeping s)
    (h : t.books = { s.books with reception := t.books.reception }) (k : ReceptionLaw t) : Bookkeeping t where
  reception := k
  sender := by rw [show t.sender = s.sender from congrArg Books.sender h]; exact l.sender
  save := l.save.of_books (by rw [h])
  time := l.time.of_books (by rw [h])

/-- A change of the save alone that keeps its law keeps the laws. -/
theorem Bookkeeping.of_save {s t : State} (l : Bookkeeping s) (h : t.books = { s.books with save := t.books.save })
    (k : SaveLaw t) : Bookkeeping t where
  reception := l.reception.of_books (by rw [h])
  sender := by rw [show t.sender = s.sender from congrArg Books.sender h]; exact l.sender
  save := k
  time := l.time.of_books (by rw [h])

/-! ### The shared operations -/

/-- Work that keeps `WorkFrame` touches the sender at most. -/
theorem WorkFrame.books {s t : State} (h : WorkFrame s t) : t.books = { s.books with sender := t.sender } := by
  have hd : t.port.delayed = s.port.delayed := by rw [h.port]
  simp only [State.books, h.receiver, h.owner, h.completeness, h.settings, hd, h.timebase]

theorem WorkFrame.bookkeeping {s t : State} (h : WorkFrame s t) (l : Bookkeeping s)
    (k : s.sender.inRange → t.sender.inRange) : Bookkeeping t := l.of_sender h.books (k l.sender)

@[simp] theorem books_modCar (c : Carrier) (f : CarrierState → CarrierState) (s : State) :
    (modCar c f s).books = s.books := rfl
@[simp] theorem books_modEst (c : Carrier) (f : Estimator → Estimator) (s : State) :
    (modEst c f s).books = s.books := rfl
@[simp] theorem books_modRac (c : Carrier) (f : Rac → Rac) (s : State) : (modRac c f s).books = s.books := rfl
@[simp] theorem books_modTac (c : Carrier) (f : Tac → Tac) (s : State) : (modTac c f s).books = s.books := rfl
@[simp] theorem books_modLac (c : Carrier) (f : Lac → Lac) (s : State) : (modLac c f s).books = s.books := rfl
@[simp] theorem books_modSup (c : Carrier) (f : Supervisor → Supervisor) (s : State) :
    (modSup c f s).books = s.books := rfl
@[simp] theorem books_modStats (c : Carrier) (f : CarrierStats → CarrierStats) (s : State) :
    (modStats c f s).books = s.books := rfl
@[simp] theorem books_modRacStats (c : Carrier) (f : RacStats → RacStats) (s : State) :
    (modRacStats c f s).books = s.books := rfl
@[simp] theorem books_modTacStats (c : Carrier) (f : TacStats → TacStats) (s : State) :
    (modTacStats c f s).books = s.books := rfl
@[simp] theorem books_modLacStats (c : Carrier) (f : LacStats → LacStats) (s : State) :
    (modLacStats c f s).books = s.books := rfl
@[simp] theorem books_emit (d : Directive) (s : State) : (emit d s).books = s.books := rfl
@[simp] theorem books_clearPlace (p : Place) (s : State) : (clearPlace p s).books = s.books := rfl
@[simp] theorem books_placeMessage (p : Place) (m : LacMsg) (s : State) : (placeMessage p m s).books = s.books := rfl
@[simp] theorem books_modModem (f : ModemLink → ModemLink) (s : State) : (modModem f s).books = s.books := rfl
@[simp] theorem books_drawn (s : State) : (drawn s).books = s.books := rfl

@[simp] theorem books_placeNotice (n : Notice) (s : State) : (placeNotice n s).books = s.books := by
  rw [(placeNotice_frame n s).books, placeNotice_sender]
  rfl

@[simp] theorem books_setWire (k : AlarmKind) (c : Carrier) (v : Bool) (s : State) :
    (setWire k c v s).books = s.books := by
  rw [(setWire_frame k c v s).books, setWire_sender]
  rfl

@[simp] theorem books_formMismatch (c : Carrier) (s : State) : (formMismatch c s).books = s.books := by
  simp [formMismatch]

@[simp] theorem books_mirrorOrder (c : Carrier) (s : State) : (mirrorOrder c s).books = s.books := by
  rw [mirrorOrder_only]
  rfl

@[simp] theorem books_closeOrder (c : Carrier) (st : OrderState) (b : Nat) (s : State) :
    (closeOrder c st b s).books = s.books := by
  simp [closeOrder]

/-- A change of the port that leaves the delayed reply alone touches none of the items. -/
theorem books_modPort {f : Port → Port} {s : State} (h : (f s.port).delayed = s.port.delayed) :
    (modPort f s).books = s.books := by
  simp only [State.books, modPort_receiver, modPort_tables, modPort_sender, modPort_settings, modPort_timebase,
    modPort_port, h]

@[simp] theorem books_reply (f : Frame) (body : List Byte) (s : State) : (reply f body s).books = s.books :=
  books_modPort rfl

@[simp] theorem books_dequeue (s : State) : (dequeue s).books = s.books := books_modPort rfl

/-! ### The Supervisor's entries -/

theorem haltedEntry_inRange (c : Carrier) (cause : HaltCause) {s : State} (h : s.sender.inRange) :
    (haltedEntry c cause s).sender.inRange := by
  obtain ⟨⟨-, -, follows, -⟩, -⟩ := haltedEntry_spec c cause s
  exact follows.inRange h

theorem enterActive_inRange (c : Carrier) {s : State} (h : s.sender.inRange) : (enterActive c s).sender.inRange :=
  senderFollowsLinks_inRange (by simpa using h)

theorem enterQuiet_inRange (c : Carrier) {s : State} (h : s.sender.inRange) : (enterQuiet c s).sender.inRange :=
  senderFollowsLinks_inRange (by simpa [modSupStats] using h)

theorem enterSeeking_inRange (c : Carrier) {s : State} (h : s.sender.inRange) : (enterSeeking c s).sender.inRange :=
  senderFollowsLinks_inRange (by simpa using h)

theorem supervise_inRange (c : Carrier) {s : State} (h : s.sender.inRange) : (supervise c s).sender.inRange := by
  have hu : (modSup c Supervisor.counted s).sender.inRange := h
  unfold supervise
  simp only
  split
  · exact haltedEntry_inRange c _ hu
  · split
    · exact enterQuiet_inRange c hu
    · split
      · exact haltedEntry_inRange c _ hu
      · split
        · exact enterSeeking_inRange c hu
        · split
          · exact haltedEntry_inRange c _ hu
          · exact hu

theorem haltedEntry_books (c : Carrier) (cause : HaltCause) {s : State} (h : Bookkeeping s) :
    Bookkeeping (haltedEntry c cause s) := (haltedEntry_frame c cause s).bookkeeping h (haltedEntry_inRange c cause)

theorem disabledEntry_books (c : Carrier) {s : State} (h : Bookkeeping s) : Bookkeeping (disabledEntry c s) := by
  refine (disabledEntry_frame c s).bookkeeping (h.of_books rfl) fun k => ?_
  obtain ⟨⟨-, -, pair, alone⟩, -⟩ := disabledEntry_spec c s
  by_cases ht : TakesPartner s c
  · exact (pair ht).1.inRange k
  · exact (alone ht).1.inRange k

theorem enterActive_books (c : Carrier) {s : State} (h : Bookkeeping s) : Bookkeeping (enterActive c s) :=
  (enterActive_frame c s).bookkeeping h (enterActive_inRange c)

/-! ### The boundary and the clock -/

/-- A boundary keeps the sender's ranges, wherever the Supervisor's work falls. -/
theorem boundaryWith_inRange (place : Carrier → Nat) (order : AlarmKind → List Carrier) {s : State}
    (h : s.sender.inRange) : (boundaryWith place order s).sender.inRange := by
  have start : (startBoundary s).sender.inRange := by
    refine List.foldlRecOn allCarriers _ (motive := fun u : State => u.sender.inRange) h fun u hu c _ => ?_
    unfold closeSuperframe
    split <;> exact hu
  obtain ⟨_, k⟩ := boundaryWith_induction place order s (fun _ _ x => x.1.sender.inRange) start
    (fun n T c x _ hx => by
      unfold superviseOnce
      split
      · exact hx
      · exact supervise_inRange c hx)
    (fun n T x hn hx => (blockAt_block order s.presence hn x.1).sender hx)
  exact k

/-- A boundary keeps the transfer and save laws, and starts the time anew, so that the clock's law holds after it
whenever P is in range. -/
theorem boundary_books {s : State} (hr : ReceptionLaw s) (hx : s.sender.inRange) (hs : SaveLaw s)
    (hp : 1000 ≤ s.timebase.period ∧ s.timebase.period ≤ 20000) : Bookkeeping (boundary s) := by
  have start : Bookkeeping (clearRidden (beginSuperframe s)) :=
    ⟨hr, hx, hs, hp.1, hp.2, Nat.zero_le _⟩
  exact (boundaryWith_begun _ _ s).bookkeeping start fun _ => boundaryWith_inRange _ _ hx

theorem books_setTimebaseWire (v : Bool) (s : State) : (setTimebaseWire v s).books = s.books := by
  obtain ⟨a, b, p, e, n⟩ := setTimebaseWire_spec v s
  have hd : p.delayed = s.port.delayed := by rw [n]
  rw [e]
  simp only [State.books, hd]

/-- The laws but for the clock, with P in range. -/
structure ClockedBooks (s : State) : Prop where
  reception : ReceptionLaw s
  sender : s.sender.inRange
  save : SaveLaw s
  period : 1000 ≤ s.timebase.period ∧ s.timebase.period ≤ 20000

theorem Bookkeeping.clocked {s : State} (h : Bookkeeping s) : ClockedBooks s :=
  ⟨h.reception, h.sender, h.save, h.time.1, h.time.2.1⟩

/-- A boundary at which the timebase has changed its state and its wire (R3, R4). -/
theorem boundaryAfterState_books (x : TimebaseState) (v : Bool) {s : State} (h : ClockedBooks s) :
    Bookkeeping (boundary (setTimebaseWire v (modTimebase (fun t => { t with state := x }) s))) := by
  have e := books_setTimebaseWire v (modTimebase (fun t => { t with state := x }) s)
  refine boundary_books (h.reception.of_books (congrArg Books.reception e :)) ?_
    (h.save.of_books (congrArg Books.save e :)) ?_
  · rw [show (setTimebaseWire v (modTimebase (fun t => { t with state := x }) s)).sender = s.sender from
      congrArg Books.sender e]
    exact h.sender
  · rw [setTimebaseWire_timebase]
    exact h.period

theorem internalBoundary_books {s : State} (h : ClockedBooks s) : Bookkeeping (internalBoundary s) := by
  unfold internalBoundary
  split
  · exact ⟨h.reception, h.sender, h.save, h.period.1, h.period.2, Nat.zero_le _⟩
  · exact boundary_books h.reception h.sender h.save h.period

/-- The timebase acts of its own as soon as the clock has reached the due instant, so the clock never passes it. -/
theorem actWhenDue_books {s : State} (h : ClockedBooks s) : Bookkeeping (actWhenDue s) := by
  by_cases hd : s.timebase.due ≤ s.timebase.sinceBoundary
  · cases hs : s.timebase.state with
    | external =>
      rw [(actWhenDue_due hd).1 hs]
      exact boundaryAfterState_books .internal true h
    | internal =>
      rw [(actWhenDue_due hd).2 hs]
      exact internalBoundary_books h
  · rw [actWhenDue_before (by omega)]
    exact ⟨h.reception, h.sender, h.save, h.period.1, h.period.2, by omega⟩

theorem tick_books {s : State} (h : Bookkeeping s) : Bookkeeping (tick s) := by
  unfold tick
  split
  · exact actWhenDue_books h.clocked
  · exact actWhenDue_books ⟨h.reception, h.sender, h.save, h.time.1, h.time.2.1⟩

/-- The clock moves at most to the due instant (log entry 2). -/
theorem advance_books (elapsed : Nat) {s : State} (h : Bookkeeping s) :
    Bookkeeping (modTimebase (Timebase.advance elapsed) s) := by
  refine ⟨h.reception, h.sender, h.save, h.time.1, h.time.2.1, ?_⟩
  show s.timebase.sinceBoundary + min elapsed (s.timebase.due - s.timebase.sinceBoundary) ≤ s.timebase.due
  have := h.time.2.2
  omega

theorem takeStrobe_books {s : State} (h : Bookkeeping s) : Bookkeeping (takeStrobe s) := by
  unfold takeStrobe
  split
  · exact boundaryAfterState_books .external false h.clocked
  · split
    · exact h.of_books rfl
    · exact boundary_books h.reception h.sender h.save h.clocked.period

/-! ### Resets and the start-up -/

theorem books_setStoreWire (v : Bool) (s : State) : (setStoreWire v s).books = s.books := by
  obtain ⟨a, b, p, e, n, -⟩ := formCollapsed_spec .store { s with alarms := { s.alarms with storeWire := v } }
  have hd : p.delayed = s.port.delayed := by rw [n]
  unfold setStoreWire
  rw [e]
  simp only [State.books, hd]

theorem startUp_books {s : State} (h : Bookkeeping s) : Bookkeeping (startUp s) := by
  have hw := h.of_books (books_setTimebaseWire true s)
  unfold startUp startCarriers
  refine List.foldlRecOn allCarriers _ (motive := Bookkeeping) ?_ fun u hu c _ => ?_
  · split
    · exact hw
    · exact hw.of_books (books_setStoreWire true _)
  · split
    · exact haltedEntry_books c _ hu
    · exact hu

/-- A part with no reception, its sender idle, no save and the clock at 0 meets the laws when P is in range. -/
theorem powerOn_books (s : State) : Bookkeeping (powerOn s) := by
  have with_ (i : Image) (valid : Bool) (nvm : List Byte) : Bookkeeping (powerOnWith i valid nvm s) :=
    { reception := by simp [ReceptionLaw, powerOnWith, Receiver.afterReset, TableStore.afterReset]
      sender := by simp [Sender.inRange, powerOnWith, Sender.afterReset]
      save := by simp [SaveLaw, powerOnWith, Port.afterReset]
      time := by simp [TimeLaw, powerOnWith, Timebase.afterReset] }
  unfold powerOn
  split <;> exact startUp_books (with_ _ _ _)

theorem resetBlocks_books {s : State} (h : Bookkeeping s) : Bookkeeping (resetBlocks s) := by
  have hp : 1000 ≤ (allCarriers.foldl (fun s c => closeFadeAtReset c s) s).timebase.period ∧
      (allCarriers.foldl (fun s c => closeFadeAtReset c s) s).timebase.period ≤ 20000 := by
    refine List.foldlRecOn allCarriers _ (motive := fun u : State => 1000 ≤ u.timebase.period ∧ u.timebase.period ≤ 20000)
      h.clocked.period fun u hu c _ => ?_
    unfold closeFadeAtReset
    split <;> exact hu
  exact
    { reception := by simp [ReceptionLaw, resetBlocks, blockReset, Receiver.afterReset, TableStore.afterReset]
      sender := by simp [Sender.inRange, resetBlocks, blockReset, Sender.afterReset]
      save := by simp [SaveLaw, resetBlocks, blockReset, abandonSave, Port.afterReset]
      time := ⟨hp.1, hp.2, Nat.zero_le _⟩ }

theorem restartEffect_books {s : State} (h : Bookkeeping s) : Bookkeeping (restartEffect s) :=
  startUp_books (resetBlocks_books h)

/-! ### Received slots -/

theorem books_takeToggle (c : Carrier) (s : State) : (takeToggle c s).books = s.books := by
  unfold takeToggle
  split <;> simp

theorem books_takeReport (c : Carrier) (r : Report) (s : State) : (takeReport c r s).books = s.books := by
  unfold takeReport
  simp only
  split <;> simp [books_takeToggle]

theorem books_takeFrameReport (carrier frameIndex flags snrA snrB rslA rslB : Byte) (s : State) :
    (takeFrameReport carrier frameIndex flags snrA snrB rslA rslB s).books = s.books := by
  unfold takeFrameReport attributeReport acceptReport
  split
  · rfl
  · split
    · split
      · rfl
      · split
        · rfl
        · rw [books_takeReport, books_modCar]
    · rfl

theorem books_setArmed (c : Carrier) (pair : Bool) (a : Option ArmedOrder) (s : State) :
    (setArmed c pair a s).books = s.books := by
  unfold setArmed
  simp only
  split <;> rfl

theorem books_takeOrder (c : Carrier) (id target : Nat) (pair : Bool) (s : State) :
    (takeOrder c id target pair s).books = s.books := by
  have accept (u : State) : (acceptOrder c id target pair u).books = u.books := by
    unfold acceptOrder
    simp only
    split
    · simp [books_setArmed]
    · split <;> simp [books_setArmed]
  unfold takeOrder
  simp only
  split
  · rfl
  · split <;> simp only [books_placeMessage, books_modRacStats, accept] <;> split <;> rfl

theorem books_takeCancel (c : Carrier) (id : Nat) (pair : Bool) (s : State) :
    (takeCancel c id pair s).books = s.books := by
  unfold takeCancel
  simp only
  split
  · rfl
  · split
    · rfl
    · split <;> simp [books_setArmed]

theorem books_takeConfirm (c : Carrier) (id target : Nat) (s : State) :
    (takeConfirm c id target s).books = s.books := by
  unfold takeConfirm lateResponse
  split
  · rfl
  · split
    · rfl
    · split
      · rfl
      · split
        · split <;> simp
        · rfl

theorem books_takeRefuse (c : Carrier) (id reason : Nat) (s : State) : (takeRefuse c id reason s).books = s.books := by
  unfold takeRefuse lateResponse
  split
  · rfl
  · split
    · rfl
    · split
      · rfl
      · split <;> simp

/-! ### The transfer -/

/-- No reception runs, and the Pending Table is the host's. -/
theorem receptionLaw_idle {s : State} (h1 : s.receiver.state = .idle) (h2 : s.receiver.id = none)
    (h3 : s.tables.owner = .host) : ReceptionLaw s := by
  simp [ReceptionLaw, h1, h2, h3]

/-- A reception runs with an id, and the Pending Table is claimed. -/
theorem receptionLaw_runs {s : State} {i : Nat} (h1 : s.receiver.state = .receiving) (h2 : s.receiver.id = some i)
    (h3 : s.tables.owner = .transfer) (h4 : s.tables.completeness = .incomplete) : ReceptionLaw s := by
  simp [ReceptionLaw, h1, h2, h3, h4]

theorem ReceptionLaw.idle {s : State} (h : ReceptionLaw s) (hs : s.receiver.state = .idle) :
    s.receiver.id = none ∧ s.tables.owner = .host := by
  obtain ⟨ho, hi, -⟩ := h
  refine ⟨?_, ?_⟩
  · simpa [hs] using hi
  · cases e : s.tables.owner with
    | host => rfl
    | transfer => simp [hs, e] at ho

theorem staleAtReceiver_books {s : State} (h : Bookkeeping s) : Bookkeeping (staleAtReceiver s) := h.of_books rfl

theorem staleAtSender_books {s : State} (h : Bookkeeping s) : Bookkeeping (staleAtSender s) :=
  h.of_sender rfl h.sender

/-- A reception concluded leaves the Pending Table as it stands; it must be the host's by then. -/
theorem concludeReception_books (id result : Nat) {s : State} (h : Bookkeeping s) (ho : s.tables.owner = .host) :
    Bookkeeping (concludeReception id result s) := by
  have l : Bookkeeping (modReceiver (fun x => { x with
      state := .idle, id := none, next := 0, lastId := some id, lastResult := some result })
      (placeMessage .q (.tableResult id result) s)) :=
    h.of_reception rfl (receptionLaw_idle rfl rfl ho)
  exact l.of_books (books_placeNotice _ _)

/-- The end of a running reception: the Pending Table is released before the reception is concluded. -/
theorem endReception_books (id result : Nat) (x : Completeness) {s : State} (h : Bookkeeping s) :
    Bookkeeping (concludeReception id result (releasePending x s)) := by
  have l : Bookkeeping (modReceiver (fun y => { y with
      state := .idle, id := none, next := 0, lastId := some id, lastResult := some result })
      (placeMessage .q (.tableResult id result) (releasePending x s))) :=
    h.of_reception rfl (receptionLaw_idle rfl rfl rfl)
  exact l.of_books (books_placeNotice _ _)

theorem startReception_books (id : Nat) (e : Entry) {s : State} (h : Bookkeeping s) :
    Bookkeeping (startReception id e s) := h.of_reception rfl (receptionLaw_runs rfl rfl rfl rfl)

theorem refuseReception_owner (id : Nat) (s : State) : (refuseReception id s).tables.owner = .host := by
  have e : (refuseReception id s).tables = (releasePending .incomplete s).tables := by
    obtain ⟨p, e, -⟩ := placeNotice_spec (.tableEvent .receive outcomeRefused)
      (modReceiver (fun x => { x with
        state := .idle, id := none, next := 0, lastId := some id, lastResult := some outcomeRefused })
        (placeMessage .q (.tableResult id outcomeRefused) (releasePending .incomplete s)))
    unfold refuseReception concludeReception
    rw [e]
    rfl
  rw [e]
  rfl

/-- With no reception running with an id, the law leaves the receiver IDLE. -/
theorem ReceptionLaw.idle_of_not_running {s : State} (h : ReceptionLaw s)
    (hn : ∀ i, s.receiver.state = .receiving → s.receiver.id = some i → False) : s.receiver.state = .idle := by
  cases hs : s.receiver.state with
  | idle => rfl
  | receiving =>
    obtain ⟨i, hi⟩ := Option.isSome_iff_exists.1 (h.2.1.1 hs)
    exact (hn i hs hi).elim

theorem takeEntry_books (id index : Nat) (e : Entry) {s : State} (h : Bookkeeping s) :
    Bookkeeping (takeEntry id index e s) := by
  unfold takeEntry
  split
  · split
    · split
      · exact h.of_books rfl
      · exact h.of_books rfl
    · split
      · exact staleAtReceiver_books h
      · split
        · exact startReception_books id e h
        · exact concludeReception_books _ _ (endReception_books _ _ _ h) (refuseReception_owner _ s)
  · rename_i hn
    split
    · split
      · exact startReception_books id e h
      · exact concludeReception_books _ _ h (h.reception.idle (h.reception.idle_of_not_running fun i => hn i)).2
    · exact staleAtReceiver_books h

/-- The result of a whole table schedules an apply at most, which is none of the items. -/
theorem books_wholeTableResult (count : Nat) (s : State) : (wholeTableResult count s).2.books = s.books := by
  unfold wholeTableResult
  split
  · split <;> rfl
  · rfl

theorem owner_wholeTableResult (count : Nat) (s : State) :
    (wholeTableResult count s).2.tables.owner = s.tables.owner := by
  unfold wholeTableResult
  split
  · split <;> rfl
  · rfl

/-- After its release the Pending Table is the host's; until the reception is concluded its law does not hold, so the
conclusion is taken from the part as it was. -/
theorem takeEnd_books (id count : Nat) (check : Word16) {s : State} (h : Bookkeeping s) :
    Bookkeeping (takeEnd id count check s) := by
  unfold takeEnd
  split
  · rename_i i _ _
    split
    · split
      · have he := books_wholeTableResult count (releasePending .complete s)
        have ho := owner_wholeTableResult count (releasePending .complete s)
        generalize wholeTableResult count (releasePending .complete s) = r at he ho ⊢
        have l : Bookkeeping (modReceiver (fun x => { x with
            state := .idle, id := none, next := 0, lastId := some i, lastResult := some r.1 })
            (placeMessage .q (.tableResult i r.1) r.2)) :=
          { reception := receptionLaw_idle rfl rfl ho
            sender := by
              show r.2.sender.inRange
              rw [show r.2.sender = s.sender from congrArg Books.sender he]
              exact h.sender
            save := h.save.of_books (congrArg Books.save he :)
            time := h.time.of_books (congrArg Books.clock he :) }
        exact l.of_books (books_placeNotice _ _)
      · exact endReception_books _ _ _ h
    · exact staleAtReceiver_books h
  · split
    · split
      · exact h.of_books rfl
      · exact staleAtReceiver_books h
    · exact staleAtReceiver_books h

theorem takeAbort_books (id : Nat) {s : State} (h : Bookkeeping s) : Bookkeeping (takeAbort id s) := by
  unfold takeAbort
  split
  · have l : Bookkeeping (modReceiver (fun x => { x with
        state := .idle, id := none, next := 0, lastId := some id, lastResult := none })
        (clearPlace .q (releasePending .incomplete s))) := h.of_reception rfl (receptionLaw_idle rfl rfl rfl)
    exact l.of_books (books_placeNotice _ _)
  · exact staleAtReceiver_books h

theorem noWait_inRange {x : Sender} (h : x.inRange) {y : Sender} (hr : y.retry ≤ x.retry) (hw : y.wait = none)
    (hi : y.id = x.id) : y.inRange :=
  ⟨hr.trans h.1, fun w e => by simp [hw] at e, hi ▸ h.2.2⟩

theorem takeAck_books (id k : Nat) {s : State} (h : Bookkeeping s) : Bookkeeping (takeAck id k s) := by
  unfold takeAck
  split
  · exact h
  · split
    · split
      · exact h.of_sender rfl (noWait_inRange h.sender (Nat.zero_le _) rfl rfl)
      · exact h.of_sender rfl (noWait_inRange h.sender (Nat.zero_le _) rfl rfl)
    · exact staleAtSender_books h
  · exact staleAtSender_books h

theorem takeResult_books (id outcome : Nat) {s : State} (h : Bookkeeping s) : Bookkeeping (takeResult id outcome s) := by
  unfold takeResult
  split
  · exact h
  · split
    · have l : Bookkeeping (clearPlace .s (modSender (fun x => { x with
          state := .done, last := some outcome, wait := none }) s)) :=
        h.of_sender rfl (noWait_inRange h.sender (Nat.le_refl _) rfl rfl)
      exact l.of_books (books_placeNotice _ _)
    · exact staleAtSender_books h

theorem dispatch_books (c : Carrier) (part : SlotPart) {s : State} (h : Bookkeeping s) :
    Bookkeeping (dispatch c part s) := by
  match part with
  | .empty => exact h
  | .badEntry => exact staleAtReceiver_books h
  | .unknown => exact h.of_books rfl
  | .message (.order _ _ _ _) => exact h.of_books (books_takeOrder _ _ _ _ s)
  | .message (.cancel _ _ _) => exact h.of_books (books_takeCancel _ _ _ s)
  | .message (.confirm _ _ _) => exact h.of_books (books_takeConfirm _ _ _ s)
  | .message (.refuse _ _ _) => exact h.of_books (books_takeRefuse _ _ _ s)
  | .message (.tableEntry _ _ _) => exact takeEntry_books _ _ _ h
  | .message (.tableEnd _ _ _) => exact takeEnd_books _ _ _ h
  | .message (.tableAbort _) => exact takeAbort_books _ h
  | .message (.tableAck _ _) => exact takeAck_books _ _ h
  | .message (.tableResult _ _) => exact takeResult_books _ _ h

theorem takeReceipt_books (c : Carrier) (peer : LinkState) {s : State} (h : Bookkeeping s) :
    Bookkeeping (takeReceipt c peer s) := by
  have hu : Bookkeeping (modSup c (fun x => { x with miss := 0 }) s) := h.of_books rfl
  unfold takeReceipt
  simp only
  split
  · exact hu
  · exact hu
  · exact enterActive_books c (hu.of_books rfl)
  · split
    · exact haltedEntry_books c _ hu
    · exact hu
  · split
    · exact haltedEntry_books c _ hu
    · exact enterActive_books c hu

theorem takeSlot_books (c : Carrier) (octets : List Byte) {s : State} (h : Bookkeeping s) :
    Bookkeeping (takeSlot c octets s) := by
  have stages (slot : Slot) : Bookkeeping (takeSlotStages c slot s) := by
    have hr : Bookkeeping (takeReceipt c slot.link (takePeerRecords c slot s)) := takeReceipt_books c _ (h.of_books rfl)
    unfold takeSlotStages
    simp only
    split
    · exact hr.of_books rfl
    · refine dispatch_books c _ (hr.of_books ?_)
      simp [takeHeader]
  unfold takeSlot
  simp only
  split
  · exact h.of_books rfl
  · split
    · exact h.of_books rfl
    · exact h.of_books rfl
    · exact stages _
    · exact stages _
    · exact stages _

/-! ### Slot requests -/

theorem ride_books (m : Placed) {s : State} (h : Bookkeeping s) : Bookkeeping (ride m s) := by
  unfold ride
  simp only
  have l : Bookkeeping (if m.msg.isOrder = true then markRidden m.place s else clearPlace m.place s) := by
    split <;> exact h.of_books rfl
  generalize (if m.msg.isOrder = true then markRidden m.place s else clearPlace m.place s) = u at l ⊢
  split
  · refine l.of_sender rfl ?_
    show (if u.sender.running then { u.sender with wait := some 8 } else u.sender).inRange
    split
    · exact ⟨l.sender.1, fun w e => by simp at e; omega, l.sender.2.2⟩
    · exact l.sender
  · exact l

theorem serveSlotRequest_books (c : Carrier) {s : State} (h : Bookkeeping s) : Bookkeeping (serveSlotRequest c s) := by
  have sent (m : Option LacMsg) : Bookkeeping (sendSlot c m s) := h.of_books rfl
  have rides (m : Placed) : Bookkeeping
      (ride m (modLacStats c (LacStats.countSent m.msg.cls) (sendSlot c (some m.msg) s))) :=
    ride_books m ((sent (some m.msg)).of_books rfl)
  unfold serveSlotRequest
  split
  · exact h.of_books rfl
  · exact h.of_books rfl
  · exact sent none
  · split
    · exact sent none
    · exact rides _
  · split
    · exact sent none
    · exact rides _

theorem takeSlotIn_books (carrier : Byte) (octets : List Byte) {s : State} (h : Bookkeeping s) :
    Bookkeeping (takeSlotIn carrier octets s) := by
  unfold takeSlotIn
  split
  · exact h.of_books rfl
  · exact takeSlot_books _ _ h

theorem takeSlotRequest_books (carrier : Byte) {s : State} (h : Bookkeeping s) :
    Bookkeeping (takeSlotRequest carrier s) := by
  unfold takeSlotRequest
  split
  · exact h.of_books rfl
  · exact serveSlotRequest_books _ h

theorem takeRecord_books (record : List Byte) {s : State} (h : Bookkeeping s) : Bookkeeping (takeRecord record s) := by
  unfold takeRecord
  simp only
  split
  · exact h.of_books (books_takeFrameReport _ _ _ _ _ _ _ s)
  · exact takeSlotIn_books _ _ h
  · exact takeSlotRequest_books _ h
  · exact h.of_books rfl

/-! ### The Management Port -/

theorem receiveOctet_delayed (p : Port) (o : RxOctet) : (receiveOctet p o).delayed = p.delayed := by
  have hand (f : Frame) (q : Port) : (handOn f q).delayed = q.delayed := by
    unfold handOn
    split
    · rfl
    · split <;> rfl
  unfold receiveOctet
  simp only
  split
  · split <;> rfl
  · split
    · rfl
    · split <;> rfl
  · split
    · rfl
    · split <;> rfl
  · split <;> rfl
  · split
    · rfl
    · split
      · rfl
      · split
        · rw [hand]
        · rfl

theorem books_receiveOctets (octets : List RxOctet) (s : State) : (receiveOctets octets s).books = s.books := by
  refine books_modPort ?_
  exact List.foldlRecOn octets receiveOctet (motive := fun p => p.delayed = s.port.delayed) rfl
    fun p hp o _ => (receiveOctet_delayed p o).trans hp

/-- The service of a request keeps the laws when the rule that owns its kind does. -/
theorem serve_books {kind : Byte} {take : Frame → State → State}
    (k : ∀ f u, Bookkeeping u → Bookkeeping (take f u)) {s : State} (h : Bookkeeping s) :
    Bookkeeping (serve kind take s) := by
  unfold serve
  split
  · exact h
  · split
    · split
      · exact k _ _ (h.of_books (books_dequeue s))
      · exact h.of_books (by simp)
    · exact h

theorem startDelayed_books (d : Frame) {s : State} (h : Bookkeeping s) : Bookkeeping (startDelayed d s) :=
  h.of_save rfl (by simp [SaveLaw, startDelayed])

theorem startNext_books {s : State} (h : Bookkeeping s) : Bookkeeping (startNext s) := by
  unfold startNext
  split
  · exact h.of_books (books_modPort rfl)
  · split
    · split
      · exact startDelayed_books _ h
      · exact h.of_books (books_modPort rfl)
    · exact h.of_books (books_modPort rfl)
    · exact startDelayed_books _ h
    · split <;> exact h.of_books (books_modPort rfl)

/-! ### The requests -/

theorem takeSetTimebase_books (f : Frame) {s : State} (h : Bookkeeping s) : Bookkeeping (takeSetTimebase f s) := by
  have hr : Bookkeeping (reply f [statusOk] s) := h.of_books (books_reply _ _ s)
  unfold takeSetTimebase
  simp only
  split
  · rename_i hp
    exact actWhenDue_books ⟨hr.reception, hr.sender, hr.save, hp⟩
  · exact h.of_books (books_reply _ _ s)

theorem applyRecord_books (c : Carrier) (paired : Bool) (r : CarrierRecord) {s : State} (h : Bookkeeping s) :
    Bookkeeping (applyRecord c paired r s) := by
  have hp : Bookkeeping (putRecord c r (changePairing c paired s)) := by
    refine h.of_books ?_
    rw [changePairing_spec]
    rfl
  have hf : Bookkeeping (raiseFloor c (putRecord c r (changePairing c paired s))) := by
    refine hp.of_books ?_
    unfold raiseFloor
    simp only
    split
    · split <;> rfl
    · rfl
  unfold applyRecord followEnabled
  simp only
  split
  · exact haltedEntry_books c _ hf
  · split
    · exact disabledEntry_books c hf
    · exact hf

theorem takeSetCarrier_books (f : Frame) {s : State} (h : Bookkeeping s) : Bookkeeping (takeSetCarrier f s) := by
  unfold takeSetCarrier
  split
  · split
    · split
      · exact h.of_books (books_reply _ _ s)
      · exact (applyRecord_books _ _ _ h).of_books (books_reply _ _ _)
    · exact h.of_books (books_reply _ _ s)
  · exact h.of_books (books_reply _ _ s)

theorem takeRestartCarrier_books (f : Frame) {s : State} (h : Bookkeeping s) :
    Bookkeeping (takeRestartCarrier f s) := by
  unfold takeRestartCarrier
  split
  · exact h.of_books (books_reply _ _ s)
  · split
    · exact (haltedEntry_books _ _ h).of_books (books_reply _ _ _)
    · exact h.of_books (books_reply _ _ s)

theorem takeEnables_books (f : Frame) (change : BitVec 16 → BitVec 16) {s : State} (h : Bookkeeping s) :
    Bookkeeping (if carrierMaskInRange (natAt f.body 0) then
      reply f [statusOk] (changeEnables (natAt f.body 0) change s) else reply f [statusBadArgument] s) := by
  have e : (changeEnables (natAt f.body 0) change s).books = s.books := rfl
  split
  · exact h.of_books ((books_reply _ _ _).trans e)
  · exact h.of_books (books_reply _ _ s)

/-- WRITE_PROFILES makes the Pending Table COMPLETE under the host alone, so no reception is disturbed (R44). -/
theorem takeWriteProfiles_books (f : Frame) {s : State} (h : Bookkeeping s) : Bookkeeping (takeWriteProfiles f s) := by
  unfold takeWriteProfiles
  simp only
  split
  · split
    · exact h.of_books (books_reply _ _ s)
    · rename_i ho
      have l : Bookkeeping (modTables (fun t => { t with
          pending := writePlaces t.pending (natAt f.body 0)
            ((entriesAt f.body 2 ((f.body.length - 2) / 6)).map Prod.snd), completeness := .complete }) s) :=
        h.of_reception rfl ⟨h.reception.1, h.reception.2.1, fun e => absurd e ho⟩
      exact l.of_books (books_reply _ _ _)
  · exact h.of_books (books_reply _ _ s)

theorem takeApplyTable_books (f : Frame) {s : State} (h : Bookkeeping s) : Bookkeeping (takeApplyTable f s) := by
  unfold takeApplyTable
  split
  all_goals exact h.of_books (books_reply _ _ _)

theorem takePushTable_books (f : Frame) {s : State} (h : Bookkeeping s) : Bookkeeping (takePushTable f s) := by
  unfold takePushTable
  split
  · exact h.of_books (books_reply _ _ s)
  · split
    · split
      · split
        · exact h.of_books (books_reply _ _ s)
        · rename_i table _
          have l : Bookkeeping (startPush table s) := by
            refine h.of_sender rfl ⟨Nat.zero_le _, fun w e => by simp [startPush, placeEntry] at e, ?_⟩
            show (s.sender.id + 1) % 256 ≤ 255
            omega
          exact l.of_books (books_reply _ _ _)
      · exact h.of_books (books_reply _ _ s)
    · exact h.of_books (books_reply _ _ s)

theorem takeAbortPush_books (f : Frame) {s : State} (h : Bookkeeping s) : Bookkeeping (takeAbortPush f s) := by
  unfold takeAbortPush
  split
  · exact h.of_books (books_reply _ _ s)
  · have l : Bookkeeping (abortPush s) := h.of_sender rfl (noWait_inRange h.sender (Nat.le_refl _) rfl rfl)
    exact l.of_books (books_reply _ _ _)

theorem takeSetRemote_books (f : Frame) {s : State} (h : Bookkeeping s) : Bookkeeping (takeSetRemote f s) := by
  have set (write apply : Bool) : Bookkeeping (setRemote write apply s) := by
    unfold setRemote
    simp only
    split
    · split
      · exact h.of_books rfl
      · exact endReception_books _ _ _ (h.of_books rfl)
    · exact h.of_books rfl
  unfold takeSetRemote
  split
  · exact (set _ _).of_books (books_reply _ _ _)
  · exact h.of_books (books_reply _ _ s)

/-- A save starts from IDLE, where no delayed reply waits (R185). -/
theorem takeSaveSettings_books (f : Frame) {s : State} (h : Bookkeeping s) : Bookkeeping (takeSaveSettings f s) := by
  unfold takeSaveSettings
  split
  · rename_i hi
    refine h.of_save rfl ?_
    have hd : ¬ s.port.delayed.isSome = true := fun e => by
      have := h.save.2.2 e
      rw [hi] at this
      cases this
    simpa [SaveLaw] using hd
  · exact h.of_books (books_reply _ _ s)

theorem endWrite_books (readBack : List Byte) (tag : Byte) {s : State} (h : Bookkeeping s)
    (ht : s.settings.heldReply = some tag) : Bookkeeping (endWrite readBack tag s) := by
  unfold endWrite
  simp only
  obtain ⟨a, b, p, e, n, -⟩ := formCollapsed_spec .store { modSettings (fun x => { x with
    nvm := nvmAfterWrite (readBack == s.settings.writing) readBack, storeValid := readBack == s.settings.writing,
    saveState := .replying }) s with alarms := { s.alarms with storeWire := !(readBack == s.settings.writing) } }
  have e' : setStoreWire (!(readBack == s.settings.writing)) (modSettings (fun x => { x with
    nvm := nvmAfterWrite (readBack == s.settings.writing) readBack, storeValid := readBack == s.settings.writing,
    saveState := .replying }) s) = _ := e
  rw [e']
  exact h.of_save rfl (by simp [SaveLaw, modPort, modSettings, ht])

/-! ### The step -/

/-- What `running` guards keeps the laws when its effect does. -/
theorem running_books {g : State → State} {s t : State} (e : running g s = .next t) (h : Bookkeeping s)
    (k : ∀ u, Bookkeeping u → Bookkeeping (g u)) : Bookkeeping t := by
  unfold running at e
  split at e <;> cases e
  · exact h
  · exact k s h

/-- A request served by a rule that keeps the laws. -/
theorem runningServe_books {kind : Byte} {take : Frame → State → State} {s t : State}
    (e : running (serve kind take) s = .next t) (h : Bookkeeping s)
    (k : ∀ f u, Bookkeeping u → Bookkeeping (take f u)) : Bookkeeping t :=
  running_books e h fun _ hu => serve_books k hu

/-- Boundary work that a command names keeps the laws, whether its condition holds or not. -/
theorem runningWork_books {p : State → Bool} {g : State → State} {s t : State}
    (e : running (fun s => if p s then g s else s) s = .next t) (h : Bookkeeping s)
    (k : ∀ u, Bookkeeping u → Bookkeeping (g u)) : Bookkeeping t := by
  refine running_books e h fun u hu => ?_
  split
  · exact k u hu
  · exact hu

/-- Boundary work of one block keeps the laws. -/
theorem block_books {n : Nat} {s t : State} (hw : WorkFrame s t) (hb : BlockFrame n s t) (h : Bookkeeping s) :
    Bookkeeping t := hw.bookkeeping h hb.sender

theorem ackWaitExpired_books {s : State} (h : Bookkeeping s) : Bookkeeping (ackWaitExpired s) :=
  (ackWaitExpired_frame s).bookkeeping h ackWaitExpired_inRange

theorem enterQuiet_books (c : Carrier) {s : State} (h : Bookkeeping s) : Bookkeeping (enterQuiet c s) :=
  (enterQuiet_frame c s).bookkeeping h (enterQuiet_inRange c)

theorem enterSeeking_books (c : Carrier) {s : State} (h : Bookkeeping s) : Bookkeeping (enterSeeking c s) :=
  (enterSeeking_frame c s).bookkeeping h (enterSeeking_inRange c)

/-- Order work of one TAC moves no item. -/
theorem books_openOrderWork (c : Carrier) (s : State) : (openOrderWork c s).books = s.books := by
  unfold openOrderWork
  simp only
  split <;> simp

theorem books_formTarget (c : Carrier) (s : State) : (formTarget c s).books = s.books := by
  unfold formTarget
  simp only
  split <;> simp

theorem books_switchOrder (c : Carrier) (o : OpenOrder) (s : State) : (switchOrder c o s).books = s.books := by
  unfold switchOrder takeTarget
  simp only
  split <;> simp

theorem books_deadline (c : Carrier) (s : State) : (deadline c s).books = s.books := by
  unfold deadline
  split
  · simp [missDeadline, placeCancel]
  · rfl

theorem books_armAtDeadline (c : Carrier) (s : State) : (armAtDeadline c s).books = s.books := by
  unfold armAtDeadline
  split
  · split
    · rfl
    · simp [armOrder]
  · rfl

theorem books_judgeBranchLoss (c : Carrier) (s : State) : (judgeBranchLoss c s).books = s.books := by
  simp [judgeBranchLoss]

theorem execOrderSwitch_books (c : Carrier) {s t : State} (h : Bookkeeping s) (e : execOrderSwitch c s = .next t) :
    Bookkeeping t := by
  refine running_books e h fun u hu => ?_
  split
  · exact hu.of_books (by rw [books_openOrderWork, books_formTarget, books_switchOrder])
  · exact hu

/-- Every command keeps the laws. -/
theorem exec_books (i : Instr) {s t : State} (h : Bookkeeping s) (e : exec i s = .next t) : Bookkeeping t := by
  cases i with
  | powerOnReset =>
    cases e
    exact powerOn_books s
  | lineReset =>
    change execLineReset s = _ at e
    exact running_books e h fun _ hu => (resetBlocks_books hu).of_books rfl
  | resetRelease =>
    cases e
    split
    · exact startUp_books (h.of_books rfl)
    · exact h
  | restartTakesEffect =>
    change execRestartTakesEffect s = _ at e
    exact runningWork_books e h fun _ hu => restartEffect_books hu
  | sfsStrobe elapsed => exact running_books e (advance_books elapsed h) fun _ hu => takeStrobe_books hu
  | supervisionExpiry =>
    change execSupervisionExpiry s = _ at e
    refine running_books e h fun u hu => ?_
    split
    · exact boundaryAfterState_books .internal true hu.clocked
    · exact hu
  | internalBoundary =>
    cases e
    split
    · exact internalBoundary_books h.clocked
    · exact h
  | branchLoss c =>
    change execBranchLoss c s = _ at e
    exact runningWork_books e h fun u hu => hu.of_books (books_judgeBranchLoss c u)
  | backoffExpiry c =>
    change execBackoffExpiry c s = _ at e
    exact runningWork_books e h fun u hu => hu.of_books (by simp [books_openOrderWork, books_formTarget])
  | orderDeadline c =>
    change execOrderDeadline c s = _ at e
    exact runningWork_books e h fun u hu => hu.of_books (books_deadline c u)
  | armTx c =>
    change execArmTx c s = _ at e
    exact runningWork_books e h fun u hu => hu.of_books (books_armAtDeadline c u)
  | orderSwitch c => exact execOrderSwitch_books c h e
  | applyEffect =>
    change execApplyEffect s = _ at e
    exact runningWork_books e h fun u hu =>
      (block_books (applyBoundary_frame (u.wireOrder .mismatch) u) (applyBoundary_block _ u) hu).of_books rfl
  | quietEntry c =>
    change execQuietEntry c s = _ at e
    exact runningWork_books e h fun _ hu => enterQuiet_books c hu
  | lockLossHalt c =>
    change execLockLossHalt c s = _ at e
    exact runningWork_books e h fun _ hu => haltedEntry_books c _ hu
  | silenceHalt c =>
    change execSilenceHalt c s = _ at e
    exact runningWork_books e h fun _ hu => haltedEntry_books c _ hu
  | holdoffExpiry c =>
    change execHoldoffExpiry c s = _ at e
    exact runningWork_books e h fun _ hu => enterSeeking_books c hu
  | seekTimeout c =>
    change execSeekTimeout c s = _ at e
    exact runningWork_books e h fun _ hu => haltedEntry_books c _ hu
  | ackWaitExpiry =>
    change execAckWaitExpiry s = _ at e
    exact runningWork_books e h fun _ hu => ackWaitExpired_books hu
  | recordCutShort newOctets =>
    change execRecordCutShort newOctets s = _ at e
    unfold execRecordCutShort at e
    split at e
    · exact running_books e h fun _ hu => hu.of_books rfl
    · cases e
  | inboundRecordDiscarded record =>
    change execInboundRecordDiscarded record s = _ at e
    unfold execInboundRecordDiscarded at e
    split at e
    · exact running_books e h fun _ hu => takeRecord_books record (hu.of_books rfl)
    · cases e
  | frameReport carrier frameIndex flags snrA snrB rslA rslB =>
    change execFrameReport carrier frameIndex flags snrA snrB rslA rslB s = _ at e
    exact running_books e h fun u hu => (hu.of_books rfl : Bookkeeping (recordTaken u)).of_books
      (books_takeFrameReport _ _ _ _ _ _ _ _)
  | slotIn carrier octets =>
    change execSlotIn carrier octets s = _ at e
    unfold execSlotIn at e
    split at e
    · exact running_books e h fun _ hu => takeSlotIn_books carrier octets (hu.of_books rfl)
    · cases e
  | slotRequest carrier =>
    change execSlotRequest carrier s = _ at e
    exact running_books e h fun _ hu => takeSlotRequest_books carrier (hu.of_books rfl)
  | frameGapTimeout =>
    change execFrameGapTimeout s = _ at e
    refine running_books e h fun u hu => hu.of_books (books_modPort ?_)
    split <;> rfl
  | badFrame octets => exact running_books e h fun u hu => hu.of_books (books_receiveOctets octets u)
  | requestFrame octets => exact running_books e h fun u hu => hu.of_books (books_receiveOctets octets u)
  | unknownKind =>
    change execUnknownKind s = _ at e
    refine running_books e h fun u hu => ?_
    split
    · exact hu
    · split
      · exact hu
      · exact hu.of_books (by simp)
  | frameTransmit =>
    change execFrameTransmit s = _ at e
    refine running_books e h fun u hu => ?_
    split
    · exact restartEffect_books hu
    · exact startNext_books hu
  | identify =>
    change execIdentify s = _ at e
    exact runningServe_books e h fun f u hu => hu.of_books (books_reply f _ u)
  | getStatus =>
    change execGetStatus s = _ at e
    refine runningServe_books e h fun f u hu => ?_
    have l : Bookkeeping (reply f (statusOk :: u.statusOctets) u) := hu.of_books (books_reply _ _ _)
    exact l.of_sender rfl l.sender
  | getStats =>
    refine runningServe_books e h fun f u hu => ?_
    unfold takeGetStats giveStats
    split
    · simp only
      split <;> exact hu.of_books (by simp)
    · exact hu.of_books (by simp)
  | setTimebase elapsed =>
    exact runningServe_books e (advance_books elapsed h) fun f _ hu => takeSetTimebase_books f hu
  | getCarrier =>
    refine runningServe_books e h fun f u hu => ?_
    unfold takeGetCarrier
    split <;> exact hu.of_books (by simp)
  | setCarrier => exact runningServe_books e h fun f _ hu => takeSetCarrier_books f hu
  | restartCarrier => exact runningServe_books e h fun f _ hu => takeRestartCarrier_books f hu
  | enableProfiles => exact runningServe_books e h fun f _ hu => takeEnables_books f _ hu
  | disableProfiles => exact runningServe_books e h fun f _ hu => takeEnables_books f _ hu
  | writeProfiles => exact runningServe_books e h fun f _ hu => takeWriteProfiles_books f hu
  | readProfiles =>
    refine runningServe_books e h fun f u hu => ?_
    unfold takeReadProfiles
    split
    · exact hu.of_books (by simp)
    · split <;> exact hu.of_books (by simp)
  | applyTable => exact runningServe_books e h fun f _ hu => takeApplyTable_books f hu
  | pushTable => exact runningServe_books e h fun f _ hu => takePushTable_books f hu
  | abortPush => exact runningServe_books e h fun f _ hu => takeAbortPush_books f hu
  | setRemote => exact runningServe_books e h fun f _ hu => takeSetRemote_books f hu
  | readFades =>
    refine runningServe_books e h fun f u hu => ?_
    unfold takeReadFades
    simp only
    split
    · exact hu.of_books (books_reply f (statusOk :: u.fades.octets (natAt f.body 0)) u :)
    · exact hu.of_books (by simp)
  | setNotices =>
    refine runningServe_books e h fun f u hu => ?_
    unfold takeSetNotices
    simp only
    split
    · exact hu.of_books ((books_reply _ _ _).trans rfl)
    · exact hu.of_books (by simp)
  | saveSettings => exact runningServe_books e h fun f _ hu => takeSaveSettings_books f hu
  | saveWriteEnd readBack =>
    change execSaveWriteEnd readBack s = _ at e
    refine running_books e h fun u hu => ?_
    split
    · exact endWrite_books readBack _ hu ‹_›
    · exact hu
  | restart =>
    exact runningServe_books e h fun f u hu => (hu.of_books (books_reply f [statusOk] u)).of_books (books_modPort rfl)

/-- Every step keeps the laws: the command at the front of the queue, or the microsecond that passes when none waits. -/
theorem step_books {s t : State} (h : Bookkeeping s) (e : step s = .next t) : Bookkeeping t := by
  unfold step at e
  cases hp : s.pending with
  | nil =>
    rw [hp] at e
    cases e
    exact tick_books h
  | cons i rest =>
    rw [hp] at e
    have hr : Bookkeeping { s with pending := rest } := h.of_books rfl
    exact exec_books i hr e

/-- Settles O12: the transfer's owner and ranges, the save and the clock, by cases on the command. -/
theorem stepKeepsBookkeeping : Obligations.StepKeepsBookkeeping := by
  intro s t hx hv ht e
  exact (bookkeeping_iff t).1 (step_books ((bookkeeping_iff s).2 ⟨hx, hv, ht⟩) e)

end Sys2Proof.Machine
end

section
/-! SUPPORT. The timebase's commands: idle steps, strobes, the supervision expiry, internal boundaries and SET_TIMEBASE;
and the commands that wait while RESET is held low. -/

namespace Sys2Proof.Machine

/-! ### A boundary that the timebase gives of its own -/

/-- Two changes of the timebase are one. -/
theorem modTimebase_modTimebase (f g : Timebase → Timebase) (s : State) :
    modTimebase g (modTimebase f s) = modTimebase (g ∘ f) s := rfl

/-- With RESET high the timebase, its due instant reached after a change of the clock, gives a boundary and is then
INTERNAL (R3, R5). -/
theorem actWhenDue_taken (f : Timebase → Timebase) {s : State}
    (hf : (f s.timebase).superframe = s.timebase.superframe ∧ (f s.timebase).period = s.timebase.period ∧
      (f s.timebase).rejected = s.timebase.rejected)
    (hd : (f s.timebase).due ≤ (f s.timebase).sinceBoundary) (hr : s.resetHeld = false) :
    BoundaryTaken s (actWhenDue (modTimebase f s)) ∧ (actWhenDue (modTimebase f s)).timebase.state = .internal := by
  cases hs : (f s.timebase).state with
  | external =>
    rw [(actWhenDue_due (s := modTimebase f s) hd).1 hs]
    unfold superviseExpired
    rw [modTimebase_modTimebase]
    refine ⟨boundary_after_state _ true hf, ?_⟩
    simp [boundary, boundaryWith_timebase]
  | internal =>
    rw [(actWhenDue_due (s := modTimebase f s) hd).2 hs, (internalBoundary_cases (modTimebase f s)).1 hr]
    exact ⟨boundary_after_clock f hf, by simp [boundary, boundaryWith_timebase, hs]⟩

/-- While RESET is held low, at the due instant in INTERNAL the number alone advances (log entry 24). -/
theorem actWhenDue_held {s : State} (hd : s.timebase.due ≤ s.timebase.sinceBoundary) (hr : s.resetHeld = true)
    (hs : s.timebase.state = .internal) : actWhenDue s = { s with timebase := { s.timebase with
      superframe := s.timebase.superframe + 1, sinceBoundary := 0, atBoundary := true } } := by
  rw [(actWhenDue_due hd).2 hs, (internalBoundary_cases s).2 hr]
  rfl

theorem step_idle {s : State} (h : s.pending = []) : step s = .next (tick s) := by
  unfold step
  rw [h]

/-- An idle step moves the clock by one microsecond at most, and the timebase then acts when it is due. -/
theorem tick_eq (s : State) : ∃ f : Timebase → Timebase, tick s = actWhenDue (modTimebase f s) ∧
    f s.timebase = (if s.timebase.due ≤ s.timebase.sinceBoundary then s.timebase else { s.timebase with
      sinceBoundary := s.timebase.sinceBoundary + 1, atBoundary := false }) := by
  by_cases h : s.timebase.due ≤ s.timebase.sinceBoundary
  · refine ⟨id, ?_, by rw [if_pos h]; rfl⟩
    rw [tick, if_pos h]
    rfl
  · refine ⟨fun t => { t with sinceBoundary := t.sinceBoundary + 1, atBoundary := false }, ?_, by rw [if_neg h]⟩
    rw [tick, if_neg h]

/-- Settles O2, by whether the due instant is reached in this microsecond. -/
theorem idleStepPassesTime : Obligations.IdleStepPassesTime := by
  intro s hp
  rw [step_idle hp]
  refine ⟨fun h => ?_, fun h => ?_⟩
  · rw [tick, if_neg (by omega)]
    exact congrArg _ (actWhenDue_before h)
  · obtain ⟨f, hf, e⟩ := tick_eq s
    have due : (f s.timebase).due ≤ (f s.timebase).sinceBoundary := by
      rw [e]
      split
      · assumption
      · exact h
    rw [hf]
    refine ⟨fun hr => ⟨_, rfl, actWhenDue_taken f ?_ due hr⟩, fun hr hs => ?_⟩
    · rw [e]
      split <;> exact ⟨rfl, rfl, rfl⟩
    · refine congrArg _ ((actWhenDue_held (s := modTimebase f s) due hr ?_).trans ?_)
      · show (f s.timebase).state = .internal
        rw [e]
        split <;> exact hs
      · show { s with timebase := { f s.timebase with
            superframe := (f s.timebase).superframe + 1, sinceBoundary := 0, atBoundary := true } } = _
        rw [e]
        split <;> rfl

/-! ### SET_TIMEBASE -/

/-- Settles O21: P out of range is refused; else the clock is judged against the new P at once. -/
theorem setTimebaseGovernsAtOnce : Obligations.SetTimebaseGovernsAtOnce := by
  intro s f rest hi lo elapsed now limit hw hk hb hnow hdue hlimit
  subst hnow
  have clock : modTimebase (Timebase.advance elapsed) s = { s with timebase := { s.timebase with
      sinceBoundary := s.timebase.sinceBoundary + elapsed, atBoundary := s.timebase.atBoundary && elapsed == 0 } } := by
    unfold modTimebase
    rw [advance_within hdue]
  have hw' : Waiting (modTimebase (Timebase.advance elapsed) s) f rest := hw
  have hp : nat16At f.body 0 = 256 * hi.toNat + lo.toNat := by rw [hb]; rfl
  have served : exec (.setTimebase elapsed) s = .next (takeSetTimebase f { modTimebase (Timebase.advance elapsed) s with
      port := { s.port with queue := rest } }) :=
    serve_waiting hw' kindSetTimebase takeSetTimebase hk (by rw [hb]; rfl)
  rw [served, clock]
  refine ⟨fun hr => ?_, fun h1 h2 => ?_⟩
  · have e : ¬ (1000 ≤ nat16At f.body 0 ∧ nat16At f.body 0 ≤ 20000) := by omega
    simp only [takeSetTimebase, e, if_false]
    rfl
  · generalize 256 * hi.toNat + lo.toNat = P at hlimit hp h1 h2 ⊢
    simp only [takeSetTimebase, hp, h1, h2, and_self, if_true]
    have due : ({ s.timebase with
        sinceBoundary := s.timebase.sinceBoundary + elapsed, atBoundary := s.timebase.atBoundary && elapsed == 0
        period := P } : Timebase).due = limit := by
      unfold Timebase.due
      rw [hlimit]
      cases s.timebase.state <;> simp
    refine ⟨fun h => ?_, fun h => ⟨_, rfl, ?_⟩⟩
    · refine congrArg _ (actWhenDue_before (s := modTimebase (fun t => { t with period := P }) (reply f [statusOk] _)) ?_)
      exact Nat.lt_of_lt_of_eq h due.symm
    · obtain ⟨taken, internal⟩ := actWhenDue_taken
        (s := { s with timebase := { s.timebase with period := P }, port := s.answered f rest [0x00] })
        (fun t => { t with
          sinceBoundary := s.timebase.sinceBoundary + elapsed, atBoundary := s.timebase.atBoundary && elapsed == 0 })
        ⟨rfl, rfl, rfl⟩ (due.trans_le h) hw.1
      exact ⟨internal, taken⟩

/-! ### Commands while RESET is held low -/

/-- A command that a link can carry and that is neither a reset's end nor one that moves the clock is guarded by RESET:
it completes, and while RESET is held low it leaves the part as it is (log entry 24). -/
theorem exec_guarded (s : State) {i : Instr} (h : i.wellFormed = true) (h1 : i ≠ .powerOnReset)
    (h2 : i ≠ .resetRelease) (h3 : i ≠ .internalBoundary) (h4 : ∀ e, i ≠ .sfsStrobe e) (h5 : ∀ e, i ≠ .setTimebase e) :
    (s.resetHeld = true → exec i s = .next s) ∧ ∃ t, exec i s = .next t := by
  cases i
  case powerOnReset => exact absurd rfl h1
  case resetRelease => exact absurd rfl h2
  case internalBoundary => exact absurd rfl h3
  case sfsStrobe e => exact absurd rfl (h4 e)
  case setTimebase e => exact absurd rfl (h5 e)
  case recordCutShort o =>
    have e : exec (.recordCutShort o) s = running _ s := if_pos (by simpa [Instr.wellFormed] using h)
    exact e ▸ ⟨running_low _, running_completes _ s⟩
  case inboundRecordDiscarded o =>
    have e : exec (.inboundRecordDiscarded o) s = running _ s := if_pos (by simpa [Instr.wellFormed] using h)
    exact e ▸ ⟨running_low _, running_completes _ s⟩
  case slotIn c o =>
    have e : exec (.slotIn c o) s = running _ s := if_pos (by simpa [Instr.wellFormed] using h)
    exact e ▸ ⟨running_low _, running_completes _ s⟩
  all_goals
    simp only [exec]
    exact ⟨running_low _, running_completes _ s⟩

/-- Settles O4: the commands that RESET guards, and one by one those that it does not. -/
theorem commandsCompleteAndHeldPartWaits : Obligations.CommandsCompleteAndHeldPartWaits := by
  refine ⟨fun s i h => ?_, fun s i hr h h1 h2 h3 h4 h5 => (exec_guarded s h h1 h2 h3 h4 h5).1 hr, fun s elapsed hr h => ?_,
    fun s hr => ⟨fun hs => ?_, fun hs => ?_⟩⟩
  · by_cases h1 : i = .powerOnReset
    · exact h1 ▸ ⟨_, rfl⟩
    by_cases h2 : i = .resetRelease
    · exact h2 ▸ ⟨_, rfl⟩
    by_cases h3 : i = .internalBoundary
    · exact h3 ▸ ⟨_, rfl⟩
    by_cases h4 : ∃ e, i = .sfsStrobe e
    · obtain ⟨e, rfl⟩ := h4
      exact running_completes _ (modTimebase (Timebase.advance e) s)
    by_cases h5 : ∃ e, i = .setTimebase e
    · obtain ⟨e, rfl⟩ := h5
      exact running_completes _ (modTimebase (Timebase.advance e) s)
    exact (exec_guarded s h h1 h2 h3 (fun e he => h4 ⟨e, he⟩) fun e he => h5 ⟨e, he⟩).2
  · have moved : modTimebase (Timebase.advance elapsed) s = { s with timebase := { s.timebase with
        sinceBoundary := s.timebase.sinceBoundary + elapsed
        atBoundary := s.timebase.atBoundary && elapsed == 0 } } := by
      unfold modTimebase
      rw [advance_within h]
    have strobe : exec (.sfsStrobe elapsed) s = .next (modTimebase (Timebase.advance elapsed) s) := running_low _ hr
    have set : exec (.setTimebase elapsed) s = .next (modTimebase (Timebase.advance elapsed) s) := running_low _ hr
    exact ⟨strobe.trans set.symm, strobe.trans (congrArg _ moved)⟩
  · simp [exec, execInternalBoundary, hs, internalBoundary, hr, heldBoundary, modTimebase]
  · simp [exec, execInternalBoundary, hs]

end Sys2Proof.Machine
end

section
/-! SUPPORT. The start of a boundary at a carrier, and what one turn of the Supervisor makes of each carrier. -/

namespace Sys2Proof.Machine

/-! ### The start of a boundary -/

/-- A carrier whose superframe has been closed (R76, R77). -/
def CarrierState.closed (k : CarrierState) : CarrierState :=
  if k.sup.link = .disabled then { k with rac := { k.rac with lockSeen := false } }
  else { k with
    stats := k.stats.countSuperframe k.sup.link k.rac.current
    rac := k.rac.judgeLock k.est.minC.isSome }

theorem closeSuperframe_eq (c : Carrier) (s : State) : closeSuperframe c s = modCar c CarrierState.closed s := by
  unfold closeSuperframe modRac modCar CarrierState.closed
  by_cases h : (s.car c).sup.link = .disabled
  · simp [State.enabled, State.link, h]
  · simp [State.enabled, State.link, h]

/-- At the start of a boundary every carrier begins anew, its record in force, and closes its superframe. -/
theorem startBoundary_eq (s : State) : startBoundary s = { clearRidden (beginSuperframe s) with
    carriers := s.carriers.map fun k => k.startBoundary.closed } := by
  simp only [startBoundary, closeSuperframe_eq]
  rfl

theorem car_startBoundary (s : State) (c : Carrier) : (startBoundary s).car c = (s.car c).startBoundary.closed := by
  rw [startBoundary_eq]
  exact Four.get_map _ _ _

/-- The close of a superframe moves neither the Supervisor nor the TAC nor the estimator nor the fade. -/
theorem closed_keeps (k : CarrierState) :
    k.closed.sup = k.sup ∧ k.closed.tac = k.tac ∧ k.closed.est = k.est ∧ k.closed.fade = k.fade := by
  unfold CarrierState.closed
  split <;> exact ⟨rfl, rfl, rfl, rfl⟩

theorem link_startBoundary (s : State) (c : Carrier) : (startBoundary s).link c = s.link c := by
  rw [State.link, car_startBoundary, (closed_keeps _).1]
  rfl

/-- What the start of a boundary leaves of the device: the number and the clock alone, and the free values drawn. -/
theorem startBoundary_device (s : State) :
    (startBoundary s).timebase.state = s.timebase.state ∧ (startBoundary s).pairedA = s.pairedA ∧
      (startBoundary s).pairedB = s.pairedB := by
  rw [startBoundary_eq]
  exact ⟨rfl, rfl, rfl⟩

/-! ### The counts and tests of a turn -/

@[simp] theorem counted_link (x : Supervisor) : x.counted.link = x.link := by
  obtain ⟨link, _⟩ := x
  cases link <;> rfl

@[simp] theorem counted_record (x : Supervisor) : x.counted.record = x.record := by
  obtain ⟨link, _⟩ := x
  cases link <;> rfl

@[simp] theorem counted_inForce (x : Supervisor) : x.counted.inForce = x.inForce := by
  obtain ⟨link, _⟩ := x
  cases link <;> rfl

theorem counted_disabled {x : Supervisor} (h : x.link = .disabled) : x.counted = x := by
  simp only [Supervisor.counted, h]

theorem car_counted (c d : Carrier) (s : State) :
    (modSup c Supervisor.counted s).car d =
      if d = c then { s.car c with sup := (s.car c).sup.counted } else s.car d :=
  car_modCar c d _ s

theorem link_counted (c d : Carrier) (s : State) : (modSup c Supervisor.counted s).link d = s.link d := by
  rw [State.link, car_counted]
  split
  · rename_i h
    rw [h]
    exact counted_link _
  · rfl

/-- A carrier halts by its own test from SEEKING, ACTIVE or QUIET alone. -/
theorem haltsByTest_link {s : State} {c : Carrier} (h : s.haltsByTest c = true) :
    s.link c ≠ .halted ∧ s.link c ≠ .disabled := by
  unfold State.haltsByTest State.lockLost State.silenceHalts State.seekOver State.inService at h
  cases e : s.link c <;> simp [e] at h ⊢

/-! ### One turn -/

/-- A carrier in QUIET or SEEKING entry: its Supervisor, its wires and its Supervisor's counts. -/
theorem car_entered (l : AlarmKind) (v : Bool) (f : CarrierState → CarrierState) (c d : Carrier) (s : State) :
    (senderFollowsLinks (setWire l c v (modCar c f s))).car d =
      if d = c then { f (s.car c) with wires := (f (s.car c)).wires.set l v } else s.car d := by
  rw [car_senderFollowsLinks, car_setWire]
  simp only [car_modCar]
  split <;> simp_all

/-- The Supervisor's turn of a carrier, its counts taken: a HALTED entry by a test, or none. -/
theorem supervise_cases (c : Carrier) (s : State) :
    ((modSup c Supervisor.counted s).haltsByTest c = true →
      ∃ cause, supervise c s = haltedEntry c cause (modSup c Supervisor.counted s)) ∧
    ((modSup c Supervisor.counted s).haltsByTest c = false →
      supervise c s = modSup c Supervisor.counted s ∨
      (s.link c = .active ∧ supervise c s = enterQuiet c (modSup c Supervisor.counted s)) ∨
      (s.link c = .halted ∧ supervise c s = enterSeeking c (modSup c Supervisor.counted s))) := by
  have hl := link_counted c c s
  unfold supervise
  simp only
  generalize modSup c Supervisor.counted s = u at hl ⊢
  by_cases h1 : u.lockLost c = true
  · simp only [h1, if_true]
    exact ⟨fun _ => ⟨_, rfl⟩, fun h => by simp [State.haltsByTest, h1] at h⟩
  by_cases h2 : u.goesQuiet c = true
  · have ha : u.link c = .active := by
      simp only [State.goesQuiet, Bool.and_eq_true, beq_iff_eq] at h2
      exact h2.1.1
    have h3 : u.haltsByTest c = false := by simp [State.haltsByTest, h1, State.silenceHalts, State.seekOver, ha]
    simp only [h1, h2, h3, Bool.false_eq_true, if_false, if_true]
    exact ⟨fun h => absurd h (by simp), fun _ => .inr (.inl ⟨hl ▸ ha, trivial⟩)⟩
  by_cases h3 : u.silenceHalts c = true
  · simp only [h1, h2, h3, if_true]
    exact ⟨fun _ => ⟨_, rfl⟩, fun h => by simp [State.haltsByTest, h3] at h⟩
  by_cases h4 : u.holdoffOver c = true
  · have ha : u.link c = .halted := by
      simp only [State.holdoffOver, Bool.and_eq_true, beq_iff_eq] at h4
      exact h4.1
    have h5 : u.haltsByTest c = false := by simp [State.haltsByTest, h1, h3, State.seekOver, ha]
    simp only [h1, h2, h3, h4, h5, Bool.false_eq_true, if_false, if_true]
    exact ⟨fun h => absurd h (by simp), fun _ => .inr (.inr ⟨hl ▸ ha, trivial⟩)⟩
  by_cases h5 : u.seekOver c = true
  · simp only [h1, h2, h3, h4, h5, if_true]
    exact ⟨fun _ => ⟨_, rfl⟩, fun h => by simp [State.haltsByTest, h5] at h⟩
  · simp only [h1, h2, h3, h4, h5]
    exact ⟨fun h => by simp [State.haltsByTest, h1, h3, h5] at h, fun _ => .inl rfl⟩

/-- A carrier after its own turn without a HALTED entry: its link state may have moved to QUIET or SEEKING, and nothing
else moves but the Supervisor's counts and the wires. -/
structure TurnKept (k k' : CarrierState) : Prop where
  est : k'.est = k.est
  rac : k'.rac = k.rac
  tac : k'.tac = k.tac
  fade : k'.fade = k.fade
  stats : k'.stats = { k.stats with sup := k'.stats.sup }
  link : k'.sup.link = k.sup.link ∨ (k.sup.link = .active ∧ k'.sup.link = .quiet) ∨
    (k.sup.link = .halted ∧ k'.sup.link = .seeking)
  disabled : k.sup.link = .disabled → k' = k

/-- The turn of a carrier at which its own test halts it, and with it an enabled partner of a pair (R137, R138). -/
theorem supervise_halts {c : Carrier} {s : State} (h : (modSup c Supervisor.counted s).haltsByTest c = true) :
    (∃ tHold upper x, CarrierHalted tHold upper x { s.car c with sup := (s.car c).sup.counted }
      ((supervise c s).car c)) ∧
    (TakesPartner s c → ∃ tHold upper x,
      CarrierHalted tHold upper x (s.car (partner c)) ((supervise c s).car (partner c))) ∧
    (∀ d, d ≠ c → (TakesPartner s c → d ≠ partner c) → (supervise c s).car d = s.car d) := by
  obtain ⟨cause, e⟩ := (supervise_cases c s).1 h
  obtain ⟨⟨own, -, -, pair, alone⟩, -⟩ := haltedEntry_spec c cause (modSup c Supervisor.counted s)
  have hp : TakesPartner (modSup c Supervisor.counted s) c ↔ TakesPartner s c := by
    unfold TakesPartner
    rw [link_counted]
    rfl
  rw [e]
  rw [car_counted, if_pos rfl] at own
  refine ⟨⟨_, _, _, own⟩, fun ht => ?_, fun d hd hn => ?_⟩
  · obtain ⟨other, -⟩ := pair (hp.2 ht)
    rw [car_counted, if_neg (partner_ne c)] at other
    exact ⟨_, _, _, other⟩
  · have hk : (modSup c Supervisor.counted s).car d = s.car d := by rw [car_counted, if_neg hd]
    by_cases ht : TakesPartner s c
    · exact ((pair (hp.2 ht)).2.1 d hd (hn ht)).trans hk
    · exact ((alone fun k => ht (hp.1 k)).1 d hd).trans hk

/-- The turn of a carrier that no test of its own halts: it alone moves, as `TurnKept` says. -/
theorem supervise_stays {c : Carrier} {s : State} (h : (modSup c Supervisor.counted s).haltsByTest c = false) :
    TurnKept (s.car c) ((supervise c s).car c) ∧ ∀ d, d ≠ c → (supervise c s).car d = s.car d := by
  rcases (supervise_cases c s).2 h with e | ⟨hl, e⟩ | ⟨hl, e⟩
  · rw [e]
    refine ⟨?_, fun d hd => by rw [car_counted, if_neg hd]⟩
    rw [car_counted, if_pos rfl]
    exact ⟨rfl, rfl, rfl, rfl, rfl, .inl (counted_link _), fun hd => by rw [counted_disabled hd]⟩
  · have car (d : Carrier) := car_entered .link true (fun k => { k with
      sup := { k.sup.counted with link := .quiet }
      stats := { k.stats with sup := { k.stats.sup with quietEntries := count32 k.stats.sup.quietEntries } } }) c d s
    have e' : enterQuiet c (modSup c Supervisor.counted s) = senderFollowsLinks (setWire .link c true (modCar c
        (fun k => { k with
          sup := { k.sup.counted with link := .quiet }
          stats := { k.stats with sup := { k.stats.sup with quietEntries := count32 k.stats.sup.quietEntries } } }) s)) := by
      simp [enterQuiet, modSupStats, modStats, modSup, modCar, State.setCar, State.car]
    rw [e, e']
    refine ⟨?_, fun d hd => by rw [car, if_neg hd]⟩
    rw [car, if_pos rfl]
    exact ⟨rfl, rfl, rfl, rfl, rfl, .inr (.inl ⟨hl, rfl⟩), fun hd => by cases hl.symm.trans hd⟩
  · have car (d : Carrier) := car_entered .link true (fun k => { k with
      sup := { k.sup.counted with
        link := .seeking, seek := ((modSup c Supervisor.counted s).govRecord c).tSeek, miss := 0 } }) c d s
    have e' : enterSeeking c (modSup c Supervisor.counted s) = senderFollowsLinks (setWire .link c true (modCar c
        (fun k => { k with
          sup := { k.sup.counted with
            link := .seeking, seek := ((modSup c Supervisor.counted s).govRecord c).tSeek, miss := 0 } }) s)) := by
      simp [enterSeeking, modSup, modCar, State.setCar, State.car]
    rw [e, e']
    refine ⟨?_, fun d hd => by rw [car, if_neg hd]⟩
    rw [car, if_pos rfl]
    exact ⟨rfl, rfl, rfl, rfl, rfl, .inr (.inr ⟨hl, rfl⟩), fun hd => by cases hl.symm.trans hd⟩

end Sys2Proof.Machine
end

section
/-! SUPPORT. With the timebase INTERNAL a boundary leaves no order open (R98); and what strobes, the supervision expiry
and internal boundaries do. -/

namespace Sys2Proof.Machine

/-! ### Work that opens no order -/

/-- Work of the TAC of `c` that opens no order: an order open after it was open before it, and the carriers outside the
position keep their TACs. -/
structure OpensNone (c : Carrier) (s t : State) : Prop where
  shrinks : ∀ d, (t.car d).tac.isOpen = true → (s.car d).tac.isOpen = true ∧ (t.car d).tac.order = (s.car d).tac.order
  others : ∀ d, d ≠ c → d ≠ partner c → (t.car d).tac = (s.car d).tac

namespace OpensNone

theorem of_same {c : Carrier} {s t : State} (h : t.carriers = s.carriers) : OpensNone c s t := by
  have e : ∀ d, t.car d = s.car d := fun d => by simp only [State.car, h]
  exact ⟨fun d hd => by rw [e] at hd ⊢; exact ⟨hd, rfl⟩, fun d _ _ => by rw [e]⟩

theorem refl (c : Carrier) (s : State) : OpensNone c s s := of_same rfl

theorem emit (c : Carrier) (d : Directive) (s : State) : OpensNone c s (emit d s) := of_same rfl

theorem trans {c : Carrier} {s t u : State} (h : OpensNone c s t) (g : OpensNone c t u) : OpensNone c s u where
  shrinks := fun d hd =>
    have k := g.shrinks d hd
    have l := h.shrinks d k.1
    ⟨l.1, k.2.trans l.2⟩
  others := fun d h1 h2 => (g.others d h1 h2).trans (h.others d h1 h2)

/-- What was closed stays closed. -/
theorem closed {c d : Carrier} {s t : State} (h : OpensNone c s t) (k : (s.car d).tac.isOpen = false) :
    (t.car d).tac.isOpen = false := by
  by_contra hd
  have := (h.shrinks d (by simpa using hd)).1
  simp [k] at this

/-- A change of a TAC of the position that moves neither the order's state nor the open order. -/
theorem modTac {c d : Carrier} {f : Tac → Tac} (hd : d = c ∨ d = partner c)
    (hf : ∀ t : Tac, (f t).state = t.state ∧ (f t).order = t.order) (s : State) : OpensNone c s (modTac d f s) := by
  refine ⟨fun e he => ?_, fun e h1 h2 => ?_⟩
  · by_cases h : e = d
    · subst h
      obtain ⟨hs, ho⟩ := hf (s.car e).tac
      rw [modTac_car_tac] at he ⊢
      exact ⟨by simpa only [Tac.isOpen, hs] using he, ho⟩
    · rw [Machine.modTac, car_modCar_other _ _ h] at he ⊢
      exact ⟨he, rfl⟩
  · have h : e ≠ d := by rcases hd with rfl | rfl <;> assumption
    rw [Machine.modTac, car_modCar_other _ _ h]

/-- A change of statistics. -/
theorem modTacStats (c d : Carrier) (f : TacStats → TacStats) (s : State) : OpensNone c s (modTacStats d f s) := by
  have e : ∀ x, ((Machine.modTacStats d f s).car x).tac = (s.car x).tac := fun x => modStats_car_tac d x _ s
  exact ⟨fun x hx => by rw [e] at hx ⊢; exact ⟨hx, rfl⟩, fun x _ _ => e x⟩

end OpensNone

/-- Closing an order closes that of the carrier, and of a pair also that of an enabled partner (R86). -/
theorem closeOrder_closes {c : Carrier} {s : State} (hu : s.isUpper c = false) {st : OrderState} (b : Nat)
    (hst : st = .steady ∨ st = .backoff) :
    OpensNone c s (closeOrder c st b s) ∧ ((closeOrder c st b s).car c).tac.isOpen = false ∧
      (s.paired c = true → s.link (partner c) ≠ .disabled →
        ((closeOrder c st b s).car (partner c)).tac.isOpen = false) := by
  obtain ⟨⟨own, copied, others⟩, -⟩ := closeOrder_spec hu st b
  have shut : ∀ t : Tac, t.state = st → t.isOpen = false := by
    intro t ht
    rcases hst with rfl | rfl <;> simp [Tac.isOpen, ht]
  have hc : ((closeOrder c st b s).car c).tac.isOpen = false := by
    rw [own]
    exact shut _ rfl
  have hd : ∀ d, d ≠ c → s.paired c = true → d = partner c → s.link d ≠ .disabled →
      ((closeOrder c st b s).car d).tac.isOpen = false := by
    intro d h1 h2 h3 h4
    rw [copied d h1 h2 h3 h4]
    exact shut _ rfl
  refine ⟨⟨fun d h => ?_, fun d h1 h2 => by rw [others d h1 (.inr (.inl h2))]⟩, hc,
    fun hp hl => hd _ (partner_ne c) hp rfl hl⟩
  by_cases e : d = c
  · rw [e, hc] at h
    cases h
  · by_cases k : s.paired c = true ∧ d = partner c ∧ s.link d ≠ .disabled
    · rw [hd d e k.1 k.2.1 k.2.2] at h
      cases h
    · have : s.paired c = false ∨ d ≠ partner c ∨ s.link d = .disabled := by
        by_contra hn
        simp only [not_or, Bool.not_eq_false, not_not] at hn
        exact k ⟨hn.1, hn.2.1, hn.2.2⟩
      rw [others d e this] at h ⊢
      exact ⟨h, rfl⟩

/-- No order is in a state that only an open order has. -/
theorem orderAt_closed {s : State} {c : Carrier} (h : (s.car c).tac.isOpen = false) {st : OrderState}
    (hst : st = .ordered ∨ st = .committed) (e : Word32) : s.orderAt c st e = none := by
  have hn : (s.car c).tac.state ≠ st := by
    intro k
    rcases hst with rfl | rfl <;> simp [Tac.isOpen, k] at h
  unfold State.orderAt
  split
  · rw [if_neg fun k => hn k.1]
  · rfl

theorem upper_position (c : Carrier) : upperOf c = c ∨ upperOf c = partner c := by
  revert c
  decide

/-- Step 1 with the timebase INTERNAL: an open order of the carrier closes, with its copy (R98). -/
theorem closeOnTimebaseLoss_closes {c : Carrier} {s : State} (hu : s.isUpper c = false)
    (hi : s.timebase.state = .internal) (ho : (s.car c).tac.isOpen = true → (s.car c).tac.order.isSome = true) :
    OpensNone c s (closeOnTimebaseLoss c s) ∧ ((closeOnTimebaseLoss c s).car c).tac.isOpen = false ∧
      ((s.car c).tac.isOpen = true → s.paired c = true → s.link (partner c) ≠ .disabled →
        ((closeOnTimebaseLoss c s).car (partner c)).tac.isOpen = false) := by
  by_cases h : (s.car c).tac.isOpen = true
  · obtain ⟨o, hoo⟩ := Option.isSome_iff_exists.1 (ho h)
    have ho' : (s.car c).tac.openOrder = some o := by simp [Tac.openOrder, h, hoo]
    obtain ⟨k1, k2, k3⟩ := closeOrder_closes (s := placeCancel c o s) hu 0 (.inl rfl)
    have e : ∃ u : State, u.carriers = (closeOrder c .steady 0 (placeCancel c o s)).carriers ∧
        closeOnTimebaseLoss c s = modTacStats c (fun x => { x with timebaseCancels := count32 x.timebaseCancels }) u := by
      simp only [closeOnTimebaseLoss, ho', hi, if_true]
      exact ⟨_, by split <;> rfl, rfl⟩
    obtain ⟨u, hc, e⟩ := e
    have l : OpensNone c (closeOrder c .steady 0 (placeCancel c o s)) (closeOnTimebaseLoss c s) := by
      rw [e]
      exact (OpensNone.of_same hc).trans (.modTacStats c c _ u)
    have k0 : OpensNone c s (placeCancel c o s) := .of_same rfl
    exact ⟨(k0.trans k1).trans l, l.closed k2, fun _ hp hl => l.closed (k3 hp hl)⟩
  · have ho' : (s.car c).tac.openOrder = none := by simp [Tac.openOrder, h]
    have e : closeOnTimebaseLoss c s = s := by simp only [closeOnTimebaseLoss, ho']
    rw [e]
    exact ⟨.refl c s, by simpa using h, fun k => absurd k h⟩

/-- Steps 2 to 8 open nothing at a carrier with no open order while the timebase is INTERNAL (R87, R98). -/
theorem orderSteps_openNone {c : Carrier} {s : State} (hu : s.isUpper c = false) (hi : s.timebase.state = .internal)
    (hc : (s.car c).tac.isOpen = false) :
    OpensNone c s (openOrderWork c (reverseUpshift c (formTarget c (armAtDeadline c (deadline c (switchAtEffect c
      (countBackoff c s))))))) := by
  have h2 : OpensNone c s (countBackoff c s) := by
    have m : OpensNone c s (modTac c (fun t => { t with backoff := t.backoff - 1 }) s) :=
      .modTac (.inl rfl) (by intro; exact ⟨rfl, rfl⟩) s
    unfold countBackoff
    simp only
    split
    · split
      · exact m.trans (closeOrder_closes (s := modTac c _ s) hu 0 (.inl rfl)).1
      · exact m
    · exact .refl c s
  have t2 := (countBackoff_frame c s).timebase
  have c2 := h2.closed hc
  generalize countBackoff c s = s2 at h2 t2 c2 ⊢
  have h3 : switchAtEffect c s2 = s2 := by simp only [switchAtEffect, orderAt_closed c2 (.inr rfl)]
  have h4 : deadline c s2 = s2 := by simp only [deadline, orderAt_closed c2 (.inl rfl)]
  have h5 : armAtDeadline c s2 = s2 := by simp only [armAtDeadline, orderAt_closed c2 (.inr rfl)]
  rw [h3, h4, h5]
  have h6 : OpensNone c s2 (formTarget c s2) := by
    have m (u : State) {d : Carrier} (hd : d = c ∨ d = partner c) (t : Nat) :
        OpensNone c u (modTac d (fun x => { x with target := t }) u) :=
        .modTac hd (by intro; exact ⟨rfl, rfl⟩) u
    have up : upperOf c = c ∨ upperOf c = partner c := upper_position c
    unfold formTarget
    simp only
    split
    · exact (m s2 (.inl rfl) _).trans (m _ up _)
    · exact m s2 (.inl rfl) _
  have t6 := (formTarget_frame c s2).timebase
  have c6 := h6.closed c2
  generalize formTarget c s2 = s6 at h6 t6 c6 ⊢
  have h7 : reverseUpshift c s6 = s6 := by
    have hn : (s6.car c).tac.state ≠ .ordered := fun k => by simp [Tac.isOpen, k] at c6
    unfold reverseUpshift
    simp only
    split
    · rfl
    · rw [if_neg fun k => hn k.1]
  have h8 : openOrderWork c s6 = s6 := by
    have hn : s6.mayOpen c = false := by simp [State.mayOpen, t6, t2, hi]
    simp [openOrderWork, hn]
  rw [h7, h8]
  exact h2.trans h6

theorem applyPower_openNone (c : Carrier) (s : State) : OpensNone c s (applyPower c s) := by
  have m (f : Tac → Tac) (hf : ∀ t : Tac, (f t).state = t.state ∧ (f t).order = t.order) :
      OpensNone c s (modTac c f s) := .modTac (.inl rfl) hf s
  unfold applyPower
  simp only
  split
  · exact .refl c s
  · split
    · exact m _ (by intro; exact ⟨rfl, rfl⟩)
    · exact ((m _ (by intro; exact ⟨rfl, rfl⟩)).trans (.modTacStats c c _ _)).trans (.emit c _ _)

/-- The TAC's work with the timebase INTERNAL opens nothing; that of a carrier that does order work closes its order and
the copy of an enabled partner (R86, R98). -/
theorem tacBoundary_closes {c : Carrier} {s : State} (hi : s.timebase.state = .internal)
    (ho : (s.car c).tac.isOpen = true → (s.car c).tac.order.isSome = true) :
    OpensNone c s (tacBoundary c s) ∧
      (s.isUpper c = false → s.link c ≠ .disabled → ((tacBoundary c s).car c).tac.isOpen = false ∧
        ((s.car c).tac.isOpen = true → s.paired c = true → s.link (partner c) ≠ .disabled →
          ((tacBoundary c s).car (partner c)).tac.isOpen = false)) := by
  unfold tacBoundary
  by_cases he : s.enabled c = true
  · rw [if_pos he]
    cases hu : s.isUpper c with
    | true => exact ⟨applyPower_openNone c s, fun h => by cases h⟩
    | false =>
      obtain ⟨k1, k2, k3⟩ := closeOnTimebaseLoss_closes hu hi ho
      have hf := closeOnTimebaseLoss_frame c s
      have hu' : (closeOnTimebaseLoss c s).isUpper c = false := by
        simp only [State.isUpper, State.paired, hf.pairedA, hf.pairedB] at hu ⊢
        exact hu
      have l : OpensNone c (closeOnTimebaseLoss c s) (applyPower c (orderBoundary c s)) :=
        (orderSteps_openNone hu' (by rw [hf.timebase, hi]) k2).trans (applyPower_openNone c _)
      exact ⟨k1.trans l, fun _ _ => ⟨l.closed k2, fun h hp hl => l.closed (k3 h hp hl)⟩⟩
  · rw [if_neg he]
    exact ⟨.refl c s, fun _ hl => absurd (by simpa [State.enabled] using hl) he⟩

/-! ### The TACs one after the other -/

/-- An open order is held by a carrier that is not DISABLED, and by an upper carrier only as the copy of its lower
carrier's; the carriers of `P`, and the copies of theirs, hold none any more. -/
def OrdersHeld (P : Set Carrier) (s : State) : Prop :=
  ∀ d, (s.car d).tac.isOpen = true →
    d ∉ P ∧ s.link d ≠ .disabled ∧ (s.car d).tac.order.isSome = true ∧
      (s.isUpper d = true → lowerOf d ∉ P ∧ (s.car (lowerOf d)).tac.isOpen = true)

theorem lowerOf_lowerOf (c : Carrier) : lowerOf (lowerOf c) = lowerOf c := by
  revert c
  decide

theorem isUpper_partner {s : State} {d : Carrier} (h : s.isUpper d = true) :
    s.paired d = true ∧ lowerOf d = partner d ∧ d ≠ lowerOf d := by
  simp only [State.isUpper, Bool.and_eq_true, bne_iff_ne] at h
  exact ⟨h.1, (lowerOf_eq_or d).resolve_left fun e => h.2 e.symm, h.2⟩

/-- The work of one TAC, its lower carrier's having been done before. -/
theorem tacBoundary_held {P : Set Carrier} {c : Carrier} {s : State} (hi : s.timebase.state = .internal)
    (hl : lowerOf c = c ∨ lowerOf c ∈ P) (h : OrdersHeld P s) : OrdersHeld (insert c P) (tacBoundary c s) := by
  obtain ⟨none, closes⟩ := tacBoundary_closes (c := c) hi fun ho => (h c ho).2.2.1
  have hb := tacBoundary_block c s
  have hf := tacBoundary_frame c s
  have hpair (d : Carrier) : (tacBoundary c s).paired d = s.paired d := by
    simp only [State.paired, hf.pairedA, hf.pairedB]
  have hup (d : Carrier) : (tacBoundary c s).isUpper d = s.isUpper d := by simp only [State.isUpper, hpair]
  intro d hd
  obtain ⟨hd', ho⟩ := none.shrinks d hd
  obtain ⟨h1, h2, h3, h4⟩ := h d hd'
  have hdc : d ≠ c := by
    rintro rfl
    by_cases hu : s.isUpper d = true
    · obtain ⟨-, -, hne⟩ := isUpper_partner hu
      exact (h4 hu).1 (hl.resolve_left fun e => hne e.symm)
    · rw [(closes (by simpa using hu) h2).1] at hd
      cases hd
  refine ⟨by simp [hdc, h1], by rwa [hb.link], by rwa [ho], fun hu => ?_⟩
  rw [hup] at hu
  obtain ⟨hp, hpar, -⟩ := isUpper_partner hu
  obtain ⟨k1, k2⟩ := h4 hu
  have hlc : lowerOf d ≠ c := by
    rintro rfl
    have hnu : s.isUpper (lowerOf d) = false := by
      simp [State.isUpper, lowerOf_lowerOf]
    have hpd : partner (lowerOf d) = d := by rw [hpar, partner_partner]
    have k := (closes hnu (h _ k2).2.1).2 k2 (by rw [hpar, paired_partner, hp])
    rw [hpd] at k
    rw [k h2] at hd
    cases hd
  refine ⟨by simp [hlc, k1], ?_⟩
  rw [none.others _ hlc fun e => hdc (by rw [← partner_partner c, ← e, hpar, partner_partner])]
  exact k2

/-- The TACs' work is that of the four carriers in increasing number (log entry 5). -/
theorem transmitWork_eq (s : State) :
    transmitWork s = tacBoundary 3 (tacBoundary 2 (tacBoundary 1 (tacBoundary 0 s))) := rfl

/-- Orders held with the timebase INTERNAL. -/
def OrdersHeldInternal (P : Set Carrier) (s : State) : Prop := s.timebase.state = .internal ∧ OrdersHeld P s

theorem tacBoundary_heldInternal {P : Set Carrier} (c : Carrier) {s : State} (h : OrdersHeldInternal P s)
    (hl : lowerOf c = c ∨ lowerOf c ∈ P) : OrdersHeldInternal (insert c P) (tacBoundary c s) :=
  ⟨by rw [(tacBoundary_frame c s).timebase, h.1], tacBoundary_held h.1 hl h.2⟩

/-- With the timebase INTERNAL no order is open after the TACs' work. -/
theorem transmitWork_closes {s : State} (h : OrdersHeldInternal ∅ s) (d : Carrier) :
    ((transmitWork s).car d).tac.isOpen = false := by
  have h0 := tacBoundary_heldInternal 0 h (.inl rfl)
  have h1 := tacBoundary_heldInternal 1 h0 (.inr (Set.mem_insert _ _))
  have h2 := tacBoundary_heldInternal 2 h1 (.inl rfl)
  have h3 := tacBoundary_heldInternal 3 h2 (.inr (Set.mem_insert _ _))
  have hall := mem_allCarriers d
  simp only [allCarriers, List.mem_cons, List.not_mem_nil, or_false] at hall
  rw [← transmitWork_eq] at h3
  generalize transmitWork s = t at h3 ⊢
  by_contra hd
  refine (h3.2 d (by simpa only [Bool.not_eq_false] using hd)).1 ?_
  simp only [Set.mem_insert_iff, Set.mem_empty_iff_false, or_false]
  tauto

/-! ### The whole boundary -/

/-- Where no carrier's TAC moves and no carrier changes its link state, orders stay held as they were. -/
theorem OrdersHeld.of_block {n : Nat} (hn : n ≠ 2) {s t : State} (h : OrdersHeld ∅ s) (hb : BlockFrame n s t)
    (hf : WorkFrame s t) : OrdersHeld ∅ t := by
  intro d hd
  have ht (e : Carrier) : (t.car e).tac = (s.car e).tac := (hb.carriers e).tac hn
  have hu : t.isUpper d = s.isUpper d := by simp only [State.isUpper, State.paired, hf.pairedA, hf.pairedB]
  rw [ht] at hd ⊢
  rw [ht, hb.link, hu]
  exact h d hd

theorem CarrierHalted.shut {tHold : Nat} {upper : Bool} {x : SupStats} {k k' : CarrierState}
    (h : CarrierHalted tHold upper x k k') : k'.tac.isOpen = false := by
  obtain ⟨-, -, ht, -⟩ := h
  rw [ht]
  rfl

/-- A turn of the Supervisor closes the orders of the carriers that it halts, of a pair both, and moves no other TAC. -/
theorem supervise_held (c : Carrier) {s : State} (h : OrdersHeld ∅ s) : OrdersHeld ∅ (supervise c s) := by
  have hf := supervise_frame c s
  have hup (d : Carrier) : (supervise c s).isUpper d = s.isUpper d := by
    simp only [State.isUpper, State.paired, hf.pairedA, hf.pairedB]
  intro d hd
  cases hh : (modSup c Supervisor.counted s).haltsByTest c with
  | true =>
    obtain ⟨⟨_, _, _, own⟩, pair, others⟩ := supervise_halts hh
    have hc : d ≠ c := by
      rintro rfl
      rw [own.shut] at hd
      cases hd
    have hp : TakesPartner s c → d ≠ partner c := by
      rintro ht rfl
      obtain ⟨_, _, _, other⟩ := pair ht
      rw [other.shut] at hd
      cases hd
    have e := others d hc hp
    rw [e] at hd
    obtain ⟨-, h2, h3, h4⟩ := h d hd
    refine ⟨Set.notMem_empty _, by rwa [State.link, e], by rwa [e], fun hu => ⟨Set.notMem_empty _, ?_⟩⟩
    rw [hup] at hu
    obtain ⟨hpd, hl, -⟩ := isUpper_partner hu
    have hlc : lowerOf d ≠ c := by
      rintro rfl
      have hd' : d = partner (lowerOf d) := by rw [hl, partner_partner]
      refine hp ⟨?_, by rwa [← hd']⟩ hd'
      rw [hl, paired_partner, hpd]
    rw [others _ hlc fun _ k => hc (by rw [← partner_partner c, ← k, hl, partner_partner])]
    exact (h4 hu).2
  | false =>
    obtain ⟨own, others⟩ := supervise_stays hh
    have tac (e : Carrier) : ((supervise c s).car e).tac = (s.car e).tac := by
      by_cases hc : e = c
      · rw [hc]
        exact own.tac
      · rw [others e hc]
    have link : s.link d ≠ .disabled → (supervise c s).link d ≠ .disabled := by
      intro k
      by_cases hc : d = c
      · subst hc
        rcases own.link with e | ⟨-, e⟩ | ⟨-, e⟩
        · rwa [State.link, e]
        · simp [State.link, e]
        · simp [State.link, e]
      · rwa [State.link, others d hc]
    rw [tac] at hd ⊢
    rw [tac, hup]
    obtain ⟨h1, h2, h3, h4⟩ := h d hd
    exact ⟨h1, link h2, h3, h4⟩

/-- A turn of the Supervisor opens no order. -/
theorem supervise_closed (c d : Carrier) {s : State} (h : (s.car d).tac.isOpen = false) :
    ((supervise c s).car d).tac.isOpen = false := by
  cases hh : (modSup c Supervisor.counted s).haltsByTest c with
  | true =>
    obtain ⟨⟨_, _, _, own⟩, pair, others⟩ := supervise_halts hh
    by_cases hc : d = c
    · exact hc ▸ own.shut
    · by_cases hp : TakesPartner s c ∧ d = partner c
      · obtain ⟨_, _, _, other⟩ := pair hp.1
        exact hp.2 ▸ other.shut
      · rwa [others d hc fun ht hd => hp ⟨ht, hd⟩]
  | false =>
    obtain ⟨own, others⟩ := supervise_stays hh
    by_cases hc : d = c
    · subst hc
      rwa [own.tac]
    · rwa [others d hc]

/-- The order laws leave an open order to a carrier in service, and to an upper carrier only as a copy (R86). -/
theorem ordersHeld_start {s : State} (h : OrderLaw s) : OrdersHeld ∅ (startBoundary s) := by
  have tac (d : Carrier) : ((startBoundary s).car d).tac = (s.car d).tac := by
    rw [car_startBoundary, (closed_keeps _).2.1]
    rfl
  obtain ⟨-, hA, hB⟩ := startBoundary_device s
  intro d hd
  have hup : (startBoundary s).isUpper d = s.isUpper d := by simp only [State.isUpper, State.paired, hA, hB]
  rw [tac] at hd ⊢
  obtain ⟨⟨hor, -, hbase⟩, hpair, -⟩ := h d
  have hin : s.inService d = true := by
    by_contra k
    have := (hbase (by simpa using k)).1
    simp [Tac.isOpen, this] at hd
  refine ⟨Set.notMem_empty _, ?_, by rw [hor, hd], fun hu => ⟨Set.notMem_empty _, ?_⟩⟩
  · rw [link_startBoundary]
    intro k
    simp [State.inService, k] at hin
  · rw [hup] at hu
    obtain ⟨hp, hl, -⟩ := isUpper_partner hu
    have hs : (s.car d).tac.state = (s.car (partner d)).tac.state := (hpair hp).1
    rw [tac, hl]
    simpa only [Tac.isOpen, hs] using hd

/-- With the timebase INTERNAL a boundary from a part that meets the order laws leaves no order open (R98). -/
theorem boundaryWith_closes (place : Carrier → Nat) (order : AlarmKind → List Carrier) {s : State}
    (hi : s.timebase.state = .internal) (h : OrdersHeld ∅ (startBoundary s)) (d : Carrier) :
    ((boundaryWith place order s).car d).tac.isOpen = false := by
  obtain ⟨_, -, k⟩ := boundaryWith_induction place order s
    (fun n _ x => x.1.timebase.state = .internal ∧
      if n ≤ 2 then OrdersHeld ∅ x.1 else ∀ d, (x.1.car d).tac.isOpen = false)
    ⟨by rw [(startBoundary_device s).1, hi], h⟩
    (fun n T c x _ ⟨ht, hx⟩ => by
      unfold superviseOnce
      split
      · exact ⟨ht, hx⟩
      · refine ⟨by rw [(supervise_frame c x.1).timebase]; exact ht, ?_⟩
        split
        · rw [if_pos ‹_›] at hx
          exact supervise_held c hx
        · rw [if_neg ‹_›] at hx
          exact fun d => supervise_closed c d (hx d))
    (fun n T x hn ⟨ht, hx⟩ => by
      have hb := blockAt_block order s.presence hn x.1
      have hf := blockAt_frame order s.presence hn x.1
      refine ⟨by show (blockAt order s.presence n x.1).timebase.state = _; rw [hf.timebase, ht], ?_⟩
      rcases Nat.lt_trichotomy n 2 with h2 | rfl | h2
      · rw [if_pos (by omega)] at hx ⊢
        exact hx.of_block (by omega) hb hf
      · rw [if_pos (by omega)] at hx
        rw [if_neg (by omega)]
        exact transmitWork_closes ⟨ht, hx⟩
      · rw [if_neg (by omega)] at hx ⊢
        intro d
        show ((blockAt order s.presence n x.1).car d).tac.isOpen = false
        rw [(hb.carriers d).tac (by omega)]
        exact hx d)
  exact k d

/-! ### Strobes, the supervision expiry and internal boundaries -/

/-- A boundary of a part whose clock alone has moved leaves the timebase's state and the TIMEBASE wire (R2, R5). -/
theorem boundary_clock (f : Timebase → Timebase) {s : State}
    (hf : (f s.timebase).superframe = s.timebase.superframe ∧ (f s.timebase).period = s.timebase.period ∧
      (f s.timebase).rejected = s.timebase.rejected) (hs : (f s.timebase).state = s.timebase.state) :
    BoundaryTaken s (boundary (modTimebase f s)) ∧
      (boundary (modTimebase f s)).timebase.state = s.timebase.state ∧
      (boundary (modTimebase f s)).alarms.timebaseWire = s.alarms.timebaseWire :=
  ⟨boundary_after_clock f hf, by simp [boundary, boundaryWith_timebase, hs], (boundaryWith_deviceWires _ _ _).1⟩

/-- A boundary at which the timebase has taken a state and its wire (R3, R4). -/
theorem boundary_state (f : Timebase → Timebase) (v : Bool) {s : State}
    (hf : (f s.timebase).superframe = s.timebase.superframe ∧ (f s.timebase).period = s.timebase.period ∧
      (f s.timebase).rejected = s.timebase.rejected) :
    BoundaryTaken s (boundary (setTimebaseWire v (modTimebase f s))) ∧
      (boundary (setTimebaseWire v (modTimebase f s))).timebase.state = (f s.timebase).state ∧
      (boundary (setTimebaseWire v (modTimebase f s))).alarms.timebaseWire = v :=
  ⟨boundary_after_state f v hf, by simp [boundary, boundaryWith_timebase],
    by simp [boundary, (boundaryWith_deviceWires _ _ _).1]⟩

/-- At the supervision expiry of a part that meets the order laws no order stays open (R98). -/
theorem superviseExpired_closes {s : State} (h : OrderLaw s) (d : Carrier) :
    ((superviseExpired s).car d).tac.isOpen = false := by
  obtain ⟨a, b, p, e, -⟩ := setTimebaseWire_spec true (modTimebase (fun t => { t with state := .internal }) s)
  unfold superviseExpired
  refine boundaryWith_closes _ _ (by simp) ?_ d
  rw [e]
  intro x hx
  have held := ordersHeld_start h x
  rw [startBoundary_eq] at hx held ⊢
  exact held hx

/-- Settles O20: strobes by the timebase state and the glitch test, then the two boundaries of the timebase's own. -/
theorem strobesAndOwnBoundaries : Obligations.StrobesAndOwnBoundaries := by
  refine ⟨fun s elapsed hr hd => ?_, fun s hr => ⟨fun hs => ?_, fun hs => ?_⟩⟩
  · have strobe : exec (.sfsStrobe elapsed) s = .next (takeStrobe (modTimebase (Timebase.advance elapsed) s)) :=
      running_high _ hr
    have adv := advance_within hd
    have kept : (s.timebase.advance elapsed).superframe = s.timebase.superframe ∧
        (s.timebase.advance elapsed).period = s.timebase.period ∧
        (s.timebase.advance elapsed).rejected = s.timebase.rejected ∧
        (s.timebase.advance elapsed).state = s.timebase.state := by
      rw [adv]
      exact ⟨rfl, rfl, rfl, rfl⟩
    obtain ⟨k1, k2, k3, k4⟩ := kept
    rw [strobe]
    refine ⟨fun hs hg => ?_, fun hs hg => ?_, fun hs => ?_⟩
    · have glitch : (s.timebase.advance elapsed).glitch = true := by simpa [adv, Timebase.glitch] using hg
      have e : takeStrobe (modTimebase (Timebase.advance elapsed) s) = modTimebase
          (fun t => { t with rejected := count16 t.rejected }) (modTimebase (Timebase.advance elapsed) s) := by
        simp [takeStrobe, k4, hs, glitch]
      rw [e, modTimebase_modTimebase]
      simp [modTimebase, adv, count16]
    · have glitch : (s.timebase.advance elapsed).glitch = false := by simpa [adv, Timebase.glitch] using hg
      obtain ⟨b1, b2, b3⟩ := boundary_clock (Timebase.advance elapsed) ⟨k1, k2, k3⟩ k4
      have e : takeStrobe (modTimebase (Timebase.advance elapsed) s) =
          boundary (modTimebase (Timebase.advance elapsed) s) := by simp [takeStrobe, k4, hs, glitch]
      exact ⟨_, rfl, e ▸ b1, e ▸ b2.trans hs, e ▸ b3⟩
    · have e : takeStrobe (modTimebase (Timebase.advance elapsed) s) =
          strobeInternal (modTimebase (Timebase.advance elapsed) s) := by simp [takeStrobe, k4, hs]
      obtain ⟨b1, b2, b3⟩ := boundary_state (s := s)
        (fun t => { t.advance elapsed with state := .external }) false ⟨k1, k2, k3⟩
      exact ⟨_, rfl, e ▸ b1, e ▸ b2, e ▸ b3⟩
  · have e : exec .supervisionExpiry s = .next (superviseExpired s) := by
      simp [exec, execSupervisionExpiry, running_high _ hr, hs]
    obtain ⟨b1, b2, b3⟩ := boundary_state (fun t => { t with state := .internal }) true (s := s) ⟨rfl, rfl, rfl⟩
    exact ⟨_, e, b1, b2, b3, superviseExpired_closes⟩
  · have e : exec .internalBoundary s = .next (boundary s) := by
      simp [exec, execInternalBoundary, hs, (internalBoundary_cases s).1 hr]
    obtain ⟨b1, b2, b3⟩ := boundary_clock id (s := s) ⟨rfl, rfl, rfl⟩ rfl
    exact ⟨_, e, b1, b2.trans hs, b3⟩

end Sys2Proof.Machine
end

section
/-! SUPPORT. Chapter 1 served record by record: which records are discarded, which frame reports are not taken, and
what a report that is taken makes of its carrier. -/

namespace Sys2Proof.Machine

/-! ### The octets of a report -/

/-- Three flag bits from one octet, the other five from another: the five are those of the other (R192). -/
theorem getLsbD_flags (high fl : Byte) {j : Nat} (h : j < 5) :
    ((high &&& 0xE0) ||| (fl &&& 0x1F)).getLsbD j = fl.getLsbD j := by
  obtain ⟨upper, lower⟩ : (0xE0#8).getLsbD j = false ∧ (0x1F#8).getLsbD j = true := by
    interval_cases j <;> decide
  simp [upper, lower]

/-- Flag bits 5..7 are not read (R192). -/
theorem conditionReport_flags (high i fl a b x y : Byte) :
    conditionReport i ((high &&& 0xE0) ||| (fl &&& 0x1F)) a b x y = conditionReport i fl a b x y := by
  simp only [conditionReport, getLsbD_flags high fl (show 0 < 5 by decide), getLsbD_flags high fl (show 1 < 5 by decide),
    getLsbD_flags high fl (show 2 < 5 by decide), getLsbD_flags high fl (show 3 < 5 by decide),
    getLsbD_flags high fl (show 4 < 5 by decide)]

/-- To mark a frame index as seen is to set its one bit (R9). -/
theorem withBit_true {n : Nat} (m : BitVec n) {i : Nat} (h : i < n) : withBit m i true = m ||| BitVec.twoPow n i := by
  refine BitVec.eq_of_getLsbD_eq fun j _ => ?_
  rw [getLsbD_withBit m i j true h]
  by_cases e : j = i
  · subst e
    simp [h]
  · simp [e, Ne.symm e]

/-! ### Records that are discarded -/

/-- A record discarded where none is being received any more (R7). -/
theorem discardRecord_taken (s : State) :
    discardRecord (recordTaken s) = { s with modem := { s.modem with
      discarded := min (s.modem.discarded + 1) 65535, partialRecord := [] } } := rfl

/-- Whatever a whole record brings for a carrier above 3, it is discarded (R7). -/
theorem takeFrameReport_above {carrier : Byte} (h : 4 ≤ carrier.toNat) (i fl a b x y : Byte) (s : State) :
    takeFrameReport carrier i fl a b x y s = discardRecord s := by
  simp [takeFrameReport, carrierOf_above h]

theorem takeSlotIn_above {carrier : Byte} (h : 4 ≤ carrier.toNat) (octets : List Byte) (s : State) :
    takeSlotIn carrier octets s = discardRecord s := by
  simp [takeSlotIn, carrierOf_above h]

theorem takeSlotRequest_above {carrier : Byte} (h : 4 ≤ carrier.toNat) (s : State) :
    takeSlotRequest carrier s = discardRecord s := by
  simp [takeSlotRequest, carrierOf_above h]

/-- A frame report with its index above 15 is discarded, for any carrier (R192; log entry 48). -/
theorem takeFrameReport_index {i : Byte} (h : 16 ≤ i.toNat) (carrier fl a b x y : Byte) (s : State) :
    takeFrameReport carrier i fl a b x y s = discardRecord s := by
  unfold takeFrameReport
  split
  · rfl
  · rw [if_neg (by omega)]

/-- A record of an unknown kind, or of a carrier above 3, is discarded (R7). -/
theorem takeRecord_discards {kind carrier : Byte} {rest : List Byte}
    (h : kind.toNat = 0 ∨ 4 ≤ kind.toNat ∨ 4 ≤ carrier.toNat) (s : State) :
    takeRecord (kind :: carrier :: rest) s = discardRecord s := by
  have second : (kind :: carrier :: rest).getD 1 0 = carrier := rfl
  have first : natAt (kind :: carrier :: rest) 0 = kind.toNat := rfl
  unfold takeRecord
  simp only [second, first]
  split
  next e => exact takeFrameReport_above (by omega) _ _ _ _ _ _ s
  next e => exact takeSlotIn_above (by omega) _ s
  next e => exact takeSlotRequest_above (by omega) s
  next => rfl

/-! ### Reports in range -/

/-- A report of a carrier 0..3 with its index 0..15 is attributed to the carrier (R8, R9). -/
theorem exec_frameReport {s : State} (hr : s.resetHeld = false) (c : Carrier) {i : Byte} (hi : i.toNat ≤ 15)
    (fl a b x y : Byte) :
    exec (.frameReport (carrierByte c) i fl a b x y) s =
      .next (attributeReport c (conditionReport i fl a b x y) (recordTaken s)) := by
  change execFrameReport (carrierByte c) i fl a b x y s = _
  rw [execFrameReport, running_high _ hr]
  simp [takeFrameReport, carrierOf_carrierByte, hi]

theorem attributeReport_disabled {s : State} {c : Carrier} (r : Report) (h : s.link c = .disabled) :
    attributeReport c r s = s := by
  simp [attributeReport, h]

theorem attributeReport_seen {s : State} {c : Carrier} {r : Report} (h : s.link c ≠ .disabled)
    (seen : (s.car c).reports.getLsbD r.index = true) :
    attributeReport c r s = modStats c (fun x => { x with duplicates := count32 x.duplicates }) s := by
  simp [attributeReport, h, seen]

theorem attributeReport_unseen {s : State} {c : Carrier} {r : Report} (h : s.link c ≠ .disabled)
    (unseen : (s.car c).reports.getLsbD r.index = false) : attributeReport c r s = acceptReport c r s := by
  simp [attributeReport, h, unseen]

/-- A change of one carrier that leaves a part of it leaves that part of every carrier. -/
theorem car_modCar_keeps {β : Type} (part : CarrierState → β) {f : CarrierState → CarrierState} (h : ∀ k, part (f k) = part k)
    (c d : Carrier) (s : State) : part ((modCar c f s).car d) = part (s.car d) := by
  rw [car_modCar]
  split
  next e => rw [h, e]
  next => rfl

@[simp] theorem car_placeNotice (n : Notice) (s : State) (d : Carrier) : (placeNotice n s).car d = s.car d := by
  rw [State.car, placeNotice_carriers, State.car]

/-- What the frame reports of a superframe work on. -/
def CarrierState.reception (k : CarrierState) : Estimator × BitVec 16 := (k.est, k.reports)

theorem reception_modRac (c d : Carrier) (f : Rac → Rac) (s : State) :
    ((modRac c f s).car d).reception = (s.car d).reception :=
  car_modCar_keeps CarrierState.reception (by intro _; rfl) c d s

/-- A toggle seen leaves the estimator and the report set of every carrier (R74). -/
theorem takeToggle_keeps (c : Carrier) (s : State) (d : Carrier) :
    ((takeToggle c s).car d).est = (s.car d).est ∧ ((takeToggle c s).car d).reports = (s.car d).reports := by
  suffices kept : ((takeToggle c s).car d).reception = (s.car d).reception from Prod.ext_iff.mp kept
  unfold takeToggle
  split
  next => exact car_modCar_keeps CarrierState.reception (by intro _; rfl) c d s
  next a _ =>
    have fade (x : State) :
        ((modCar c (fun k => { k with fade := k.fade.map (lowerFade a.target) }) x).car d).reception =
          (x.car d).reception := car_modCar_keeps CarrierState.reception (by intro _; rfl) c d x
    rw [car_placeNotice, fade, reception_modRac, reception_modRac]

/-- What the carrier of an accepted report holds before its toggle is seen to (R9, R10). -/
def CarrierState.reported (k : CarrierState) (r : Report) : CarrierState :=
  { k with
    est := takeFrame k.sup.record.diversity r k.est
    rac := { k.rac with lockSeen := k.rac.lockSeen || r.payloadLock }
    reports := withBit k.reports r.index true }

/-- An accepted report works on its carrier; then the toggle, where there is one (R9, R10, R74). -/
theorem acceptReport_eq (c : Carrier) (r : Report) (s : State) :
    acceptReport c r s =
      if r.toggle then takeToggle c (s.setCar c ((s.car c).reported r)) else s.setCar c ((s.car c).reported r) := by
  have taken : modRac c (fun x => { x with lockSeen := x.lockSeen || r.payloadLock })
      (modEst c (takeFrame (s.car c).sup.record.diversity r)
        (modCar c (fun k => { k with reports := withBit k.reports r.index true }) s)) =
      s.setCar c ((s.car c).reported r) := by
    simp [modRac, modEst, modCar, State.setCar, State.car, CarrierState.reported]
  simp only [acceptReport, takeReport, car_modCar_same, taken]

/-- The estimator and the report set of the carrier after an accepted report (R9, R10). -/
theorem acceptReport_keeps (c : Carrier) (r : Report) (s : State) :
    ((acceptReport c r s).car c).est = takeFrame (s.car c).sup.record.diversity r (s.car c).est ∧
      ((acceptReport c r s).car c).reports = withBit (s.car c).reports r.index true := by
  rw [acceptReport_eq]
  split
  · obtain ⟨est, reports⟩ := takeToggle_keeps c (s.setCar c ((s.car c).reported r)) c
    rw [est, reports, State.car_setCar_same]
    exact ⟨rfl, rfl⟩
  · rw [State.car_setCar_same]
    exact ⟨rfl, rfl⟩

/-- Settles O24, record by record. -/
theorem recordsDiscardedAndReportsNotTaken : Obligations.RecordsDiscardedAndReportsNotTaken := by
  intro s hr
  refine ⟨?_, ?_, ?_, ?_⟩
  · rintro _ rfl
    have discards {g : State → State} (h : g (recordTaken s) = discardRecord (recordTaken s)) :
        running (fun s => g (recordTaken s)) s = .next { s with modem := { s.modem with
          discarded := min (s.modem.discarded + 1) 65535, partialRecord := [] } } := by
      rw [running_high _ hr, h, discardRecord_taken]
    refine ⟨fun kind carrier rest length h => ?_, fun carrier h => ⟨fun i fl a b x y => ?_, fun slot length => ?_, ?_⟩,
      fun carrier i fl a b x y h => ?_⟩
    · have whole : (kind :: carrier :: rest).length = 20 := by simp [length]
      change execInboundRecordDiscarded _ s = _
      rw [execInboundRecordDiscarded, if_pos whole]
      exact discards (takeRecord_discards h _)
    · exact discards (takeFrameReport_above h i fl a b x y _)
    · change execSlotIn carrier slot s = _
      rw [execSlotIn, if_pos length]
      exact discards (takeSlotIn_above h slot _)
    · exact discards (takeSlotRequest_above h _)
    · exact discards (takeFrameReport_index h carrier fl a b x y _)
  · intro octets short
    change execRecordCutShort octets s = _
    rw [execRecordCutShort, if_pos short, running_high _ hr]
    rfl
  · intro high carrier i fl a b x y
    change execFrameReport _ _ _ _ _ _ _ s = execFrameReport _ _ _ _ _ _ _ s
    simp only [execFrameReport, takeFrameReport, conditionReport_flags]
  · intro c i fl a b x y hi
    have hk : (recordTaken s).car c = s.car c := rfl
    rw [exec_frameReport hr c hi]
    refine ⟨fun off => ?_, fun on seen => ?_, fun on unseen => ⟨_, rfl, ?_⟩⟩
    · rw [attributeReport_disabled _ (s := recordTaken s) off]
      rfl
    · rw [attributeReport_seen (s := recordTaken s) (r := conditionReport i fl a b x y) on seen]
      rfl
    · rw [attributeReport_unseen (s := recordTaken s) (r := conditionReport i fl a b x y) on unseen]
      obtain ⟨est, reports⟩ := acceptReport_keeps c (conditionReport i fl a b x y) (recordTaken s)
      rw [est, reports, hk]
      exact ⟨withBit_true _ (show i.toNat < 16 by omega), rfl, rfl⟩

/-! ### The frame's value by the diversity mode -/

theorem BranchValue.alone_present {b : BranchValue} (h : b.present = true) : b.alone = some (b.snr, b.rsl) := by
  simp [BranchValue.alone, h]

theorem BranchValue.clips_eq (b : BranchValue) : b.clips = decide (b.present = true ∧ b.snr = 255) := by
  cases b with | mk present snr rsl => cases present <;> simp [BranchValue.clips, beq_eq_decide]

theorem BranchValue.alone_absent {b : BranchValue} (h : b.present = false) : b.alone = none := by
  simp [BranchValue.alone, h]

/-- The value of a frame that only the A branch gives (R21, R23 to R25). -/
theorem combineFrame_a {mode : DiversityMode} {selection : Branch} {a b : BranchValue} (ha : a.present = true)
    (h : mode = .branchA ∨ ((mode = .combine ∨ mode = .select) ∧ b.present = false) ∨
      (mode = .select ∧ selection = .a)) :
    (combineFrame mode selection a b).value = some (a.snr, a.rsl) := by
  obtain rfl | ⟨rfl | rfl, hb⟩ | ⟨rfl, rfl⟩ := h
  · simp [combineFrame, BranchValue.alone_present ha]
  · simp [combineFrame, hb, BranchValue.alone_present ha]
  · cases selection <;> simp [combineFrame, BranchValue.alone_present ha, BranchValue.alone_absent hb]
  · simp [combineFrame, BranchValue.alone_present ha]

/-- The value of a frame that only the B branch gives. -/
theorem combineFrame_b {mode : DiversityMode} {selection : Branch} {a b : BranchValue} (hb : b.present = true)
    (h : mode = .branchB ∨ ((mode = .combine ∨ mode = .select) ∧ a.present = false) ∨
      (mode = .select ∧ selection = .b)) :
    (combineFrame mode selection a b).value = some (b.snr, b.rsl) := by
  obtain rfl | ⟨rfl | rfl, ha⟩ | ⟨rfl, rfl⟩ := h
  · simp [combineFrame, BranchValue.alone_present hb]
  · simp [combineFrame, ha, BranchValue.alone_present hb, BranchValue.alone_absent ha]
  · cases selection <;> simp [combineFrame, BranchValue.alone_present hb, BranchValue.alone_absent ha]
  · simp [combineFrame, BranchValue.alone_present hb]

/-- A frame that neither branch of its mode gives has no value. -/
theorem combineFrame_none {mode : DiversityMode} {selection : Branch} {a b : BranchValue}
    (h : (a.present = false ∧ b.present = false) ∨ (mode = .branchA ∧ a.present = false) ∨
      (mode = .branchB ∧ b.present = false)) :
    (combineFrame mode selection a b).value = none ∧ (combineFrame mode selection a b).clip = false := by
  obtain ⟨ha, hb⟩ | ⟨rfl, ha⟩ | ⟨rfl, hb⟩ := h
  · cases mode <;> cases selection <;>
      simp [combineFrame, ha, hb, BranchValue.alone, BranchValue.clips]
  · simp [combineFrame, BranchValue.alone, BranchValue.clips, ha]
  · simp [combineFrame, BranchValue.alone, BranchValue.clips, hb]

/-- The clip of a frame that no sum of two branches formed (R25). -/
theorem combineFrame_clip {mode : DiversityMode} (selection : Branch) {a b : BranchValue}
    (h : mode = .branchA ∨ mode = .branchB ∨ mode = .select ∨ a.present = false ∨ b.present = false) :
    (combineFrame mode selection a b).clip =
      decide ((mode ≠ .branchB ∧ a.present = true ∧ a.snr = 255) ∨ (mode ≠ .branchA ∧ b.present = true ∧ b.snr = 255)) := by
  cases mode with
  | branchA => simp [combineFrame, BranchValue.clips_eq]
  | branchB => simp [combineFrame, BranchValue.clips_eq]
  | select => simp [combineFrame, BranchValue.clips_eq]
  | combine =>
    have one : (a.present && b.present) = false := by
      cases ha : a.present <;> cases hb : b.present <;> simp_all
    simp [combineFrame, one, BranchValue.clips_eq]

/-- The corrections of R22, as the specification lists them. -/
theorem combineSum_eq (a b : BranchValue) :
    combineSum a b = max a.snr b.snr +
      ([12, 10, 8, 7, 6, 5, 4, 3, 3, 2, 2, 1, 1, 1, 1, 1].getD ((max a.snr b.snr - min a.snr b.snr) / 4) 0) := rfl

/-- Settles O25, by the value and the clip that `combineFrame` forms in each mode. -/
theorem reportIsCombined : Obligations.ReportIsCombined := by
  intro s c i fl snrA snrB rslA rslB a b mode hr on hi unseen noToggle hm ha hb
  obtain ⟨r, hrep⟩ : ∃ r, r = conditionReport i fl snrA snrB rslA rslB := ⟨_, rfl⟩
  have ra : r.a = a := by rw [hrep, ha]; rfl
  have rb : r.b = b := by rw [hrep, hb]; rfl
  refine ⟨takeFrame mode r (s.car c).est, ?_, ?_, ?_, ?_, ?_, ?_, ?_⟩
  · have bits : withBit (s.car c).reports i.toNat true = (s.car c).reports ||| BitVec.twoPow 16 i.toNat :=
      withBit_true _ (by omega)
    rw [exec_frameReport hr c hi, ← hrep, attributeReport_unseen (s := recordTaken s) on (by rw [hrep]; exact unseen),
      acceptReport_eq, if_neg (by rw [hrep]; simp only [conditionReport, noToggle]; decide), ← bits, hm, hrep]
    rfl
  · simp only [takeFrame, ra, rb]
  · intro hc pa pb
    subst hc
    refine ⟨combineSum a b, combineSum_eq a b, ?_, ?_, ?_⟩
    · simp [takeFrame, combineFrame, ra, rb, pa, pb]
    · simp [takeFrame, combineFrame, ra, rb, pa, pb]
    · simp [takeFrame, combineFrame, ra, rb, pa, pb, BranchValue.clips_eq, Bool.or_assoc]
  · intro pa h
    simp [takeFrame, ra, rb, combineFrame_a pa h]
  · intro pb h
    simp [takeFrame, ra, rb, combineFrame_b pb h]
  · intro h
    obtain ⟨v, k⟩ := combineFrame_none (selection := (s.car c).est.selection) h
    simp [takeFrame, ra, rb, v, k]
  · intro h
    simp only [takeFrame, ra, rb, combineFrame_clip _ h]

end Sys2Proof.Machine
end

section
/-! SUPPORT. A slot request: the slot that leaves, the message that arbitration chooses for it, and the cap in its
header. -/

namespace Sys2Proof.Machine

/-! ### The slot that leaves -/

/-- The part after an answer to a SLOT_REQUEST of `c`: its outbound record, and the LAC counts it leaves (R113). -/
def slotLeft (c : Carrier) (d : Directive) (x : LacStats) (s : State) : State :=
  { s with
    modem := { s.modem with partialRecord := [], outbound := s.modem.outbound ++ [d] }
    carriers := s.carriers.set c { s.car c with stats := { (s.car c).stats with lac := x } } }

/-- An answer changes the LAC counts of its carrier alone. -/
theorem slotLeft_car (c : Carrier) (d : Directive) (x : LacStats) (s : State) {t : State}
    (h : t.carriers = (slotLeft c d x s).carriers) :
    OthersSame c s t ∧ t.car c = { s.car c with stats := { (s.car c).stats with lac := (t.car c).stats.lac } } ∧
      (t.car c).stats.lac = x := by
  have own : t.car c = { s.car c with stats := { (s.car c).stats with lac := x } } := by
    rw [State.car, h, slotLeft, Four.get_set_same]
  refine ⟨fun e he => ?_, by rw [own], by rw [own]⟩
  rw [State.car, h, slotLeft, Four.get_set_other _ _ he, State.car]

/-- A slot leaves: its octets join the outbound records and its carrier counts it (R113). -/
theorem sendSlot_taken (c : Carrier) (m : Option LacMsg) (s : State) :
    sendSlot c m (recordTaken s) = slotLeft c (.slotOut c (some (slotOctets (s.slotHeader c) m)))
      { (s.car c).stats.lac with sent := min ((s.car c).stats.lac.sent + 1) 4294967295 } s := rfl

/-- What the message that rides leaves of its place and of the sender (R112, R161). -/
theorem ride_eq (m : Placed) (s : State) :
    ride m s = { s with
      outQueue := if m.msg.isOrder then s.outQueue.map (fun y => if y.place = m.place then { y with ridden := true } else y)
        else s.outQueue.filter fun y => y.place != m.place
      sender := if m.place = .s ∧ (s.sender.state = .sending ∨ s.sender.state = .awaitingResult) then
        { s.sender with wait := some 8 } else s.sender } := by
  have told (x : Sender) : (if x.running then { x with wait := some 8 } else x) =
      if x.state = .sending ∨ x.state = .awaitingResult then { x with wait := some 8 } else x := by
    cases h : x.state <;> simp [Sender.running, h]
  have heard (x : State) : (if m.place = .s then senderRidden x else x) = { x with
      sender := if m.place = .s ∧ (x.sender.state = .sending ∨ x.sender.state = .awaitingResult) then
        { x.sender with wait := some 8 } else x.sender } := by
    by_cases hp : m.place = .s
    · simp [hp, senderRidden, modSender, told]
    · simp [hp]
  rw [ride, heard]
  cases m.msg.isOrder <;> rfl

theorem ride_carriers (m : Placed) (s : State) : (ride m s).carriers = s.carriers := by
  rw [ride_eq]

/-- The class of a message is one of three (R109). -/
theorem cls_cases (m : LacMsg) : m.cls = 1 ∨ m.cls = 2 ∨ m.cls = 3 := by
  cases m <;> simp [LacMsg.cls]

/-- The ORDERs are the messages of class 2 (R109). -/
theorem isOrder_iff (m : LacMsg) : m.isOrder = true ↔ m.cls = 2 := by
  cases m <;> simp [LacMsg.isOrder, LacMsg.cls]

/-- Each class has its own count of messages sent (R123). -/
theorem countSent_eq (m : LacMsg) (x : LacStats) :
    x.countSent m.cls = { x with
      sentClass1 := if m.cls = 1 then min (x.sentClass1 + 1) 4294967295 else x.sentClass1
      sentClass2 := if m.cls = 2 then min (x.sentClass2 + 1) 4294967295 else x.sentClass2
      sentClass3 := if m.cls = 3 then min (x.sentClass3 + 1) 4294967295 else x.sentClass3 } := by
  obtain h | h | h := cls_cases m <;> simp [LacStats.countSent, h, count32]

/-! ### Arbitration -/

/-- A message in a place is a candidate unless it is an ORDER that has ridden (R114). -/
theorem placedCandidate_iff (m : Placed) : m.candidate = true ↔ m.msg.cls ≠ 2 ∨ m.ridden = false := by
  rw [← not_iff_not]
  simp [Placed.candidate, isOrder_iff]

theorem oldestOf_none {s : State} {cls : Nat} :
    s.oldestOf cls = none ↔ ∀ m ∈ s.outQueue, m.candidate = true → m.msg.cls ≠ cls := by
  simp [State.oldestOf]

/-- The oldest candidate of a class: those before it in the queue are no candidates of its class. -/
theorem oldestOf_some {s : State} {cls : Nat} {m : Placed} (h : s.oldestOf cls = some m) :
    m.candidate = true ∧ m.msg.cls = cls ∧ ∃ older newer, s.outQueue = older ++ m :: newer ∧
      ∀ y ∈ older, y.candidate = true → y.msg.cls ≠ cls := by
  obtain ⟨fits, older, newer, split, earlier⟩ := List.find?_eq_some_iff_append.mp h
  simp only [Bool.and_eq_true, beq_iff_eq] at fits
  exact ⟨fits.1, fits.2, older, newer, split, fun y hy fits cls => by simpa [fits, cls] using earlier y hy⟩

/-- No message is chosen exactly when none is a candidate. -/
theorem arbitrated_none {s : State} : s.arbitrated = none ↔ ∀ m ∈ s.outQueue, m.candidate = false := by
  simp only [State.arbitrated, Option.or_eq_none_iff, oldestOf_none]
  constructor
  · rintro ⟨one, two, three⟩ m hm
    by_contra h
    have fits : m.candidate = true := by simpa using h
    obtain e | e | e := cls_cases m.msg
    · exact one m hm fits e
    · exact two m hm fits e
    · exact three m hm fits e
  · intro h
    have no : ∀ cls, ∀ m ∈ s.outQueue, m.candidate = true → m.msg.cls ≠ cls :=
      fun _ m hm fits => absurd fits (by simp [h m hm])
    exact ⟨no 1, no 2, no 3⟩

/-- The chosen message is the oldest of its class, and no candidate is of a lower one. -/
theorem arbitrated_some {s : State} {m : Placed} (h : s.arbitrated = some m) :
    s.oldestOf m.msg.cls = some m ∧ ∀ y ∈ s.outQueue, y.candidate = true → m.msg.cls ≤ y.msg.cls := by
  have low (y : Placed) : 1 ≤ y.msg.cls := by obtain e | e | e := cls_cases y.msg <;> omega
  unfold State.arbitrated at h
  cases h1 : s.oldestOf 1 with
  | some x =>
    obtain rfl : x = m := by simpa [h1] using h
    obtain ⟨-, cls, -⟩ := oldestOf_some h1
    exact ⟨cls ▸ h1, fun y _ _ => cls ▸ low y⟩
  | none =>
    have n1 := oldestOf_none.mp h1
    cases h2 : s.oldestOf 2 with
    | some x =>
      obtain rfl : x = m := by simpa [h1, h2] using h
      obtain ⟨-, cls, -⟩ := oldestOf_some h2
      refine ⟨cls ▸ h2, fun y hy fits => ?_⟩
      have := low y
      have := n1 y hy fits
      omega
    | none =>
      have n2 := oldestOf_none.mp h2
      have h3 : s.oldestOf 3 = some m := by simpa [h1, h2] using h
      obtain ⟨-, cls, -⟩ := oldestOf_some h3
      refine ⟨cls ▸ h3, fun y hy fits => ?_⟩
      have := low y
      have := n1 y hy fits
      have := n2 y hy fits
      omega

/-! ### The cap -/

theorem highestUpTo_le (ok : Nat → Bool) (n : Nat) : highestUpTo ok n ≤ n := by
  induction n with
  | zero => exact Nat.le_refl 0
  | succ n ih => rw [highestUpTo]; split <;> omega

/-- No number up to the bound for which the test holds is above the highest. -/
theorem le_highestUpTo {ok : Nat → Bool} {n i : Nat} (hi : i ≤ n) (h : ok i = true) : i ≤ highestUpTo ok n := by
  induction n with
  | zero => omega
  | succ n ih =>
    rw [highestUpTo]
    split
    next => exact hi
    next no =>
      have : i ≠ n + 1 := by rintro rfl; exact no h
      exact ih (by omega)

/-- The highest passes the test where 0 does. -/
theorem highestUpTo_ok {ok : Nat → Bool} (n : Nat) (h : ok 0 = true) : ok (highestUpTo ok n) = true := by
  induction n with
  | zero => exact h
  | succ n ih =>
    rw [highestUpTo]
    split
    next yes => exact yes
    next => exact ih

/-- The governing carrier is the lower one for an upper carrier, else the carrier itself (R127). -/
theorem gov_eq (s : State) (c : Carrier) : s.gov c = if s.isUpper c then lowerOf c else c := by
  by_cases h : s.isUpper c = true
  · have hp : s.paired c = true := by simp only [State.isUpper, Bool.and_eq_true] at h; exact h.1
    simp [State.gov, h, hp]
  · rw [if_neg h, gov_of_not_upper (by simpa using h)]

/-- The carriers of a pair are governed by one record. -/
theorem gov_partner {s : State} {c : Carrier} (h : s.paired c = true) : s.gov (partner c) = s.gov c := by
  simp [State.gov, paired_partner, h, (partner_position c).1]

/-- A profile is a candidate for `c` when the governing carrier allows it and the Active Table holds it (R58). -/
theorem candidate_iff (s : State) (c : Carrier) (i : Nat) :
    s.candidate c i = true ↔ (s.tables.enableSets.get (s.gov c)).getLsbD i = true ∧
      i ≤ (s.car (s.gov c)).sup.inForce.ceiling ∧ i ≤ s.tables.active.length - 1 := by
  simp [State.candidate, State.govInForce, State.nUsed]

/-- A candidate is one of 0..15: an enable set names no profile above (R57). -/
theorem candidate_le {s : State} {c : Carrier} {i : Nat} (h : s.candidate c i = true) : i ≤ 15 := by
  by_contra above
  have : (s.tables.enableSets.get (s.gov c)).getLsbD i = false := BitVec.getLsbD_of_ge _ i (by omega)
  simp [(candidate_iff s c i).mp h] at this

/-- The carriers of a pair have one cap (R59). -/
theorem cap_partner {s : State} {c : Carrier} (h : s.paired c = true) : s.cap (partner c) = s.cap c := by
  have same : s.candidate (partner c) = s.candidate c := by
    funext i
    simp [State.candidate, State.govInForce, gov_partner h]
  simp [State.cap, State.highestCandidate, same]

/-! ### The answer -/

/-- A SLOT_REQUEST of a carrier 0..3 is answered by that carrier's LAC Controller (R11). -/
theorem exec_slotRequest {s : State} (hr : s.resetHeld = false) (c : Carrier) :
    exec (.slotRequest (carrierByte c)) s = .next (serveSlotRequest c (recordTaken s)) := by
  change execSlotRequest (carrierByte c) s = _
  rw [execSlotRequest, running_high _ hr]
  simp [takeSlotRequest, carrierOf_carrierByte]

theorem serveSlotRequest_silent {c : Carrier} {s : State} (h : s.link c = .disabled ∨ s.link c = .halted) :
    serveSlotRequest c (recordTaken s) = slotLeft c (.slotOut c none)
      { (s.car c).stats.lac with silent := min ((s.car c).stats.lac.silent + 1) 4294967295 } s := by
  have link : (recordTaken s).link c = s.link c := rfl
  obtain h | h := h <;> rw [serveSlotRequest, link, h] <;> rfl

theorem serveSlotRequest_bare {c : Carrier} {s : State}
    (h : s.link c = .seeking ∨ ((s.link c = .active ∨ s.link c = .quiet) ∧ s.arbitrated = none)) :
    serveSlotRequest c (recordTaken s) = slotLeft c (.slotOut c (some (slotOctets (s.slotHeader c) none)))
      { (s.car c).stats.lac with sent := min ((s.car c).stats.lac.sent + 1) 4294967295 } s := by
  have link : (recordTaken s).link c = s.link c := rfl
  have chosen : (recordTaken s).arbitrated = s.arbitrated := rfl
  rw [← sendSlot_taken]
  obtain h | ⟨h | h, none⟩ := h
  · rw [serveSlotRequest, link, h]
  · rw [serveSlotRequest, link, h, chosen, none]
  · rw [serveSlotRequest, link, h, chosen, none]

theorem serveSlotRequest_rides {c : Carrier} {s : State} {m : Placed} (h : s.link c = .active ∨ s.link c = .quiet)
    (chosen : s.arbitrated = some m) :
    serveSlotRequest c (recordTaken s) = ride m (slotLeft c (.slotOut c (some (slotOctets (s.slotHeader c) (some m.msg))))
      (LacStats.countSent m.msg.cls
        { (s.car c).stats.lac with sent := min ((s.car c).stats.lac.sent + 1) 4294967295 }) s) := by
  have counted (x : LacStats) (f : LacStats → LacStats) (d : Directive) :
      modLacStats c f (slotLeft c d x s) = slotLeft c d (f x) s := by
    simp [modLacStats, modStats, modCar, State.setCar, slotLeft, State.car]
  have link : (recordTaken s).link c = s.link c := rfl
  have same : (recordTaken s).arbitrated = some m := chosen
  rw [← counted, ← sendSlot_taken]
  obtain h | h := h
  · rw [serveSlotRequest, link, h, same]
  · rw [serveSlotRequest, link, h, same]

/-- The header of a slot: advice and power are 0 while the carrier seeks, and only then where it answers (R108). -/
theorem slotHeader_eq {s : State} {c : Carrier} (h : s.link c = .seeking ∨ s.link c = .active ∨ s.link c = .quiet) :
    s.slotHeader c = { link := s.link c, carrier := c, pair := s.paired c, seq := s.timebase.superframe.setWidth 8
                       advice := if s.link c = .seeking then 0 else (s.car c).rac.advice
                       power := if s.link c = .seeking then 0 else (s.car c).rac.power
                       cap := s.cap c, atten := (s.car c).tac.atten
                       headroom := (s.car c).tac.atten - (s.car c).sup.record.attenMin, digest := s.tables.digest } := by
  have link : (s.car c).sup.link = s.link c := rfl
  obtain h | h | h := h <;> simp [State.slotHeader, State.inService, State.headroom, link, h]

/-- The link states that answer differently, one at a time (R113). -/
theorem link_answers (s : State) (c : Carrier) :
    (s.link c = .disabled ∨ s.link c = .halted) ∨
      (s.link c = .seeking ∨ ((s.link c = .active ∨ s.link c = .quiet) ∧ s.arbitrated = none)) ∨
      ∃ m, (s.link c = .active ∨ s.link c = .quiet) ∧ s.arbitrated = some m := by
  cases s.link c <;> cases s.arbitrated <;> simp

/-- Settles O42: the answers by link state, arbitration class by class, and the cap as the highest candidate. -/
theorem slotRequestAnsweredByArbitration : Obligations.SlotRequestAnsweredByArbitration := by
  refine ⟨fun s c x h hr hx hh => ?_, fun s => ⟨?_, fun m hm => ?_⟩, fun s c g member hg hmember zero => ?_⟩
  · have header (e : s.link c = .seeking ∨ s.link c = .active ∨ s.link c = .quiet) : s.slotHeader c = h :=
      (slotHeader_eq e).trans hh.symm
    subst hx
    rw [exec_slotRequest hr]
    obtain off | bare | ⟨m, on, chosen⟩ := link_answers s c
    · rw [serveSlotRequest_silent off]
      obtain ⟨others, own, counts⟩ := slotLeft_car c _ _ s rfl
      refine ⟨_, rfl, others, own, rfl, fun _ => ⟨rfl, rfl, rfl, counts⟩, fun e => ?_, fun _ e => ?_⟩
      · obtain off | off := off <;> simp [off] at e
      · obtain off | off := off <;> simp [off] at e
    · rw [serveSlotRequest_bare bare, header (by tauto)]
      obtain ⟨others, own, counts⟩ := slotLeft_car c _ _ s rfl
      refine ⟨_, rfl, others, own, rfl, fun e => ?_, fun _ => ⟨rfl, rfl, rfl, counts⟩, fun _ e chosen => ?_⟩
      · obtain e | e := e <;> simp [e] at bare
      · obtain e | e := e <;> simp [e, chosen] at bare
    · rw [serveSlotRequest_rides on chosen, header (.inr on)]
      generalize hx : LacStats.countSent m.msg.cls _ = x
      obtain ⟨others, own, counts⟩ := slotLeft_car c (.slotOut c (some (slotOctets h (some m.msg)))) x s
        (ride_carriers m _)
      refine ⟨_, rfl, others, own, ?_, fun e => ?_, fun e => ?_, fun y _ e => ?_⟩
      · rw [ride_eq]
        rfl
      · obtain on | on := on <;> simp [on] at e
      · obtain on | on := on <;> simp [on, chosen] at e
      · obtain rfl : m = y := Option.some.inj (chosen.symm.trans e)
        refine ⟨?_, ?_, ?_, counts.trans (hx.symm.trans (countSent_eq m.msg _))⟩ <;> rw [ride_eq] <;> rfl
  · rw [arbitrated_none]
    refine forall₂_congr fun m _ => ?_
    rw [← Bool.not_eq_true, placedCandidate_iff]
    simp
  · obtain ⟨oldest, lowest⟩ := arbitrated_some hm
    obtain ⟨fits, -, older, newer, split, earlier⟩ := oldestOf_some oldest
    refine ⟨(placedCandidate_iff m).mp fits, older, newer, split, fun y hy fits => ?_, fun y hy fits => ?_⟩
    · have candidate := (placedCandidate_iff y).mpr fits
      exact lt_of_le_of_ne (lowest y (by simp [split, hy]) candidate) (earlier y hy candidate).symm
    · exact lowest y (by simp [split, hy]) ((placedCandidate_iff y).mpr fits)
  · rw [← gov_eq] at hg
    subst hg
    have same (i : Nat) : member i ↔ s.candidate c i = true := (hmember i).trans (candidate_iff s c i).symm
    refine ⟨(same _).mpr (highestUpTo_ok 15 ((same 0).mp zero)), fun i hi => ?_, highestUpTo_le _ 15, cap_partner⟩
    have hi := (same i).mp hi
    exact le_highestUpTo (candidate_le hi) hi

end Sys2Proof.Machine
end

section
/-! SUPPORT. What a whole boundary makes of one carrier: the superframe just ended is closed once, and neither the turns
of the Supervisor nor the other blocks count or judge it again. -/

namespace Sys2Proof.Machine

/-! ### What a turn leaves of a carrier -/

/-- What the estimator holds of the superframe: the accumulators, the clip and the absent runs (R26, R35). -/
def Estimator.superframe (e : Estimator) :
    Option Nat × Option Int × Option Nat × Option Nat × Bool × Nat × Nat :=
  (e.minC, e.minRsl, e.minA, e.minB, e.clipSeen, e.absentA, e.absentB)

/-- The counts of frame reports and superframes (R9, R77). -/
def CarrierStats.superframes (x : CarrierStats) : Nat × List Nat × Nat := (x.duplicates, x.occupancy, x.outage)

/-- What a turn of the Supervisor, of whichever carrier, leaves of a carrier. -/
structure TurnLeaves (k k' : CarrierState) : Prop where
  lockSeen : k'.rac.lockSeen = k.rac.lockSeen
  superframes : k'.stats.superframes = k.stats.superframes
  estimator : k'.est.superframe = k.est.superframe
  off : k'.sup.link = .disabled ↔ k.sup.link = .disabled
  disabled : k.sup.link = .disabled → k' = k

theorem TurnLeaves.refl (k : CarrierState) : TurnLeaves k k := ⟨rfl, rfl, rfl, Iff.rfl, fun _ => rfl⟩

theorem TurnKept.leaves {k k' : CarrierState} (h : TurnKept k k') : TurnLeaves k k' where
  lockSeen := by rw [h.rac]
  superframes := by rw [h.stats]; rfl
  estimator := by rw [h.est]
  off := by obtain e | ⟨e, e'⟩ | ⟨e, e'⟩ := h.link <;> simp [*]
  disabled := h.disabled

/-- HALTED entry, of a carrier that is not DISABLED. -/
theorem CarrierHalted.leaves {tHold : Nat} {upper : Bool} {x : SupStats} {sup : Supervisor} {k k' : CarrierState}
    (h : CarrierHalted tHold upper x { k with sup := sup } k') (on : k.sup.link ≠ .disabled) : TurnLeaves k k' := by
  obtain ⟨est, rac, -, -, hsup, -, -, -, stats⟩ := h
  refine ⟨?_, ?_, ?_, ?_, fun off => absurd off on⟩
  · rw [rac]
  · rw [stats]
    rfl
  · rw [est]
    rfl
  · simp [hsup, on]

theorem CarrierHalted.link {tHold : Nat} {upper : Bool} {x : SupStats} {k k' : CarrierState}
    (h : CarrierHalted tHold upper x k k') : k'.sup.link = .halted := by
  obtain ⟨-, -, -, -, sup, -⟩ := h
  rw [sup]

theorem CarrierHalted.unlocked {tHold : Nat} {upper : Bool} {x : SupStats} {k k' : CarrierState}
    (h : CarrierHalted tHold upper x k k') : k'.rac.unlocked = 0 := by
  obtain ⟨-, rac, -⟩ := h
  rw [rac]

theorem haltsByTest_counted {s : State} {c : Carrier} (h : (modSup c Supervisor.counted s).haltsByTest c = true) :
    s.link c ≠ .halted ∧ s.link c ≠ .disabled := by
  simpa only [link_counted] using haltsByTest_link h

theorem supervise_leaves (c d : Carrier) (s : State) : TurnLeaves (s.car d) ((supervise c s).car d) := by
  cases halts : (modSup c Supervisor.counted s).haltsByTest c with
  | true =>
    obtain ⟨⟨_, _, _, own⟩, pair, others⟩ := supervise_halts halts
    by_cases hc : d = c
    · subst hc
      exact own.leaves (haltsByTest_counted halts).2
    · by_cases hp : TakesPartner s c ∧ d = partner c
      · obtain ⟨takes, rfl⟩ := hp
        obtain ⟨_, _, _, other⟩ := pair takes
        exact other.leaves takes.2
      · rw [others d hc fun takes e => hp ⟨takes, e⟩]
        exact .refl _
  | false =>
    obtain ⟨own, others⟩ := supervise_stays halts
    by_cases hc : d = c
    · subst hc
      exact own.leaves
    · rw [others d hc]
      exact .refl _

/-! ### The estimators of all carriers -/

/-- Work done carrier by carrier, each on its own carrier alone, works on `c` once where `c` stands in the list once. -/
theorem foldl_car_once {f : State → Carrier → State} {c : Carrier} (others : ∀ u d, d ≠ c → (f u d).car c = u.car c)
    {cs : List Carrier} (once : cs.Nodup) (mem : c ∈ cs) (s : State) :
    ∃ u, u.car c = s.car c ∧ (cs.foldl f s).car c = (f u c).car c := by
  have skip : ∀ (ds : List Carrier) (u : State), c ∉ ds → (ds.foldl f u).car c = u.car c := by
    intro ds
    induction ds with
    | nil => exact fun u _ => rfl
    | cons d ds ih =>
      intro u h
      obtain ⟨hd, hds⟩ : c ≠ d ∧ c ∉ ds := by simpa using h
      rw [List.foldl_cons, ih _ hds, others u d (Ne.symm hd)]
  induction cs generalizing s with
  | nil => cases mem
  | cons d ds ih =>
    obtain ⟨hd, hds⟩ := List.nodup_cons.mp once
    by_cases e : d = c
    · subst e
      exact ⟨s, rfl, skip ds _ hd⟩
    · obtain ⟨u, hu, hf⟩ := ih hds ((List.mem_cons.mp mem).resolve_left fun k => e k.symm) (f s d)
      exact ⟨u, hu.trans (others s d e), hf⟩

theorem estimatorBoundary_others (s : State) {c d : Carrier} (h : d ≠ c) :
    (estimatorBoundary d s).car c = s.car c := by
  by_cases off : s.link d = .disabled
  · rw [(estimatorBoundary_spec d s).1 off]
  · obtain ⟨_, _, _, _, _, _, e, -⟩ := (estimatorBoundary_spec d s).2 off
    rw [e]
    exact Four.get_set_other _ _ h.symm

theorem fadeBoundary_est (present : Bool) (c d : Carrier) (s : State) :
    ((fadeBoundary present d s).car c).est = (s.car c).est := by
  obtain ⟨fade, wires, _, _, _, _, e⟩ := (fadeBoundary_spec present d s).2
  rw [e]
  simp only [State.car, Four.get_set]
  split
  next h => rw [h]
  next => rfl

/-- After the quality work a carrier that is not DISABLED has closed its superframe, whatever the order (R26, R35). -/
theorem qualityWork_closed {order : AlarmKind → List Carrier} (perm : (order .diversity).Perm [0, 1, 2, 3])
    (present : Four Bool) {s : State} {c : Carrier} (on : s.link c ≠ .disabled) :
    EstimatorClosed (s.car c).est ((qualityWork order present s).car c).est := by
  have fades : ∀ (ds : List Carrier) (u : State),
      ((ds.foldl (fun u d => fadeBoundary (present.get d) d u) u).car c).est = (u.car c).est := by
    intro ds
    induction ds with
    | nil => exact fun _ => rfl
    | cons d ds ih => exact fun u => (ih _).trans (fadeBoundary_est _ c d u)
  have mem : c ∈ order .diversity := perm.mem_iff.mpr (mem_allCarriers c)
  have once : (order .diversity).Nodup := perm.nodup_iff.mpr (by decide)
  obtain ⟨u, hu, hf⟩ := foldl_car_once (f := fun u d => estimatorBoundary d u)
    (fun u d h => estimatorBoundary_others u h) once mem s
  have on' : u.link c ≠ .disabled := by rwa [State.link, hu]
  obtain ⟨e, _, _, _, _, _, eq, closed⟩ := (estimatorBoundary_spec c u).2 on'
  have own : ((estimatorBoundary c u).car c).est = e := by
    rw [eq, State.car, Four.get_set_same]
  rw [qualityWork, fades, hf, own, ← hu]
  exact closed

/-! ### One carrier through the boundary -/

/-- The estimator of a closed superframe says nothing but what it held of it. -/
theorem EstimatorClosed.of_superframe {e d e' d' : Estimator} (h : EstimatorClosed e e')
    (before : e.superframe = d.superframe) (after : d'.superframe = e'.superframe) : EstimatorClosed d d' := by
  obtain ⟨h1, h2, h3, h4, h5, h6, h7⟩ := h
  simp only [Estimator.superframe, Prod.mk.injEq] at before after
  obtain ⟨-, -, b3, b4, -, b6, b7⟩ := before
  obtain ⟨a1, a2, a3, a4, a5, a6, a7⟩ := after
  exact ⟨a1.trans h1, a2.trans h2, a3.trans h3, a4.trans h4, a5.trans h5, by rw [a6, h6, b3, b6],
    by rw [a7, h7, b4, b7]⟩

/-- What a carrier that began the boundary as `k` holds once `n` blocks have worked: its superframe is counted and
closed, and a DISABLED carrier has kept what R61, R19 and R149 say. -/
structure ClosedSince (n : Nat) (k k' : CarrierState) : Prop where
  lockSeen : k'.rac.lockSeen = k.rac.lockSeen
  superframes : k'.stats.superframes = k.stats.superframes
  estimator : n = 0 → k'.est.superframe = k.est.superframe
  closed : n ≠ 0 → k.sup.link ≠ .disabled → EstimatorClosed k.est k'.est
  off : k'.sup.link = .disabled ↔ k.sup.link = .disabled
  disabled : k.sup.link = .disabled → k'.est = k.est ∧ k'.rac = k.rac ∧ k'.stats = k.stats ∧ k'.fade = k.fade

theorem ClosedSince.refl (k : CarrierState) : ClosedSince 0 k k :=
  ⟨rfl, rfl, fun _ => rfl, fun h => absurd rfl h, Iff.rfl, fun _ => ⟨rfl, rfl, rfl, rfl⟩⟩

theorem ClosedSince.turn {n : Nat} {k l m : CarrierState} (h : ClosedSince n k l) (g : TurnLeaves l m) :
    ClosedSince n k m where
  lockSeen := g.lockSeen.trans h.lockSeen
  superframes := g.superframes.trans h.superframes
  estimator := fun e => g.estimator.trans (h.estimator e)
  closed := fun e on => (h.closed e on).of_superframe rfl g.estimator
  off := g.off.trans h.off
  disabled := fun off => by
    rw [g.disabled (h.off.mpr off)]
    exact h.disabled off

/-- A block's work, `n` blocks having worked; that of the estimators closes the superframe. -/
theorem ClosedSince.block {n : Nat} {k l m : CarrierState} (h : ClosedSince n k l) (g : BlockKept n l m)
    (closes : n = 0 → l.sup.link ≠ .disabled → EstimatorClosed l.est m.est) : ClosedSince (n + 1) k m where
  lockSeen := g.lockSeen.trans h.lockSeen
  superframes := by
    rw [← h.superframes, CarrierStats.superframes, g.duplicates, g.occupancy, g.outage]
    rfl
  estimator := fun e => absurd e (Nat.succ_ne_zero n)
  closed := fun _ on => by
    by_cases e : n = 0
    · exact (closes e (fun off => on (h.off.mp off))).of_superframe (h.estimator e) rfl
    · rw [g.est (.inl e)]
      exact h.closed e on
  off := by rw [g.sup]; exact h.off
  disabled := fun off => by
    have off' := h.off.mpr off
    rw [g.est (.inr off'), g.rac off', g.stats off', g.fade off']
    exact h.disabled off

/-- How a carrier that began the boundary with link state `link` and unlocked run `run` stands after some turns, its own
among them or not (`turned`): newly HALTED and then done, or with its run as judged (R76, R137, R138). -/
def RunJudged (paired turned : Prop) (link : LinkState) (run : Nat) (k : CarrierState) : Prop :=
  (k.sup.link = .halted ∧ k.rac.unlocked = 0 ∧ (paired ∨ link ≠ .halted) ∧ turned) ∨
    (k.rac.unlocked = run ∧ (turned ∨ k.sup.link = link) ∧ (k.sup.link = .halted → link = .halted))

theorem RunJudged.mono {paired turned turned' : Prop} {link : LinkState} {run : Nat} {k : CarrierState}
    (h : RunJudged paired turned link run k) (t : turned → turned') : RunJudged paired turned' link run k := by
  obtain ⟨h1, h2, h3, h4⟩ | ⟨h1, h2, h3⟩ := h
  · exact .inl ⟨h1, h2, h3, t h4⟩
  · exact .inr ⟨h1, h2.imp_left t, h3⟩

theorem RunJudged.congr {paired turned : Prop} {link : LinkState} {run : Nat} {k k' : CarrierState}
    (h : RunJudged paired turned link run k) (hl : k'.sup.link = k.sup.link)
    (hu : k'.rac.unlocked = k.rac.unlocked) : RunJudged paired turned link run k' := by
  rw [RunJudged, hl, hu]
  exact h

/-- A turn that no test of the Supervisor halts leaves the run as judged. -/
theorem RunJudged.kept {paired turned turned' : Prop} {link : LinkState} {run : Nat} {k k' : CarrierState}
    (h : RunJudged paired turned link run k) (fresh : ¬ turned) (g : TurnKept k k') (t : turned') :
    RunJudged paired turned' link run k' := by
  obtain ⟨-, -, -, ht⟩ | ⟨run, -, halted⟩ := h
  · exact absurd ht fresh
  · refine .inr ⟨by rw [g.rac, run], .inl t, fun e => ?_⟩
    obtain same | ⟨-, quiet⟩ | ⟨-, seeking⟩ := g.link
    · exact halted (same ▸ e)
    · cases quiet.symm.trans e
    · cases seeking.symm.trans e

/-- A turn of the Supervisor keeps how the carrier `c` stands. -/
theorem superviseOnce_judged {c d : Carrier} {link : LinkState} {run : Nat} {T : Set Carrier} {x : State × List Carrier}
    (fresh : d ∉ T)
    (h : RunJudged (x.1.paired c = true) (c ∈ T ∨ c ∈ x.2) link run (x.1.car c)) :
    RunJudged (x.1.paired c = true) (c ∈ insert d T ∨ c ∈ (superviseOnce d x).2) link run
      ((superviseOnce d x).1.car c) := by
  have grows : c ∈ T ∨ c ∈ x.2 → c ∈ insert d T ∨ c ∈ (superviseOnce d x).2 := by
    refine Or.imp (fun k => Set.mem_insert_of_mem d k) fun k => ?_
    unfold superviseOnce
    split
    · exact k
    · simp only
      split
      · exact List.mem_cons_of_mem _ k
      · exact k
  by_cases done : d ∈ x.2
  · rw [superviseOnce, if_pos done] at grows ⊢
    exact h.mono grows
  have hx : superviseOnce d x = (supervise d x.1,
      if (modSup d Supervisor.counted x.1).haltsByTest d && x.1.paired d then partner d :: x.2 else x.2) := by
    rw [superviseOnce, if_neg done]
  rw [hx] at grows ⊢
  cases halts : (modSup d Supervisor.counted x.1).haltsByTest d with
  | true =>
    obtain ⟨⟨_, _, _, own⟩, pair, others⟩ := supervise_halts halts
    by_cases hc : c = d
    · subst hc
      obtain ⟨-, -, -, ht⟩ | ⟨-, ht, -⟩ := h
      · exact absurd ht (by tauto)
      · have same : x.1.link c = link := ht.resolve_left (by tauto)
        exact .inl ⟨own.link, own.unlocked, .inr (same ▸ (haltsByTest_counted halts).1), .inl (Set.mem_insert c T)⟩
    · by_cases hp : TakesPartner x.1 d ∧ c = partner d
      · obtain ⟨takes, rfl⟩ := hp
        obtain ⟨_, _, _, other⟩ := pair takes
        refine .inl ⟨other.link, other.unlocked, .inl ((paired_partner x.1 d).trans takes.1), .inr ?_⟩
        simp [takes.1]
      · rw [halts] at grows
        refine (h.mono grows).congr ?_ ?_ <;> rw [others c hc fun takes e => hp ⟨takes, e⟩]
  | false =>
    rw [halts] at grows
    obtain ⟨own, others⟩ := supervise_stays halts
    by_cases hc : c = d
    · subst hc
      exact h.kept (by tauto) own (.inl (Set.mem_insert c T))
    · refine (h.mono grows).congr ?_ ?_ <;> rw [others c hc]

/-- How the carrier `c`, which began the boundary as `k`, stands once `n` blocks have worked and the carriers of `T` have
had their turn. -/
structure CarrierSince (s : State) (c : Carrier) (k : CarrierState) (n : Nat) (T : Set Carrier)
    (x : State × List Carrier) : Prop where
  paired : x.1.paired c = s.paired c
  closed : ClosedSince n k (x.1.car c)
  judged : RunJudged (s.paired c = true) (c ∈ T ∨ c ∈ x.2) k.sup.link k.rac.unlocked (x.1.car c)

namespace CarrierSince

theorem start {s u : State} (c : Carrier) (paired : u.paired c = s.paired c) :
    CarrierSince s c (u.car c) 0 ∅ (u, []) :=
  ⟨paired, .refl _, .inr ⟨rfl, .inr rfl, id⟩⟩

theorem turn {s : State} {c d : Carrier} {k : CarrierState} {n : Nat} {T : Set Carrier} {x : State × List Carrier}
    (fresh : d ∉ T) (h : CarrierSince s c k n T x) : CarrierSince s c k n (insert d T) (superviseOnce d x) := by
  have judged := superviseOnce_judged fresh (h.paired ▸ h.judged)
  rw [h.paired] at judged
  refine ⟨?_, h.closed.turn ?_, judged⟩
  · unfold superviseOnce
    split
    · exact h.paired
    · have hf := supervise_frame d x.1
      simpa only [State.paired, hf.pairedA, hf.pairedB] using h.paired
  · unfold superviseOnce
    split
    · exact .refl _
    · exact supervise_leaves d c x.1

theorem work {s : State} {c : Carrier} {k : CarrierState} {n : Nat} {T : Set Carrier} {x : State × List Carrier}
    {order : AlarmKind → List Carrier} (perm : (order .diversity).Perm [0, 1, 2, 3]) (present : Four Bool) (hn : n < 5)
    (h : CarrierSince s c k n T x) : CarrierSince s c k (n + 1) T (blockWork (blockAt order present n) x) := by
  have hb := (blockAt_block order present hn x.1).carriers c
  have hf := blockAt_frame order present hn x.1
  refine ⟨?_, h.closed.block hb ?_, h.judged.congr (congrArg Supervisor.link hb.sup) hb.unlocked⟩
  · simpa only [blockWork, State.paired, hf.pairedA, hf.pairedB] using h.paired
  · rintro rfl on
    exact qualityWork_closed perm present on

end CarrierSince

/-- The whole boundary at one carrier. -/
theorem boundaryWith_car (place : Carrier → Nat) {order : AlarmKind → List Carrier}
    (perm : (order .diversity).Perm [0, 1, 2, 3]) (s : State) (c : Carrier) :
    ∃ T done, CarrierSince s c ((startBoundary s).car c) 5 T (boundaryWith place order s, done) := by
  obtain ⟨-, pairedA, pairedB⟩ := startBoundary_device s
  have start := CarrierSince.start (s := s) (u := startBoundary s) c (by simp only [State.paired, pairedA, pairedB])
  generalize (startBoundary s).car c = k at start ⊢
  obtain ⟨done, h⟩ := boundaryWith_induction place order s (CarrierSince s c k) start
    (fun _ _ _ _ fresh h => h.turn fresh) (fun _ _ _ hn h => h.work perm s.presence hn)
  exact ⟨_, done, h⟩

/-! ### The counts of the superframe just ended -/

theorem occupancy_modify (xs : List Nat) (profile i : Nat) :
    (xs.modify profile count32)[i]? = xs[i]?.map fun n => if i = profile then min (n + 1) 4294967295 else n := by
  rw [List.getElem?_modify]
  by_cases h : profile = i
  · simp [h, count32]
  · simp [h, Ne.symm h]

/-- The superframe is counted at the link state and the profile of its close (R77). -/
theorem closed_counts (k : CarrierState) :
    k.closed.stats.duplicates = k.stats.duplicates ∧
    (k.sup.link = .active ∨ k.sup.link = .quiet → k.closed.stats.outage = k.stats.outage ∧
      k.closed.stats.occupancy = k.stats.occupancy.modify k.rac.current count32) ∧
    (k.sup.link = .halted ∨ k.sup.link = .seeking →
      k.closed.stats.outage = min (k.stats.outage + 1) 4294967295 ∧
      k.closed.stats.occupancy = k.stats.occupancy) := by
  cases h : k.sup.link <;> simp [CarrierState.closed, CarrierStats.countSuperframe, h, count32]

/-- A superframe is judged locked when a lock and a report were seen in it (R76). -/
theorem closed_judged {k : CarrierState} (on : k.sup.link ≠ .disabled) :
    k.closed.rac.unlocked =
      if k.rac.lockSeen = true ∧ k.est.minC ≠ none then 0 else min (k.rac.unlocked + 1) 255 := by
  simp [CarrierState.closed, on, Rac.judgeLock, count8, Option.isSome_iff_ne_none]

theorem closed_lockSeen (k : CarrierState) : k.closed.rac.lockSeen = false := by
  unfold CarrierState.closed
  split <;> rfl

/-- Settles O22: the start of the boundary closes the superframe, and `boundaryWith_car` carries that to its end. -/
theorem boundaryClosesTheSuperframe : Obligations.BoundaryClosesTheSuperframe := by
  rintro place order s _ c _ run perm rfl rfl hrun
  obtain ⟨T, done, -, closed, judged⟩ := boundaryWith_car place (perm .diversity) s c
  rw [car_startBoundary] at closed judged
  obtain ⟨k, hk⟩ : ∃ k, k = (s.car c).startBoundary := ⟨_, rfl⟩
  rw [← hk] at closed judged
  obtain ⟨hsup, -, hest, hfade⟩ := closed_keeps k
  have hlink : k.closed.sup.link = (s.car c).sup.link := by rw [hsup, hk]; rfl
  refine ⟨closed.lockSeen.trans (closed_lockSeen k), fun off => ?_, fun on => ?_⟩
  · have off' := hlink.trans off
    obtain ⟨est, rac, stats, fade⟩ := closed.disabled off'
    have shut : k.closed = { k with rac := { k.rac with lockSeen := false } } := if_pos (by rw [hk]; exact off)
    rw [est, rac, stats, fade, shut, hk]
    exact ⟨rfl, rfl, rfl, rfl, closed.off.mpr off'⟩
  · have on' : k.closed.sup.link ≠ .disabled := hlink ▸ on
    have counts := closed.superframes
    simp only [CarrierStats.superframes, Prod.mk.injEq] at counts
    obtain ⟨duplicates, occupancy, outage⟩ := counts
    obtain ⟨keeps, serves, waits⟩ := closed_counts k
    have run' : k.closed.rac.unlocked = run := by
      rw [closed_judged (by rw [← hsup]; exact on'), hrun, hk]
      rfl
    rw [run', hlink] at judged
    have ended := closed.closed (by decide) on'
    rw [hest, hk] at ended
    rw [duplicates, occupancy, outage]
    subst hk
    refine ⟨keeps, fun h => ?_, fun h => waits h, fun h => ?_, fun h fresh => ?_, ended.minC, ended.minRsl,
      ended.minA, ended.minB, ended.clipSeen, ended.absentA, ended.absentB⟩
    · obtain ⟨out, occ⟩ := serves h
      exact ⟨out, fun i => by rw [occ]; exact occupancy_modify _ _ i⟩
    · obtain ⟨halted, -, pair, -⟩ | ⟨e, -⟩ := judged
      · obtain h | ⟨alone, before⟩ := h
        · exact absurd halted h
        · exact absurd pair (by simp [alone, before])
      · exact e
    · obtain ⟨-, e, -⟩ | ⟨-, -, before⟩ := judged
      · exact e
      · exact absurd (before h) fresh

end Sys2Proof.Machine
end

section
/-! SUPPORT. No block's work reads the miss, holdoff and seek counts: the Supervisor's counting of a carrier and each
block's work give the same in either order (log entry 4). -/

namespace Sys2Proof.Machine

/-- The counts of a carrier taken at a boundary (R133, R139, R140). -/
abbrev takeCounts (c : Carrier) (s : State) : State := modSup c Supervisor.counted s

/-! ### What the counts do not show in -/

@[simp] theorem takeCounts_link (c d : Carrier) (s : State) : (takeCounts c s).link d = s.link d := link_counted c d s

/-- The governing values of a carrier, its link state among them, are not counts. -/
theorem takeCounts_sup (c d : Carrier) (s : State) :
    ((takeCounts c s).car d).sup.link = (s.car d).sup.link ∧ ((takeCounts c s).car d).sup.record = (s.car d).sup.record ∧
      ((takeCounts c s).car d).sup.inForce = (s.car d).sup.inForce := by
  rw [car_counted]
  split
  next h => subst h; simp
  next => exact ⟨rfl, rfl, rfl⟩

@[simp] theorem takeCounts_record (c d : Carrier) (s : State) :
    ((takeCounts c s).car d).sup.record = (s.car d).sup.record := (takeCounts_sup c d s).2.1

@[simp] theorem takeCounts_inForce (c d : Carrier) (s : State) :
    ((takeCounts c s).car d).sup.inForce = (s.car d).sup.inForce := (takeCounts_sup c d s).2.2

@[simp] theorem takeCounts_enabled (c d : Carrier) (s : State) : (takeCounts c s).enabled d = s.enabled d := by
  simp [State.enabled]

@[simp] theorem takeCounts_paired (c d : Carrier) (s : State) : (takeCounts c s).paired d = s.paired d := rfl

@[simp] theorem takeCounts_isUpper (c d : Carrier) (s : State) : (takeCounts c s).isUpper d = s.isUpper d := rfl

@[simp] theorem takeCounts_govInForce (c d : Carrier) (s : State) :
    (takeCounts c s).govInForce d = s.govInForce d := takeCounts_inForce c (s.gov d) s

@[simp] theorem takeCounts_wireOr (c : Carrier) (k : AlarmKind) (s : State) : (takeCounts c s).wireOr k = s.wireOr k := by
  cases k <;> simp [State.wireOr]

@[simp] theorem takeCounts_decisionInput (c d : Carrier) (s : State) :
    (takeCounts c s).decisionInput d = s.decisionInput d := by
  simp [State.decisionInput]

@[simp] theorem takeCounts_orderAt (c d : Carrier) (st : OrderState) (e : Word32) (s : State) :
    (takeCounts c s).orderAt d st e = s.orderAt d st e := by
  simp [State.orderAt]

@[simp] theorem takeCounts_highestCandidate (c d : Carrier) (b : Nat) (s : State) :
    (takeCounts c s).highestCandidate d b = s.highestCandidate d b := by
  have same : (takeCounts c s).candidate d = s.candidate d := by
    funext i
    simp only [State.candidate, takeCounts_govInForce]
    rfl
  simp only [State.highestCandidate, same]

@[simp] theorem takeCounts_targetOf (c d : Carrier) (s : State) : (takeCounts c s).targetOf d = s.targetOf d := by
  simp [State.targetOf, State.inMismatch, State.adviceBound]

@[simp] theorem takeCounts_mayOpen (c d : Carrier) (s : State) : (takeCounts c s).mayOpen d = s.mayOpen d := by
  have waits : (takeCounts c s).cancelWaits d = s.cancelWaits d := rfl
  simp [State.mayOpen, waits]

@[simp] theorem takeCounts_newOrder (c d : Carrier) (s : State) : (takeCounts c s).newOrder d = s.newOrder d := by
  simp [State.newOrder]

@[simp] theorem takeCounts_anyOrderOpen (c : Carrier) (s : State) : (takeCounts c s).anyOrderOpen = s.anyOrderOpen := by
  simp [State.anyOrderOpen]

@[simp] theorem takeCounts_lowestInUse (c : Carrier) (n : Nat) (s : State) :
    (takeCounts c s).lowestInUse n = s.lowestInUse n := by
  simp [State.lowestInUse, inUseAt]

/-! ### The operations over the state -/

/-- A change of a carrier that passes by its counts. -/
theorem modCar_takeCounts {d : Carrier} {f : CarrierState → CarrierState}
    (h : ∀ k, f { k with sup := k.sup.counted } = { f k with sup := (f k).sup.counted }) (c : Carrier) (s : State) :
    modCar d f (takeCounts c s) = takeCounts c (modCar d f s) := by
  have carriers : (modCar d f (takeCounts c s)).carriers = (takeCounts c (modCar d f s)).carriers := by
    refine Four.ext_get fun e => ?_
    change (modCar d f (takeCounts c s)).car e = (takeCounts c (modCar d f s)).car e
    simp only [car_modCar, car_counted]
    split <;> split <;> simp_all
  change { s with carriers := (modCar d f (takeCounts c s)).carriers } =
    { s with carriers := (takeCounts c (modCar d f s)).carriers }
  rw [carriers]

@[simp] theorem modEst_takeCounts (c d : Carrier) (f : Estimator → Estimator) (s : State) :
    modEst d f (takeCounts c s) = takeCounts c (modEst d f s) := modCar_takeCounts (by intro _; rfl) c s

@[simp] theorem modRac_takeCounts (c d : Carrier) (f : Rac → Rac) (s : State) :
    modRac d f (takeCounts c s) = takeCounts c (modRac d f s) := modCar_takeCounts (by intro _; rfl) c s

@[simp] theorem modTac_takeCounts (c d : Carrier) (f : Tac → Tac) (s : State) :
    modTac d f (takeCounts c s) = takeCounts c (modTac d f s) := modCar_takeCounts (by intro _; rfl) c s

@[simp] theorem modLac_takeCounts (c d : Carrier) (f : Lac → Lac) (s : State) :
    modLac d f (takeCounts c s) = takeCounts c (modLac d f s) := modCar_takeCounts (by intro _; rfl) c s

@[simp] theorem modTacStats_takeCounts (c d : Carrier) (f : TacStats → TacStats) (s : State) :
    modTacStats d f (takeCounts c s) = takeCounts c (modTacStats d f s) :=
  modCar_takeCounts (f := fun k => { k with stats := { k.stats with tac := f k.stats.tac } }) (by intro _; rfl) c s

@[simp] theorem emit_takeCounts (c : Carrier) (d : Directive) (s : State) :
    emit d (takeCounts c s) = takeCounts c (emit d s) := rfl

@[simp] theorem clearPlace_takeCounts (c : Carrier) (p : Place) (s : State) :
    clearPlace p (takeCounts c s) = takeCounts c (clearPlace p s) := rfl

@[simp] theorem placeMessage_takeCounts (c : Carrier) (p : Place) (m : LacMsg) (s : State) :
    placeMessage p m (takeCounts c s) = takeCounts c (placeMessage p m s) := rfl

@[simp] theorem modTables_takeCounts (c : Carrier) (f : TableStore → TableStore) (s : State) :
    modTables f (takeCounts c s) = takeCounts c (modTables f s) := rfl

@[simp] theorem modSender_takeCounts (c : Carrier) (f : Sender → Sender) (s : State) :
    modSender f (takeCounts c s) = takeCounts c (modSender f s) := rfl

@[simp] theorem placeNotice_takeCounts (c : Carrier) (n : Notice) (s : State) :
    placeNotice n (takeCounts c s) = takeCounts c (placeNotice n s) := by
  unfold placeNotice
  simp only [modSup_alarms, apply_ite (takeCounts c)]
  rfl

@[simp] theorem formCollapsed_takeCounts (c : Carrier) (k : AlarmKind) (s : State) :
    formCollapsed k (takeCounts c s) = takeCounts c (formCollapsed k s) := by
  have held : (takeCounts c s).collapsedWire k = s.collapsedWire k := rfl
  have change (a : Alarms) : { takeCounts c s with alarms := a } = takeCounts c { s with alarms := a } := rfl
  have alert (u : State) : formAlert (takeCounts c u) = takeCounts c (formAlert u) := rfl
  unfold formCollapsed
  simp only [takeCounts_wireOr, held, change, placeNotice_takeCounts, alert, modSup_alarms]
  split <;> rfl

@[simp] theorem setWire_takeCounts (c d : Carrier) (k : AlarmKind) (v : Bool) (s : State) :
    setWire k d v (takeCounts c s) = takeCounts c (setWire k d v s) := by
  unfold setWire
  rw [modCar_takeCounts (by intro _; rfl), formCollapsed_takeCounts]

/-- Work done carrier by carrier passes by the counts when each piece does. -/
theorem foldl_takeCounts {c : Carrier} (work : Carrier → State → State)
    (h : ∀ d u, work d (takeCounts c u) = takeCounts c (work d u)) (cs : List Carrier) (s : State) :
    cs.foldl (fun u d => work d u) (takeCounts c s) = takeCounts c (cs.foldl (fun u d => work d u) s) := by
  induction cs generalizing s with
  | nil => rfl
  | cons d cs ih => rw [List.foldl_cons, h, ih, List.foldl_cons]

/-! ### The estimators and the Fade Monitors -/

@[simp] theorem selectBranchWork_takeCounts (c d : Carrier) (s : State) :
    selectBranchWork d (takeCounts c s) = takeCounts c (selectBranchWork d s) := by
  unfold selectBranchWork
  simp only [takeCounts_inForce, modSup_car_est, modEst_takeCounts, emit_takeCounts]
  split
  · split <;> rfl
  · rfl

@[simp] theorem judgeBranchLoss_takeCounts (c d : Carrier) (s : State) :
    judgeBranchLoss d (takeCounts c s) = takeCounts c (judgeBranchLoss d s) := by
  simp [judgeBranchLoss]

theorem estimatorBoundary_takeCounts (c d : Carrier) (s : State) :
    estimatorBoundary d (takeCounts c s) = takeCounts c (estimatorBoundary d s) := by
  unfold estimatorBoundary
  simp only [takeCounts_enabled, takeCounts_inForce, modEst_takeCounts, selectBranchWork_takeCounts,
    judgeBranchLoss_takeCounts]
  split <;> rfl

theorem openFade_takeCounts (c d : Carrier) (f : Nat) (s : State) :
    openFade d f (takeCounts c s) = takeCounts c (openFade d f s) := by
  unfold openFade
  simp only [modSup_car_rac, modSup_timebase]
  rw [modCar_takeCounts (by intro _; rfl), setWire_takeCounts]

theorem closeFade_takeCounts (c d : Carrier) (ended : EndedBy) (s : State) :
    closeFade ended d (takeCounts c s) = takeCounts c (closeFade ended d s) := by
  have append (r : FadeRecord) (u : State) : appendFade r (takeCounts c u) = takeCounts c (appendFade r u) :=
    placeNotice_takeCounts c (.fadeRecorded r.carrier (u.fades.append r).log.length) { u with fades := u.fades.append r }
  unfold closeFade
  rw [modSup_car_fade]
  split
  · rfl
  · rw [modCar_takeCounts (by intro _; rfl), append, setWire_takeCounts]

theorem fadeBoundary_takeCounts (c d : Carrier) (present : Bool) (s : State) :
    fadeBoundary present d (takeCounts c s) = takeCounts c (fadeBoundary present d s) := by
  unfold fadeBoundary
  simp only [takeCounts_enabled, takeCounts_inForce, modSup_car_est, modSup_car_fade, openFade_takeCounts,
    closeFade_takeCounts]
  split
  · split
    · split <;> rfl
    · split
      · rfl
      · exact modCar_takeCounts (by intro _; rfl) c s
  · rfl

/-! ### The RACs -/

theorem racBoundary_takeCounts (c d : Carrier) (present : Bool) (s : State) :
    racBoundary present d (takeCounts c s) = takeCounts c (racBoundary present d s) := by
  unfold racBoundary
  simp only [takeCounts_link, takeCounts_govInForce, takeCounts_decisionInput, modRac_takeCounts]
  split
  next => rfl
  next => rfl
  next => rfl
  next => rfl
  next => split <;> rfl

/-! ### The TACs -/

@[simp] theorem mirrorOrder_takeCounts (c d : Carrier) (s : State) :
    mirrorOrder d (takeCounts c s) = takeCounts c (mirrorOrder d s) := by
  unfold mirrorOrder
  simp only [takeCounts_paired, takeCounts_enabled, modSup_car_tac, modTac_takeCounts]
  split <;> rfl

@[simp] theorem closeOrder_takeCounts (c d : Carrier) (st : OrderState) (b : Nat) (s : State) :
    closeOrder d st b (takeCounts c s) = takeCounts c (closeOrder d st b s) := by
  simp [closeOrder]

@[simp] theorem takeTarget_takeCounts (c d : Carrier) (t : Nat) (s : State) :
    takeTarget d t (takeCounts c s) = takeCounts c (takeTarget d t s) := by
  simp [takeTarget]

@[simp] theorem placeCancel_takeCounts (c d : Carrier) (o : OpenOrder) (s : State) :
    placeCancel d o (takeCounts c s) = takeCounts c (placeCancel d o s) := rfl

theorem closeOnTimebaseLoss_takeCounts (c d : Carrier) (s : State) :
    closeOnTimebaseLoss d (takeCounts c s) = takeCounts c (closeOnTimebaseLoss d s) := by
  unfold closeOnTimebaseLoss
  simp only [modSup_car_tac, modSup_timebase, placeCancel_takeCounts, closeOrder_takeCounts, emit_takeCounts]
  split
  · rfl
  · split
    · split <;> exact modTacStats_takeCounts c d _ _
    · rfl

theorem countBackoff_takeCounts (c d : Carrier) (s : State) :
    countBackoff d (takeCounts c s) = takeCounts c (countBackoff d s) := by
  have atEnd (u : State) : (takeCounts c u).backoffOver d = u.backoffOver d := by simp [State.backoffOver]
  unfold countBackoff
  simp only [modSup_car_tac, modTac_takeCounts, atEnd, closeOrder_takeCounts]
  split
  · split <;> rfl
  · rfl

theorem switchAtEffect_takeCounts (c d : Carrier) (s : State) :
    switchAtEffect d (takeCounts c s) = takeCounts c (switchAtEffect d s) := by
  unfold switchAtEffect switchOrder
  simp only [takeCounts_orderAt, modSup_timebase, clearPlace_takeCounts, closeOrder_takeCounts, takeTarget_takeCounts]
  split
  · split <;> exact modTacStats_takeCounts c d _ _
  · rfl

theorem deadline_takeCounts (c d : Carrier) (s : State) :
    deadline d (takeCounts c s) = takeCounts c (deadline d s) := by
  unfold deadline missDeadline
  simp only [takeCounts_orderAt, modSup_timebase, placeCancel_takeCounts, closeOrder_takeCounts,
    modTacStats_takeCounts, placeNotice_takeCounts]
  split <;> rfl

theorem armAtDeadline_takeCounts (c d : Carrier) (s : State) :
    armAtDeadline d (takeCounts c s) = takeCounts c (armAtDeadline d s) := by
  have entry (i : Nat) : (takeCounts c s).entry i = s.entry i := rfl
  unfold armAtDeadline armOrder
  simp only [takeCounts_orderAt, modSup_timebase, entry, emit_takeCounts, modTac_takeCounts, mirrorOrder_takeCounts]
  split
  · split <;> rfl
  · rfl

theorem formTarget_takeCounts (c d : Carrier) (s : State) :
    formTarget d (takeCounts c s) = takeCounts c (formTarget d s) := by
  unfold formTarget
  simp only [takeCounts_targetOf, modTac_takeCounts, takeCounts_paired, takeCounts_enabled]
  split <;> rfl

theorem reverseUpshift_takeCounts (c d : Carrier) (s : State) :
    reverseUpshift d (takeCounts c s) = takeCounts c (reverseUpshift d s) := by
  unfold reverseUpshift
  simp only [modSup_car_tac, placeCancel_takeCounts, closeOrder_takeCounts, modTacStats_takeCounts]
  split
  · rfl
  · split <;> rfl

theorem openOrderWork_takeCounts (c d : Carrier) (s : State) :
    openOrderWork d (takeCounts c s) = takeCounts c (openOrderWork d s) := by
  unfold openOrderWork
  simp only [takeCounts_mayOpen, takeCounts_newOrder, modTac_takeCounts, mirrorOrder_takeCounts,
    placeMessage_takeCounts, modTacStats_takeCounts]
  split <;> rfl

theorem applyPower_takeCounts (c d : Carrier) (s : State) :
    applyPower d (takeCounts c s) = takeCounts c (applyPower d s) := by
  unfold applyPower
  simp only [modSup_car_tac, takeCounts_record, modTac_takeCounts, modTacStats_takeCounts, emit_takeCounts]
  split
  · rfl
  · split <;> rfl

theorem tacBoundary_takeCounts (c d : Carrier) (s : State) :
    tacBoundary d (takeCounts c s) = takeCounts c (tacBoundary d s) := by
  have order (u : State) : orderBoundary d (takeCounts c u) = takeCounts c (orderBoundary d u) := by
    simp only [orderBoundary, closeOnTimebaseLoss_takeCounts, countBackoff_takeCounts, switchAtEffect_takeCounts,
      deadline_takeCounts, armAtDeadline_takeCounts, formTarget_takeCounts, reverseUpshift_takeCounts,
      openOrderWork_takeCounts]
  unfold tacBoundary
  simp only [takeCounts_enabled, takeCounts_isUpper, order]
  split
  · split <;> exact applyPower_takeCounts c d _
  · rfl

/-! ### The transfer sender and the table store -/

theorem placeAgain_takeCounts (c : Carrier) (s : State) :
    placeAgain (takeCounts c s) = takeCounts c (placeAgain s) := by
  unfold placeAgain
  rw [modSup_sender]
  split <;> rfl

theorem senderBoundary_takeCounts (c : Carrier) (s : State) :
    senderBoundary (takeCounts c s) = takeCounts c (senderBoundary s) := by
  have expired (u : State) : ackWaitExpired (takeCounts c u) = takeCounts c (ackWaitExpired u) := by
    unfold ackWaitExpired
    simp only [modSup_sender, modSender_takeCounts, placeAgain_takeCounts, clearPlace_takeCounts,
      placeNotice_takeCounts]
    split <;> rfl
  unfold senderBoundary
  simp only [modSup_sender, modSender_takeCounts, expired]
  split
  · rfl
  · split
    · split <;> rfl
    · rfl

theorem formMismatch_takeCounts (c d : Carrier) (s : State) :
    formMismatch d (takeCounts c s) = takeCounts c (formMismatch d s) := by
  simp [formMismatch]

theorem applyBoundary_takeCounts (c : Carrier) (order : List Carrier) (s : State) :
    applyBoundary order (takeCounts c s) = takeCounts c (applyBoundary order s) := by
  have take (entries : List Entry) (u : State) :
      takeApply order entries (takeCounts c u) = takeCounts c (takeApply order entries u) := by
    simp only [takeApply, modTables_takeCounts, foldl_takeCounts formMismatch (formMismatch_takeCounts c),
      placeNotice_takeCounts]
  unfold applyBoundary judgeApply
  simp only [modTables_takeCounts, modSup_tables, takeCounts_anyOrderOpen, takeCounts_lowestInUse, take,
    placeNotice_takeCounts]
  split
  · rfl
  · split
    · rfl
    · split <;> rfl

/-- Each block's work passes by the counts of every carrier. -/
theorem blockAt_takeCounts (order : AlarmKind → List Carrier) (present : Four Bool) {n : Nat} (h : n < 5) (c : Carrier)
    (s : State) : blockAt order present n (takeCounts c s) = takeCounts c (blockAt order present n s) := by
  match n, h with
  | 0, _ =>
    simp only [blockAt, qualityWork, foldl_takeCounts estimatorBoundary (estimatorBoundary_takeCounts c)]
    exact foldl_takeCounts (fun d => fadeBoundary (present.get d) d) (fun d => fadeBoundary_takeCounts c d _) _ _
  | 1, _ => exact foldl_takeCounts (fun d => racBoundary (present.get d) d) (fun d => racBoundary_takeCounts c d _) _ s
  | 2, _ => exact foldl_takeCounts tacBoundary (tacBoundary_takeCounts c) _ s
  | 3, _ => exact senderBoundary_takeCounts c s
  | 4, _ => exact applyBoundary_takeCounts c _ s

end Sys2Proof.Machine
end

section
/-! SUPPORT. A boundary at which no test of the Supervisor is met: its counts all taken first, then the work of the
blocks in the model's order (logs 3, 4, 5). -/

namespace Sys2Proof.Machine

/-! ### The blocks one after the other -/

/-- The work of the first `n` blocks. -/
def blocksUpTo (order : AlarmKind → List Carrier) (present : Four Bool) : Nat → State → State
  | 0, s => s
  | n + 1, s => blockAt order present n (blocksUpTo order present n s)

theorem blocksUpTo_takeCounts (order : AlarmKind → List Carrier) (present : Four Bool) {n : Nat} (h : n ≤ 5) (c : Carrier)
    (s : State) : blocksUpTo order present n (takeCounts c s) = takeCounts c (blocksUpTo order present n s) := by
  induction n with
  | zero => rfl
  | succ n ih => rw [blocksUpTo, ih (by omega), blockAt_takeCounts order present (by omega), blocksUpTo]

/-- What the tests of the Supervisor read of a carrier, and which carrier governs it (R134, R135, R139, R140). -/
structure TestedAlike (s t : State) : Prop where
  sup : ∀ d, (t.car d).sup = (s.car d).sup
  unlocked : ∀ d, (t.car d).rac.unlocked = (s.car d).rac.unlocked
  paired : ∀ d, t.paired d = s.paired d

theorem TestedAlike.trans {s t u : State} (h : TestedAlike s t) (g : TestedAlike t u) : TestedAlike s u :=
  ⟨fun d => (g.sup d).trans (h.sup d), fun d => (g.unlocked d).trans (h.unlocked d),
    fun d => (g.paired d).trans (h.paired d)⟩

theorem blocksUpTo_tested (order : AlarmKind → List Carrier) (present : Four Bool) {n : Nat} (h : n ≤ 5) (s : State) :
    TestedAlike s (blocksUpTo order present n s) := by
  induction n with
  | zero => exact ⟨fun _ => rfl, fun _ => rfl, fun _ => rfl⟩
  | succ n ih =>
    have hb := blockAt_block order present (show n < 5 by omega) (blocksUpTo order present n s)
    have hf := blockAt_frame order present (show n < 5 by omega) (blocksUpTo order present n s)
    refine (ih (by omega)).trans ⟨fun d => (hb.carriers d).sup, fun d => (hb.carriers d).unlocked, fun d => ?_⟩
    simp only [blocksUpTo, State.paired, hf.pairedA, hf.pairedB]

/-! ### A turn that meets no test -/

/-- What the tests of one carrier read. -/
theorem NoTestMet.congr {s t : State} {c : Carrier} (h : NoTestMet s c) (sup : (t.car c).sup = (s.car c).sup)
    (unlocked : (t.car c).rac.unlocked = (s.car c).rac.unlocked) (inForce : t.govInForce c = s.govInForce c) :
    NoTestMet t c := by
  have link : t.link c = s.link c := by rw [State.link, sup, State.link]
  have service : t.inService c = s.inService c := by rw [State.inService, link, State.inService]
  unfold NoTestMet
  rw [service, link, sup, unlocked, inForce]
  exact h

/-- Where no test is met none of the Supervisor's tests passes. -/
theorem NoTestMet.tests {s : State} {c : Carrier} (h : NoTestMet s c) :
    s.lockLost c = false ∧ s.goesQuiet c = false ∧ s.silenceHalts c = false ∧ s.holdoffOver c = false ∧
      s.seekOver c = false := by
  obtain ⟨lock, miss, silence, holdoff, seek⟩ := h
  have lockLost : s.lockLost c = false := by simpa [State.lockLost] using lock
  refine ⟨lockLost, ?_, ?_, ?_, ?_⟩
  · simpa [State.goesQuiet, lockLost] using miss
  · simpa [State.silenceHalts, lockLost] using silence
  · simpa [State.holdoffOver, Nat.pos_iff_ne_zero] using holdoff
  · simpa [State.seekOver, Nat.pos_iff_ne_zero] using seek

/-- A turn at which no test is met takes the carrier's counts alone. -/
theorem superviseOnce_noTest {c : Carrier} {s : State} (h : NoTestMet (takeCounts c s) c) :
    superviseOnce c (s, []) = (takeCounts c s, []) := by
  obtain ⟨lockLost, goesQuiet, silenceHalts, holdoffOver, seekOver⟩ := h.tests
  simp [superviseOnce, supervise, State.haltsByTest, lockLost, goesQuiet, silenceHalts, holdoffOver, seekOver]

/-! ### The counts of some carriers taken -/

/-- The part with the counts of the carriers of `T` taken. -/
structure CountsTaken (T : Set Carrier) (s t : State) : Prop where
  device : t = { s with carriers := t.carriers }
  taken : ∀ c ∈ T, t.car c = { s.car c with sup := (s.car c).sup.counted }
  rest : ∀ c, c ∉ T → t.car c = s.car c

theorem CountsTaken.start (s : State) : CountsTaken ∅ s s :=
  ⟨rfl, fun c h => absurd h (Set.notMem_empty c), fun _ _ => rfl⟩

theorem CountsTaken.take {T : Set Carrier} {c : Carrier} {s t : State} (fresh : c ∉ T) (h : CountsTaken T s t) :
    CountsTaken (insert c T) s (takeCounts c t) := by
  refine ⟨?_, fun d hd => ?_, fun d hd => ?_⟩
  · rw [h.device]
    rfl
  · rw [car_counted]
    split
    next e => rw [e, h.rest c fresh]
    next e => exact h.taken d (hd.resolve_left e)
  · have ne : d ≠ c := fun e => hd (e ▸ Set.mem_insert d T)
    rw [car_counted, if_neg ne]
    exact h.rest d fun k => hd (Set.mem_insert_of_mem c k)

/-- All counts taken, the part is determined. -/
theorem CountsTaken.unique {T : Set Carrier} {s t u : State} (h : CountsTaken T s t) (g : CountsTaken T s u) : t = u := by
  have carriers : t.carriers = u.carriers := by
    refine Four.ext_get fun c => ?_
    by_cases hc : c ∈ T
    · exact (h.taken c hc).trans (g.taken c hc).symm
    · exact (h.rest c hc).trans (g.rest c hc).symm
  rw [h.device, g.device, carriers]

/-- Counts change no record in force and no unlocked run. -/
theorem CountsTaken.keeps {T : Set Carrier} {s t : State} (h : CountsTaken T s t) (d : Carrier) :
    (t.car d).sup.inForce = (s.car d).sup.inForce ∧ (t.car d).rac.unlocked = (s.car d).rac.unlocked ∧
      t.paired d = s.paired d := by
  have paired : t.paired d = s.paired d := by
    rw [h.device]
    rfl
  by_cases hd : d ∈ T
  · rw [h.taken d hd]
    exact ⟨counted_inForce _, rfl, paired⟩
  · rw [h.rest d hd]
    exact ⟨rfl, rfl, paired⟩

theorem CountsTaken.govInForce {T : Set Carrier} {s t : State} (h : CountsTaken T s t) (d : Carrier) :
    t.govInForce d = s.govInForce d := by
  have gov : t.gov d = s.gov d := by simp only [State.gov, (h.keeps d).2.2]
  rw [State.govInForce, gov, (h.keeps _).1, State.govInForce]

/-! ### The whole boundary -/

/-- Where no carrier meets a test once all counts are taken, a boundary is the taking of the counts and then the work of
the blocks, wherever the Supervisor's turns fall (log entry 4). -/
theorem boundaryWith_noTest {place : Carrier → Nat} {order : AlarmKind → List Carrier} {s v : State}
    (counted : CountsTaken Set.univ (startBoundary s) v) (h : ∀ c, place c < 6 ∧ NoTestMet v c) :
    boundaryWith place order s = blocksUpTo order s.presence 5 v := by
  obtain ⟨done, -, -, w, hw, taken⟩ := boundaryWith_induction place order s
    (fun n T x => n ≤ 5 ∧ x.2 = [] ∧ ∃ w, x.1 = blocksUpTo order s.presence n w ∧ CountsTaken T (startBoundary s) w)
    ⟨by omega, rfl, _, rfl, .start _⟩
    (fun n T c x fresh ⟨hn, empty, w, hw, taken⟩ => by
      obtain ⟨u, done⟩ := x
      obtain rfl : done = [] := empty
      have alike := blocksUpTo_tested order s.presence hn (takeCounts c w)
      have push := blocksUpTo_takeCounts order s.presence hn c w
      have now := taken.take fresh
      have noTest : NoTestMet (takeCounts c u) c := by
        obtain rfl : u = _ := hw
        rw [← push]
        have own := now.taken c (Set.mem_insert c T)
        have gov : (blocksUpTo order s.presence n (takeCounts c w)).gov c = (takeCounts c w).gov c := by
          simp only [State.gov, alike.paired]
        refine (h c).2.congr ?_ ?_ ?_
        · rw [alike.sup, own, counted.taken c (Set.mem_univ c)]
        · rw [alike.unlocked, (now.keeps c).2.1, (counted.keeps c).2.1]
        · rw [counted.govInForce, ← now.govInForce, State.govInForce, gov, alike.sup, State.govInForce]
      rw [superviseOnce_noTest noTest]
      exact ⟨hn, rfl, takeCounts c w, by rw [push, ← hw], now⟩)
    (fun n T x hn ⟨_, empty, w, hw, taken⟩ => ⟨hn, empty, w, congrArg (blockAt order s.presence n) hw, taken⟩)
  have all : {d | place d < 6} = (Set.univ : Set Carrier) := Set.eq_univ_of_forall fun c => (h c).1
  rw [all] at taken
  exact hw.trans (congrArg _ (taken.unique counted))

/-- The five blocks' work, written out. -/
theorem blocksUpTo_five (order : AlarmKind → List Carrier) (present : Four Bool) (s : State) :
    blocksUpTo order present 5 s = applyBoundary (order .mismatch) (senderBoundary (transmitWork (receiveWork present
      (qualityWork order present s)))) := rfl

/-- A carrier at the start of a boundary with its counts taken, field by field (R1, R76, R77, R129, R133, R139,
R140). -/
theorem closed_counted (k : CarrierState) :
    { k.startBoundary.closed with sup := k.startBoundary.closed.sup.counted } = { k with
      reports := 0
      rac := { k.rac with
        lockSeen := false
        unlocked := if k.sup.link = .disabled then k.rac.unlocked
          else if k.rac.lockSeen = true ∧ k.est.minC ≠ none then 0 else min (k.rac.unlocked + 1) 255 }
      stats := { k.stats with
        occupancy := if k.sup.link = .active ∨ k.sup.link = .quiet then
          k.stats.occupancy.modify k.rac.current (fun n => min (n + 1) 4294967295) else k.stats.occupancy
        outage := if k.sup.link = .halted ∨ k.sup.link = .seeking then min (k.stats.outage + 1) 4294967295
          else k.stats.outage }
      sup := { k.sup with
        inForce := k.sup.record
        miss := if k.sup.link = .halted ∨ k.sup.link = .disabled then k.sup.miss else min (k.sup.miss + 1) 65535
        holdoff := if k.sup.link = .halted then k.sup.holdoff - 1 else k.sup.holdoff
        seek := if k.sup.link = .seeking then k.sup.seek - 1 else k.sup.seek } } := by
  have counts : (fun n => min (n + 1) 4294967295) = count32 := rfl
  cases h : k.sup.link <;>
    simp [CarrierState.startBoundary, CarrierState.closed, CarrierStats.countSuperframe, Rac.judgeLock,
      Supervisor.counted, h, counts, count32, count16, count8, Option.isSome_iff_ne_none]

/-! ### The estimator's work, written out -/

theorem countAbsent_eq (e : Estimator) :
    countAbsent e = { e with
      absentA := if e.minA = none then min (e.absentA + 1) 255 else 0
      absentB := if e.minB = none then min (e.absentB + 1) 255 else 0 } := by
  cases hA : e.minA <;> cases hB : e.minB <;> simp [countAbsent, count8, hA, hB]

/-- A change of an estimator is a change of that one context. -/
theorem modEst_eq (c : Carrier) (f : Estimator → Estimator) (s : State) :
    modEst c f s = { s with carriers := s.carriers.set c { s.car c with est := f (s.car c).est } } := rfl

/-- Settles O23: `boundaryWith_noTest` for the boundary, then the estimator's work and the apply written out. -/
theorem boundaryRunsTheBlocks : Obligations.BoundaryRunsTheBlocks := by
  refine ⟨fun place order s v _ device carriers noTest => ?_, fun s c => ⟨fun off => ?_, fun on => ?_, fun hr hb hd => ?_⟩⟩
  · have counted : CountsTaken Set.univ (startBoundary s) v := by
      refine ⟨?_, fun c _ => ?_, fun c h => absurd (Set.mem_univ c) h⟩
      · rw [startBoundary_eq]
        exact device
      · rw [car_startBoundary, closed_counted]
        exact carriers c _ rfl
    have present (c : Carrier) : s.presence.get c = (s.car c).est.minC.isSome := Four.get_map _ _ c
    refine ⟨_, _, _, rfl, rfl, rfl, ?_⟩
    rw [boundaryWith_noTest counted noTest, blocksUpTo_five]
    simp only [qualityWork, receiveWork, transmitWork, present]
    rfl
  · exact (estimatorBoundary_spec c s).1 off
  · have enabled : s.enabled c = true := by simpa [State.enabled] using on
    refine ⟨_, _, rfl, rfl, ?_, fun hr hb => ?_⟩
    · simp only [estimatorBoundary, enabled, if_true, modEst_eq, emptyAccumulators, countAbsent_eq]
    · change execBranchLoss c s = _
      simp [execBranchLoss, running_high _ hr, hb, enabled]
  · refine ⟨s.wireOrder .mismatch, wireOrder_perm s _, ?_⟩
    have free : (applyBoundary (s.wireOrder .mismatch) s).choices = s.choices :=
      (applyBoundary_frame (s.wireOrder .mismatch) s).choices
    change execApplyEffect s = _
    simp [execApplyEffect, running_high _ hr, hb, hd, drawn, free]

end Sys2Proof.Machine
end

section
/-! SUPPORT. Laws 1, 8 and 11 at one carrier, and what keeps them there: the estimator's arithmetic, the clamps of the
attenuation and of the advice, and every shared operation over the state. -/

namespace Sys2Proof.Machine

/-! ### The laws at one carrier -/

/-- Law 8 at one carrier, with its records in range. -/
def CarrierState.attenuated (k : CarrierState) : Prop :=
  recordInRange k.sup.record = true ∧ recordInRange k.sup.inForce = true ∧
    k.sup.record.attenMin ≤ k.tac.atten ∧ k.tac.atten ≤ 30

/-- A record in range has an atten_min of at most 30 dB (R126). -/
theorem attenMin_le {r : CarrierRecord} (h : recordInRange r = true) : r.attenMin ≤ 30 := by
  simp only [recordInRange, Bool.and_eq_true, decide_eq_true_eq] at h
  omega

/-- Law 11 at one carrier whose governing up_step is `up`. -/
def CarrierState.advised (up : Nat) (k : CarrierState) : Prop :=
  k.rac.advice ≤ k.rac.current + up ∧
    ((k.sup.link == .active || k.sup.link == .quiet) = false →
      k.rac.current = 0 ∧ k.rac.advice = 0 ∧ k.rac.armed = none)

theorem attenuationLaw_iff (s : State) : AttenuationLaw s ↔ ∀ c, (s.car c).attenuated :=
  ⟨fun h c => ⟨(h.1 c).1, (h.1 c).2, h.2 c⟩, fun h => ⟨fun c => ⟨(h c).1, (h c).2.1⟩, fun c => (h c).2.2⟩⟩

theorem adviceLaw_iff (s : State) : AdviceLaw s ↔ ∀ c, (s.car c).advised (s.govInForce c).upStep := Iff.rfl

/-- The three laws, each kept from `s` to `t`. -/
structure RangesKept (s t : State) : Prop where
  estimator : EstimatorLaw s → EstimatorLaw t
  attenuation : AttenuationLaw s → AttenuationLaw t
  advice : AdviceLaw s → AdviceLaw t

theorem RangesKept.refl (s : State) : RangesKept s s := ⟨id, id, id⟩

theorem RangesKept.trans {s t u : State} (h : RangesKept s t) (g : RangesKept t u) : RangesKept s u :=
  ⟨g.estimator ∘ h.estimator, g.attenuation ∘ h.attenuation, g.advice ∘ h.advice⟩

/-- A change of one carrier that keeps each law there, whatever up_step governs it. -/
structure CarrierRanged (k k' : CarrierState) : Prop where
  est : k.est.bounded → k'.est.bounded
  atten : k.attenuated → k'.attenuated
  upStep : k'.sup.inForce.upStep = k.sup.inForce.upStep
  advice : ∀ up, k.advised up → k'.advised up

theorem CarrierRanged.refl (k : CarrierState) : CarrierRanged k k := ⟨id, id, rfl, fun _ => id⟩

theorem CarrierRanged.trans {k l m : CarrierState} (h : CarrierRanged k l) (g : CarrierRanged l m) :
    CarrierRanged k m :=
  ⟨g.est ∘ h.est, g.atten ∘ h.atten, g.upStep.trans h.upStep, fun up => g.advice up ∘ h.advice up⟩

/-- A change of the estimator alone. -/
theorem CarrierRanged.of_est {k : CarrierState} {e : Estimator} (h : k.est.bounded → e.bounded) :
    CarrierRanged k { k with est := e } := ⟨h, id, rfl, fun _ => id⟩

/-- A change of the TAC alone, its attenuation kept in range. -/
theorem CarrierRanged.of_tac {k : CarrierState} {t : Tac} (h : k.attenuated → { k with tac := t }.attenuated) :
    CarrierRanged k { k with tac := t } := ⟨id, h, rfl, fun _ => id⟩

/-- A change of the RAC alone, its advice kept in range. -/
theorem CarrierRanged.of_rac {k : CarrierState} {r : Rac} (h : ∀ up, k.advised up → { k with rac := r }.advised up) :
    CarrierRanged k { k with rac := r } := ⟨id, id, rfl, h⟩

/-- Every carrier keeps the laws, and the pairing stays, so that the same up_step governs each. -/
structure RangeFrame (s t : State) : Prop where
  pairedA : t.pairedA = s.pairedA
  pairedB : t.pairedB = s.pairedB
  carriers : ∀ c, CarrierRanged (s.car c) (t.car c)

namespace RangeFrame

/-- The up_step that governs a carrier stays. -/
theorem upStep {s t : State} (h : RangeFrame s t) (c : Carrier) : (t.govInForce c).upStep = (s.govInForce c).upStep := by
  have hp (d : Carrier) : t.paired d = s.paired d := by simp [State.paired, h.pairedA, h.pairedB]
  unfold State.govInForce State.gov
  rw [hp]
  exact (h.carriers _).upStep

theorem kept {s t : State} (h : RangeFrame s t) : RangesKept s t where
  estimator l c := (h.carriers c).est (l c)
  attenuation l := (attenuationLaw_iff t).2 fun c => (h.carriers c).atten ((attenuationLaw_iff s).1 l c)
  advice l c := h.upStep c ▸ (h.carriers c).advice _ (l c)

theorem refl (s : State) : RangeFrame s s := ⟨rfl, rfl, fun _ => .refl _⟩

theorem trans {s t u : State} (h : RangeFrame s t) (g : RangeFrame t u) : RangeFrame s u :=
  ⟨g.pairedA.trans h.pairedA, g.pairedB.trans h.pairedB, fun c => (h.carriers c).trans (g.carriers c)⟩

/-- A step that touches neither a carrier nor the pairing. -/
theorem of_same {s t : State} (hc : t.carriers = s.carriers) (ha : t.pairedA = s.pairedA) (hb : t.pairedB = s.pairedB) :
    RangeFrame s t :=
  ⟨ha, hb, fun c => by simpa only [State.car, hc] using CarrierRanged.refl _⟩

/-- A step that changes one carrier, and not the pairing. -/
theorem of_one {s t : State} {c : Carrier} {k : CarrierState} (hc : t.carriers = s.carriers.set c k)
    (ha : t.pairedA = s.pairedA) (hb : t.pairedB = s.pairedB) (h : CarrierRanged (s.car c) k) : RangeFrame s t := by
  refine ⟨ha, hb, fun d => ?_⟩
  simp only [State.car, hc, Four.get_set]
  split
  · rename_i e
    rw [e]
    exact h
  · exact .refl _

theorem foldl {α : Type} {f : State → α → State} (h : ∀ u a, RangeFrame u (f u a)) (xs : List α) (s : State) :
    RangeFrame s (xs.foldl f s) := by
  induction xs generalizing s with
  | nil => exact refl s
  | cons x xs ih => exact (h s x).trans (ih _)

theorem ite {p : Prop} [Decidable p] {s t u : State} (h : p → RangeFrame s t) (g : ¬p → RangeFrame s u) :
    RangeFrame s (if p then t else u) := by
  split
  · exact h ‹_›
  · exact g ‹_›

/-! ### The operations over the state -/

theorem modCar {c : Carrier} {f : CarrierState → CarrierState} {s : State} (h : CarrierRanged (s.car c) (f (s.car c))) :
    RangeFrame s (modCar c f s) := of_one (c := c) rfl rfl rfl h

theorem modEst {c : Carrier} {f : Estimator → Estimator} {s : State}
    (h : (s.car c).est.bounded → (f (s.car c).est).bounded) : RangeFrame s (modEst c f s) := modCar (.of_est h)

theorem modStats (c : Carrier) (f : CarrierStats → CarrierStats) (s : State) : RangeFrame s (modStats c f s) :=
  modCar ⟨id, id, rfl, fun _ => id⟩

theorem modRacStats (c : Carrier) (f : RacStats → RacStats) (s : State) : RangeFrame s (modRacStats c f s) :=
  modStats c _ s

theorem modTacStats (c : Carrier) (f : TacStats → TacStats) (s : State) : RangeFrame s (modTacStats c f s) :=
  modStats c _ s

theorem modLacStats (c : Carrier) (f : LacStats → LacStats) (s : State) : RangeFrame s (modLacStats c f s) :=
  modStats c _ s

theorem modLac (c : Carrier) (f : Lac → Lac) (s : State) : RangeFrame s (modLac c f s) :=
  modCar ⟨id, id, rfl, fun _ => id⟩

/-- A change of a TAC that leaves its attenuation. -/
theorem modTac {c : Carrier} {f : Tac → Tac} (s : State) (h : ∀ t, (f t).atten = t.atten := by exact fun _ => rfl) :
    RangeFrame s (modTac c f s) := by
  refine modCar (.of_tac fun l => ?_)
  simpa only [CarrierState.attenuated, h] using l

/-- A change of a RAC that leaves its current profile and its advice, and arms nothing. -/
theorem modRac {c : Carrier} {f : Rac → Rac} (s : State)
    (h : ∀ r, (f r).current = r.current ∧ (f r).advice = r.advice ∧ (r.armed = none → (f r).armed = none) := by
      exact fun _ => ⟨rfl, rfl, fun unarmed => unarmed⟩) : RangeFrame s (modRac c f s) := by
  obtain ⟨hc, ha, hn⟩ := h (s.car c).rac
  refine modCar (.of_rac fun up l => ?_)
  simp only [CarrierState.advised, hc, ha]
  exact ⟨l.1, fun out => ⟨(l.2 out).1, (l.2 out).2.1, hn (l.2 out).2.2⟩⟩

theorem emit (d : Directive) (s : State) : RangeFrame s (emit d s) := of_same rfl rfl rfl

theorem placeMessage (p : Place) (m : LacMsg) (s : State) : RangeFrame s (placeMessage p m s) := of_same rfl rfl rfl

theorem clearPlace (p : Place) (s : State) : RangeFrame s (clearPlace p s) := of_same rfl rfl rfl

theorem modTables (f : TableStore → TableStore) (s : State) : RangeFrame s (modTables f s) := of_same rfl rfl rfl

theorem modSender (f : Sender → Sender) (s : State) : RangeFrame s (modSender f s) := of_same rfl rfl rfl

theorem modReceiver (f : Receiver → Receiver) (s : State) : RangeFrame s (modReceiver f s) := of_same rfl rfl rfl

theorem modPort (f : Port → Port) (s : State) : RangeFrame s (modPort f s) := of_same rfl rfl rfl

theorem reply (f : Frame) (body : List Byte) (s : State) : RangeFrame s (reply f body s) := modPort _ s

theorem placeNotice (n : Notice) (s : State) : RangeFrame s (placeNotice n s) := by
  obtain ⟨p, e, -⟩ := placeNotice_spec n s
  rw [e]
  exact of_same rfl rfl rfl

theorem formCollapsed (k : AlarmKind) (s : State) : RangeFrame s (formCollapsed k s) := by
  obtain ⟨a, b, p, e, -⟩ := formCollapsed_spec k s
  rw [e]
  exact of_same rfl rfl rfl

theorem setWire (k : AlarmKind) (c : Carrier) (v : Bool) (s : State) : RangeFrame s (setWire k c v s) :=
  (modCar (f := fun x => { x with wires := x.wires.set k v }) ⟨id, id, rfl, fun _ => id⟩).trans (formCollapsed k _)

theorem setTimebaseWire (v : Bool) (s : State) : RangeFrame s (setTimebaseWire v s) :=
  (of_same rfl rfl rfl : RangeFrame s { s with alarms := { s.alarms with timebaseWire := v } }).trans (formCollapsed _ _)

theorem setStoreWire (v : Bool) (s : State) : RangeFrame s (setStoreWire v s) :=
  (of_same rfl rfl rfl : RangeFrame s { s with alarms := { s.alarms with storeWire := v } }).trans (formCollapsed _ _)

theorem closeFade (e : EndedBy) (c : Carrier) (s : State) : RangeFrame s (closeFade e c s) := by
  obtain ⟨a, b, p, e, -⟩ := closeFade_any e c s
  rw [e]
  exact of_one (c := c) rfl rfl rfl ⟨id, id, rfl, fun _ => id⟩

theorem formMismatch (c : Carrier) (s : State) : RangeFrame s (formMismatch c s) := (modLac c _ s).trans (setWire _ _ _ _)

theorem senderFollowsLinks (s : State) : RangeFrame s (senderFollowsLinks s) := by
  rw [(senderFollowsLinks_spec s).2]
  exact of_same rfl rfl rfl

end RangeFrame

/-- A step that touches neither a carrier nor the pairing keeps the laws. -/
theorem RangesKept.of_same {s t : State} (hc : t.carriers = s.carriers) (ha : t.pairedA = s.pairedA)
    (hb : t.pairedB = s.pairedB) : RangesKept s t := (RangeFrame.of_same hc ha hb).kept

/-! ### Entries -/

/-- HALTED entry leaves a carrier at base, its attenuation at its atten_min (R19, R61, R83). -/
theorem CarrierHalted.ranged {tHold : Nat} {upper : Bool} {x : SupStats} {k k' : CarrierState}
    (h : CarrierHalted tHold upper x k k') : CarrierRanged k k' := by
  obtain ⟨he, hr, ht, -, hs, -⟩ := h
  refine ⟨fun l => ?_, fun l => ?_, by rw [hs], fun up _ => ?_⟩
  · rw [he]
    exact ⟨l.1, by simp, by simp, by simp⟩
  · have ha : k'.tac.atten = k.sup.record.attenMin := congrArg Tac.atten (show k'.tac = _ from ht)
    rw [CarrierState.attenuated, hs, ha]
    exact ⟨l.1, l.2.1, Nat.le_refl _, attenMin_le l.1⟩
  · simp [CarrierState.advised, show k'.rac = _ from hr]

/-- DISABLED entry leaves the contexts of R61 and R83 as HALTED entry does (R131). -/
theorem CarrierDisabled.ranged {upper : Bool} {k k' : CarrierState} (h : CarrierDisabled upper k k') :
    CarrierRanged k k' := by
  obtain ⟨he, hr, ht, -, hs, -⟩ := h
  refine ⟨fun _ => ?_, fun l => ?_, by rw [hs], fun up _ => ?_⟩
  · rw [he]
    exact ⟨by simp, by simp, by simp, by simp⟩
  · have ha : k'.tac.atten = k.sup.record.attenMin := congrArg Tac.atten (show k'.tac = _ from ht)
    rw [CarrierState.attenuated, hs, ha]
    exact ⟨l.1, l.2.1, Nat.le_refl _, attenMin_le l.1⟩
  · simp [CarrierState.advised, show k'.rac = _ from hr]

theorem DeviceSame.pairing {s t : State} (h : DeviceSame s t) : t.pairedA = s.pairedA ∧ t.pairedB = s.pairedB := by
  rw [h]
  exact ⟨rfl, rfl⟩

/-- A part whose carrier `c` changes as the laws allow, with it perhaps its partner, and no other. -/
theorem RangeFrame.of_entry {s t : State} {c : Carrier} (pairing : t.pairedA = s.pairedA ∧ t.pairedB = s.pairedB)
    (own : CarrierRanged (s.car c) (t.car c))
    (pair : TakesPartner s c → CarrierRanged (s.car (partner c)) (t.car (partner c)) ∧
      ∀ d, d ≠ c → d ≠ partner c → t.car d = s.car d)
    (alone : ¬ TakesPartner s c → OthersSame c s t) : RangeFrame s t := by
  refine ⟨pairing.1, pairing.2, fun d => ?_⟩
  by_cases hd : d = c
  · rw [hd]
    exact own
  by_cases ht : TakesPartner s c
  · by_cases hp : d = partner c
    · rw [hp]
      exact (pair ht).1
    · rw [(pair ht).2 d hd hp]
      exact .refl _
  · rw [alone ht d hd]
    exact .refl _

theorem haltedEntry_ranges (c : Carrier) (cause : HaltCause) (s : State) : RangeFrame s (haltedEntry c cause s) := by
  obtain ⟨⟨own, device, -, pair, alone⟩, -⟩ := haltedEntry_spec c cause s
  exact .of_entry device.pairing own.ranged (fun ht => ⟨(pair ht).1.ranged, (pair ht).2.1⟩) fun ht => (alone ht).1

theorem disabledEntry_ranges (c : Carrier) (s : State) : RangeFrame s (disabledEntry c s) := by
  obtain ⟨⟨own, device, pair, alone⟩, -⟩ := disabledEntry_spec c s
  exact .of_entry (s := s) device.pairing own.ranged (fun ht => ⟨(pair ht).2.1.ranged, (pair ht).2.2.1⟩)
    fun ht => (alone ht).2.1

/-- A change of a Supervisor that leaves its records, its link state kept or become one in service. -/
theorem RangeFrame.modSup {c : Carrier} {f : Supervisor → Supervisor} {s : State}
    (hr : (f (s.car c).sup).record = (s.car c).sup.record) (hi : (f (s.car c).sup).inForce = (s.car c).sup.inForce)
    (hl : (f (s.car c).sup).link = (s.car c).sup.link ∨ (f (s.car c).sup).link = .active ∨
      (f (s.car c).sup).link = .quiet) : RangeFrame s (modSup c f s) := by
  refine modCar ⟨id, fun l => ?_, by simp only [hi], fun up l => ⟨l.1, fun out => ?_⟩⟩
  · simpa only [CarrierState.attenuated, hr, hi] using l
  · rcases hl with e | e | e
    · exact l.2 (by simpa only [e] using out)
    · simp [e] at out
    · simp [e] at out

theorem enterActive_ranges (c : Carrier) (s : State) : RangeFrame s (enterActive c s) :=
  (((RangeFrame.modSup rfl rfl (.inr (.inl rfl))).trans (.modRac _)).trans (.setWire _ _ _ _)).trans
    (.senderFollowsLinks _)

theorem enterQuiet_ranges (c : Carrier) (s : State) : RangeFrame s (enterQuiet c s) :=
  (((RangeFrame.modSup rfl rfl (.inr (.inr rfl))).trans (.modStats c _ _)).trans (.setWire _ _ _ _)).trans
    (.senderFollowsLinks _)

/-- A HALTED carrier is at base, and so is what enters SEEKING (R139). -/
theorem enterSeeking_ranges {c : Carrier} {s : State} (h : s.link c = .halted) : RangeFrame s (enterSeeking c s) := by
  have hl : (s.car c).sup.link = .halted := h
  refine ((RangeFrame.modCar ?_).trans (.setWire _ _ _ _)).trans (.senderFollowsLinks _)
  exact ⟨id, id, rfl, fun up l => ⟨l.1, fun _ => l.2 (by simp [hl])⟩⟩

/-! ### The estimator (law 1) -/

/-- Division by four truncated toward zero (R29). -/
theorem tdiv_four (x : Int) : ∃ rem : Int, x = 4 * Int.tdiv x 4 + rem ∧ rem.natAbs < 4 ∧ (0 ≤ x → 0 ≤ rem) ∧
    (x ≤ 0 → rem ≤ 0) := by
  have hr : (Int.tmod x 4).natAbs < 4 := by
    rw [Int.natAbs_tmod]
    exact Nat.mod_lt _ (by decide)
  refine ⟨Int.tmod x 4, (Int.mul_tdiv_add_tmod x 4).symm, hr, Int.tmod_nonneg 4, fun h => ?_⟩
  have := Int.tmod_nonneg 4 (Int.neg_nonneg.2 h)
  rw [Int.neg_tmod] at this
  omega

theorem tdiv_four_le {x : Int} (h : -4080 ≤ x) (h' : x ≤ 4080) : -1020 ≤ Int.tdiv x 4 ∧ Int.tdiv x 4 ≤ 1020 := by
  obtain ⟨rem, e, hr, h0, h1⟩ := tdiv_four x
  omega

/-- A release moves f up by at least a part of the way and never past the minimum (R28). -/
theorem release_bounds {d q : Nat} (hd : 0 < d) (hq : 0 < q) :
    0 < (d + (q - 1)) / q ∧ (d + (q - 1)) / q ≤ d ∧ d ≤ q * ((d + (q - 1)) / q) ∧
      q * ((d + (q - 1)) / q) < d + q := by
  have hm := Nat.div_add_mod (d + (q - 1)) q
  have hr := Nat.mod_lt (d + (q - 1)) hq
  have hle : (d + (q - 1)) / q ≤ d := by
    rw [Nat.div_le_iff_le_mul_add_pred hq]
    nlinarith [Nat.sub_le q 1]
  refine ⟨Nat.div_pos (by omega) hq, hle, by omega, by omega⟩

/-- f never leaves the span between its last value and the minimum (R28). -/
theorem filterNext_le (f : Option Nat) (shift : Nat) {x : Nat} (hx : x ≤ 1020) (hf : ∀ y ∈ f, y ≤ 1020) :
    filterNext f shift x ≤ 1020 := by
  cases f with
  | none => exact hx
  | some old =>
    have ho := hf old rfl
    unfold filterNext
    simp only
    split
    · exact hx
    · have h := (release_bounds (d := x - old) (q := 2 ^ shift) (by omega) (Nat.two_pow_pos shift)).2.1
      have e : x - old + (2 ^ shift - 1) = (x - old) + (2 ^ shift - 1) := rfl
      omega

/-- A superframe's reduction keeps f, g and p in their ranges (R28 to R30). -/
theorem reduceSuperframe_bounded (r : CarrierRecord) {e : Estimator} (h : e.bounded) :
    (reduceSuperframe r e).bounded := by
  obtain ⟨hc, hf, hp, hg⟩ := h
  unfold reduceSuperframe
  split
  · exact ⟨hc, hf, hp, hg⟩
  · rename_i m hm
    have hx : 4 * m ≤ 1020 := by
      have := hc m hm
      omega
    have hf' := filterNext_le e.f r.releaseShift hx hf
    refine ⟨hc, ?_, ?_, ?_⟩
    · rintro _ ⟨⟩
      exact hf'
    · rintro _ ⟨⟩
      unfold projected
      split
      · have : slopeNext e.f e.g (filterNext e.f r.releaseShift (4 * m)) * (r.lead : Int) ≤ 0 :=
          Int.mul_nonpos_of_nonpos_of_nonneg (by omega) (by omega)
        omega
      · omega
    · rintro _ ⟨⟩
      unfold slopeNext
      split
      · omega
      · rename_i old ho
        have := hf old ho
        refine tdiv_four_le ?_ ?_ <;>
        · cases eg : e.g with
          | none => simp; omega
          | some g =>
            have := hg g eg
            simp
            omega

/-- A frame's value is at most 255, whatever the mode (R21 to R25). -/
theorem combineFrame_le (mode : DiversityMode) (selection : Branch) {a b : BranchValue} (ha : a.snr ≤ 255)
    (hb : b.snr ≤ 255) : ∀ x ∈ (combineFrame mode selection a b).value, x.1 ≤ 255 := by
  have alone {y : BranchValue} (hy : y.snr ≤ 255) : ∀ x ∈ y.alone, x.1 ≤ 255 := by
    unfold BranchValue.alone
    intro x hx
    split at hx
    · cases hx
      exact hy
    · cases hx
  have either {y z : BranchValue} (hy : y.snr ≤ 255) (hz : z.snr ≤ 255) : ∀ x ∈ y.alone.or z.alone, x.1 ≤ 255 := by
    intro x hx
    rcases Option.or_eq_some_iff.1 hx with h | ⟨-, h⟩
    · exact alone hy x h
    · exact alone hz x h
  unfold combineFrame
  cases mode with
  | branchA => exact alone ha
  | branchB => exact alone hb
  | select =>
    cases selection with
    | a => exact either ha hb
    | b => exact either hb ha
  | combine =>
    simp only
    split
    · rintro _ ⟨⟩
      exact Nat.min_le_left _ _
    · exact either ha hb

/-- A frame taken leaves the accumulator of c in range (R20). -/
theorem takeFrame_bounded (mode : DiversityMode) {r : Report} (ha : r.a.snr ≤ 255) (hb : r.b.snr ≤ 255) {e : Estimator}
    (h : e.bounded) : (takeFrame mode r e).bounded := by
  refine ⟨fun x hx => ?_, h.2.1, h.2.2.1, h.2.2.2⟩
  have hv := combineFrame_le mode e.selection ha hb
  simp only [takeFrame] at hx
  split at hx
  · rename_i c rsl hc
    have hle := hv _ hc
    unfold lowerOpt at hx
    split at hx
    · cases hx
      exact hle
    · cases hx
      exact (Nat.min_le_right _ _).trans hle
  · exact h.1 x hx

theorem selectBranchWork_ranges (c : Carrier) (s : State) : RangeFrame s (selectBranchWork c s) := by
  obtain ⟨branch, due, out, e⟩ := selectBranchWork_spec c s
  rw [e]
  exact .of_one (c := c) rfl rfl rfl (.of_est id)

theorem judgeBranchLoss_ranges (c : Carrier) (s : State) : RangeFrame s (judgeBranchLoss c s) := by
  obtain ⟨lost, wires, a, b, p, e⟩ := judgeBranchLoss_spec c s
  rw [e]
  exact .of_one (c := c) rfl rfl rfl ⟨id, id, rfl, fun _ => id⟩

/-- The estimator's work at a boundary keeps law 1 (R26 to R36). -/
theorem estimatorBoundary_ranges (c : Carrier) (s : State) : RangeFrame s (estimatorBoundary c s) := by
  unfold estimatorBoundary
  refine .ite (fun _ => ?_) fun _ => .refl s
  have reduced : RangeFrame s (modEst c (reduceSuperframe (s.car c).sup.inForce) s) :=
    .modEst (reduceSuperframe_bounded _)
  have counted (u : State) : RangeFrame u (modEst c countAbsent u) := .modEst id
  have emptied (u : State) : RangeFrame u (modEst c emptyAccumulators u) :=
    .modEst fun l => ⟨by simp [emptyAccumulators], l.2⟩
  exact (((reduced.trans (selectBranchWork_ranges c _)).trans (counted _)).trans (judgeBranchLoss_ranges c _)).trans
    (emptied _)

theorem fadeBoundary_ranges (present : Bool) (c : Carrier) (s : State) : RangeFrame s (fadeBoundary present c s) := by
  obtain ⟨fade, wires, fades, a, b, p, e⟩ := (fadeBoundary_spec present c s).2
  rw [e]
  exact .of_one (c := c) rfl rfl rfl ⟨id, id, rfl, fun _ => id⟩

theorem qualityWork_ranges (order : AlarmKind → List Carrier) (present : Four Bool) (s : State) :
    RangeFrame s (qualityWork order present s) :=
  (RangeFrame.foldl (fun u c => estimatorBoundary_ranges c u) _ s).trans
    (.foldl (fun u c => fadeBoundary_ranges _ c u) _ _)

/-! ### The TACs (law 8) -/

namespace RangeFrame

theorem mirrorOrder (c : Carrier) (s : State) : RangeFrame s (mirrorOrder c s) := by
  unfold Machine.mirrorOrder
  exact ite (fun _ => modTac s) fun _ => refl s

theorem closeOrder (c : Carrier) (st : OrderState) (b : Nat) (s : State) : RangeFrame s (closeOrder c st b s) :=
  (modTac s).trans (mirrorOrder c _)

/-- An order closes with its CANCEL placed (R97). -/
theorem cancelOrder (c : Carrier) (o : OpenOrder) (st : OrderState) (b : Nat) (s : State) :
    RangeFrame s (Machine.closeOrder c st b (placeCancel c o s)) := (placeMessage _ _ s).trans (closeOrder c st b _)

theorem takeTarget (c : Carrier) (t : Nat) (s : State) : RangeFrame s (takeTarget c t s) :=
  (modTac s).trans (placeNotice _ _)

theorem closeOnTimebaseLoss (c : Carrier) (s : State) : RangeFrame s (closeOnTimebaseLoss c s) := by
  unfold Machine.closeOnTimebaseLoss
  split
  · exact refl s
  · rename_i o _
    have h := cancelOrder c o .steady 0 s
    exact ite (fun _ => (ite (fun _ => h.trans (emit _ _)) fun _ => h).trans (modTacStats c _ _)) fun _ => refl s

theorem countBackoff (c : Carrier) (s : State) : RangeFrame s (countBackoff c s) := by
  unfold Machine.countBackoff
  simp only
  exact ite (fun _ => ite (fun _ => (modTac s).trans (closeOrder c _ _ _)) fun _ => modTac s) fun _ => refl s

theorem switchOrder (c : Carrier) (o : OpenOrder) (s : State) : RangeFrame s (switchOrder c o s) := by
  have h := ((clearPlace (.t c) s).trans (closeOrder c .steady 0 _)).trans (takeTarget c o.target _)
  unfold Machine.switchOrder
  exact (ite (fun _ => h.trans (takeTarget _ _ _)) fun _ => h).trans (modTacStats c _ _)

theorem switchAtEffect (c : Carrier) (s : State) : RangeFrame s (switchAtEffect c s) := by
  unfold Machine.switchAtEffect
  split
  · exact switchOrder c _ s
  · exact refl s

theorem deadline (c : Carrier) (s : State) : RangeFrame s (deadline c s) := by
  unfold Machine.deadline
  split
  · exact ((cancelOrder c _ .backoff 2 s).trans (modTacStats c _ _)).trans (placeNotice _ _)
  · exact refl s

theorem armAtDeadline (c : Carrier) (s : State) : RangeFrame s (armAtDeadline c s) := by
  unfold Machine.armAtDeadline
  split
  · exact ite (fun _ => refl s) fun _ => ((emit _ s).trans (modTac _)).trans (mirrorOrder c _)
  · exact refl s

theorem formTarget (c : Carrier) (s : State) : RangeFrame s (formTarget c s) := by
  unfold Machine.formTarget
  simp only
  exact ite (fun _ => (modTac s).trans (modTac _)) fun _ => modTac s

theorem reverseUpshift (c : Carrier) (s : State) : RangeFrame s (reverseUpshift c s) := by
  unfold Machine.reverseUpshift
  simp only
  split
  · exact refl s
  · exact ite (fun _ => (cancelOrder c _ .steady 0 s).trans (modTacStats c _ _)) fun _ => refl s

theorem openOrderWork (c : Carrier) (s : State) : RangeFrame s (openOrderWork c s) := by
  unfold Machine.openOrderWork
  simp only
  exact ite (fun _ => (((modTac s).trans (mirrorOrder c _)).trans (placeMessage _ _ _)).trans (modTacStats c _ _))
    fun _ => refl s

/-- The clamp of R102 keeps the attenuation within atten_min..30. -/
theorem applyPower (c : Carrier) (s : State) : RangeFrame s (applyPower c s) := by
  unfold Machine.applyPower
  simp only
  split
  · exact refl s
  · rename_i request _
    refine ite (fun _ => modTac s) fun _ => (RangeFrame.trans (modCar (.of_tac fun l => ?_)) (modTacStats c _ _)).trans (emit _ _)
    have hm := attenMin_le l.1
    refine ⟨l.1, l.2.1, ?_, ?_⟩ <;> show _ ≤ _ <;> simp only [steppedAtten] <;> omega

theorem orderBoundary (c : Carrier) (s : State) : RangeFrame s (orderBoundary c s) :=
  (((((((closeOnTimebaseLoss c s).trans (countBackoff c _)).trans (switchAtEffect c _)).trans (deadline c _)).trans
    (armAtDeadline c _)).trans (formTarget c _)).trans (reverseUpshift c _)).trans (openOrderWork c _)

theorem tacBoundary (c : Carrier) (s : State) : RangeFrame s (tacBoundary c s) := by
  unfold Machine.tacBoundary
  exact ite (fun _ => (ite (fun _ => refl s) fun _ => orderBoundary c s).trans (applyPower c _)) fun _ => refl s

theorem transmitWork (s : State) : RangeFrame s (transmitWork s) := foldl (fun u c => tacBoundary c u) _ s

/-! ### The transfer sender and the table store -/

theorem placeAgain (s : State) : RangeFrame s (placeAgain s) := by
  unfold Machine.placeAgain
  split
  · exact placeMessage _ _ s
  · exact placeMessage _ _ s
  · exact refl s

theorem ackWaitExpired (s : State) : RangeFrame s (ackWaitExpired s) := by
  unfold Machine.ackWaitExpired
  exact ite (fun _ => (modSender _ s).trans (placeAgain _))
    fun _ => ((modSender _ s).trans (clearPlace _ _)).trans (placeNotice _ _)

theorem senderBoundary (s : State) : RangeFrame s (senderBoundary s) := by
  have h := senderBoundary_frame s
  exact of_same (senderBoundary_carriers s) h.pairedA h.pairedB

theorem takeApply (order : List Carrier) (entries : List Entry) (s : State) : RangeFrame s (takeApply order entries s) :=
  (((modTables _ s).trans (foldl (fun u c => formMismatch c u) order _)).trans (modTables _ _)).trans (placeNotice _ _)

theorem applyBoundary (order : List Carrier) (s : State) : RangeFrame s (applyBoundary order s) := by
  have begun := modTables (fun t => { t with effectDue := false }) s
  refine begun.trans ?_
  show RangeFrame _ (judgeApply order _)
  unfold judgeApply
  split
  · exact refl _
  · exact ite (fun _ => refl _) fun _ => ite (fun _ => (modTables _ _).trans (placeNotice _ _)) fun _ => takeApply order _ _

end RangeFrame

end Sys2Proof.Machine
end

section
/-! SUPPORT. Laws 1, 8 and 11 over a boundary, the resets, received records and slots and the requests; every command
keeps them. -/

namespace Sys2Proof.Machine

/-! ### The boundary -/

theorem closed_ranged (k : CarrierState) : CarrierRanged k k.closed := by
  unfold CarrierState.closed
  split <;> exact ⟨id, id, rfl, fun _ => id⟩

/-- The Supervisor's turn of a carrier: its counts, and an entry or none. -/
theorem supervise_ranges (c : Carrier) (s : State) : RangeFrame s (supervise c s) := by
  have counted : RangeFrame s (modSup c Supervisor.counted s) :=
    .modSup (counted_record _) (counted_inForce _) (.inl (counted_link _))
  cases hh : (modSup c Supervisor.counted s).haltsByTest c with
  | true =>
    obtain ⟨cause, e⟩ := (supervise_cases c s).1 hh
    rw [e]
    exact counted.trans (haltedEntry_ranges c cause _)
  | false =>
    rcases (supervise_cases c s).2 hh with e | ⟨-, e⟩ | ⟨hl, e⟩ <;> rw [e]
    · exact counted
    · exact counted.trans (enterQuiet_ranges c _)
    · exact counted.trans (enterSeeking_ranges (by rw [link_counted, hl]))

theorem WorkFrame.govInForce {s t : State} (h : WorkFrame s t) (c : Carrier) : t.govInForce c = s.govInForce c := by
  have hp (d : Carrier) : t.paired d = s.paired d := by simp [State.paired, h.pairedA, h.pairedB]
  unfold State.govInForce State.gov
  rw [hp]
  exact (h.carriers _).2.1

/-- The RAC's work bounds the advice of its carrier by the up_step in force, whatever up_step bounded it before; out of
service the advice is 0 (R63). -/
theorem racBoundary_advised (present : Bool) {c : Carrier} {s : State} (h : ∃ up, (s.car c).advised up) :
    ((racBoundary present c s).car c).advised (s.govInForce c).upStep := by
  obtain ⟨up, -, idle⟩ := h
  have out (hl : (s.link c == .active || s.link c == .quiet) = false) : (s.car c).advised (s.govInForce c).upStep := by
    obtain ⟨hc, ha, hn⟩ := idle hl
    exact ⟨by omega, fun _ => ⟨hc, ha, hn⟩⟩
  have bounded {f : Rac → Rac} (hl : s.link c = .active ∨ s.link c = .quiet) :
      ((modRac c (fun r => Rac.bounded (s.govInForce c).upStep (f r)) s).car c).advised (s.govInForce c).upStep := by
    refine ⟨by simp [Rac.bounded], fun k => ?_⟩
    rw [modRac_car_sup] at k
    rcases hl with e | e <;> simp [State.link] at e <;> simp [e] at k
  unfold racBoundary
  cases hl : s.link c with
  | disabled => exact out (by simp [hl])
  | halted => exact out (by simp [hl])
  | seeking => exact out (by simp [hl])
  | quiet => exact bounded (f := fun r => { r with power := 0 }) (.inr hl)
  | active =>
    simp only
    split
    · exact bounded (.inl hl)
    · exact bounded (f := fun r => { r with power := 0 }) (.inl hl)

theorem racBoundary_others (present : Bool) {c d : Carrier} (s : State) (h : d ≠ c) :
    (racBoundary present c s).car d = s.car d := by
  obtain ⟨r, e, -⟩ := racBoundary_spec present c s
  rw [e]
  exact Four.get_set_other _ _ h

/-- The RACs' work one after the other: law 11 then holds at each carrier that has had its turn, or where it held. -/
theorem racBoundaries_advised (present : Four Bool) (cs : List Carrier) (s : State) (h : ∀ c, ∃ up, (s.car c).advised up)
    (c : Carrier) (hc : c ∈ cs ∨ (s.car c).advised (s.govInForce c).upStep) :
    ((cs.foldl (fun s c => racBoundary (present.get c) c s) s).car c).advised
      ((cs.foldl (fun s c => racBoundary (present.get c) c s) s).govInForce c).upStep := by
  induction cs generalizing s with
  | nil => exact hc.resolve_left (List.not_mem_nil)
  | cons d cs ih =>
    have gov := (racBoundary_frame (present.get d) d s).govInForce
    refine ih (racBoundary (present.get d) d s) (fun e => ?_) ?_
    · by_cases he : e = d
      · rw [he]
        exact ⟨_, racBoundary_advised _ (h d)⟩
      · exact racBoundary_others (present.get d) s he ▸ h e
    · by_cases he : c = d
      · refine .inr ?_
        rw [gov, he]
        exact racBoundary_advised _ (h d)
      · rw [gov, racBoundary_others _ s he]
        exact hc.imp_left fun k => (List.mem_cons.1 k).resolve_left he

/-- What holds of the laws once `n` blocks of a boundary from `s` have worked: until the RACs' work the advice may exceed
the up_step that has just come into force. -/
structure BoundaryRanged (s : State) (n : Nat) (u : State) : Prop where
  estimator : EstimatorLaw s → EstimatorLaw u
  attenuation : AttenuationLaw s → AttenuationLaw u
  somehow : AdviceLaw s → ∀ c, ∃ up, (u.car c).advised up
  advice : 2 ≤ n → AdviceLaw s → AdviceLaw u

theorem BoundaryRanged.frame {s u v : State} {n m : Nat} (h : BoundaryRanged s n u) (g : RangeFrame u v)
    (hn : 2 ≤ m → 2 ≤ n) : BoundaryRanged s m v where
  estimator := g.kept.estimator ∘ h.estimator
  attenuation := g.kept.attenuation ∘ h.attenuation
  somehow l c := (h.somehow l c).imp fun up => (g.carriers c).advice up
  advice hm l := g.kept.advice (h.advice (hn hm) l)

theorem BoundaryRanged.start (s : State) : BoundaryRanged s 0 (startBoundary s) where
  estimator l c := by
    rw [car_startBoundary]
    exact (closed_ranged _).est (l c)
  attenuation l := (attenuationLaw_iff _).2 fun c => by
    obtain ⟨hr, -, ha⟩ := (attenuationLaw_iff s).1 l c
    rw [car_startBoundary]
    exact (closed_ranged _).atten ⟨hr, hr, ha⟩
  somehow l c := by
    rw [car_startBoundary]
    exact ⟨_, (closed_ranged _).advice _ (l c)⟩
  advice h := absurd h (by decide)

theorem BoundaryRanged.receive {s u : State} (h : BoundaryRanged s 1 u) (present : Four Bool) :
    BoundaryRanged s 2 (receiveWork present u) := by
  have advised (l : AdviceLaw s) : AdviceLaw (receiveWork present u) := fun c =>
    racBoundaries_advised present allCarriers u (h.somehow l) c (.inl (mem_allCarriers c))
  have kept := receiveWork_block present u
  refine ⟨fun l c => ?_, fun l => (attenuationLaw_iff _).2 fun c => ?_, fun l c => ⟨_, advised l c⟩, fun _ => advised⟩
  · rw [(kept.carriers c).est (.inl (by decide))]
    exact h.estimator l c
  · have a := (attenuationLaw_iff u).1 (h.attenuation l) c
    rwa [CarrierState.attenuated, (kept.carriers c).sup, (kept.carriers c).tac (by decide)]

/-- A boundary keeps the three laws, wherever the Supervisor's turns fall (R1). -/
theorem boundaryWith_ranges (place : Carrier → Nat) (order : AlarmKind → List Carrier) (s : State) :
    RangesKept s (boundaryWith place order s) := by
  obtain ⟨_, h⟩ := boundaryWith_induction place order s (fun n _ x => BoundaryRanged s n x.1) (.start s)
    (fun n T c x _ hx => by
      unfold superviseOnce
      split
      · exact hx
      · exact hx.frame (supervise_ranges c x.1) id)
    (fun n T x hn hx => by
      match n, hn with
      | 0, _ => exact hx.frame (qualityWork_ranges order s.presence x.1) (by omega)
      | 1, _ => exact hx.receive s.presence
      | 2, _ => exact hx.frame (.transmitWork x.1) (by omega)
      | 3, _ => exact hx.frame (.senderBoundary x.1) (by omega)
      | 4, _ => exact hx.frame (.applyBoundary _ x.1) (by omega))
  exact ⟨h.estimator, h.attenuation, h.advice (by decide)⟩

theorem boundary_ranges (s : State) : RangesKept s (boundary s) := boundaryWith_ranges _ _ s

/-! ### The timebase -/

theorem modTimebase_ranges (f : Timebase → Timebase) (s : State) : RangesKept s (modTimebase f s) :=
  .of_same rfl rfl rfl

/-- A boundary at which the timebase has changed its state and its wire (R3, R4). -/
theorem boundaryAfterState_ranges (f : Timebase → Timebase) (v : Bool) (s : State) :
    RangesKept s (boundary (setTimebaseWire v (modTimebase f s))) :=
  ((modTimebase_ranges f s).trans (RangeFrame.setTimebaseWire v _).kept).trans (boundary_ranges _)

theorem internalBoundary_ranges (s : State) : RangesKept s (internalBoundary s) := by
  unfold internalBoundary
  split
  · exact modTimebase_ranges _ s
  · exact boundary_ranges s

theorem actWhenDue_ranges (s : State) : RangesKept s (actWhenDue s) := by
  unfold actWhenDue
  split
  · split
    · exact boundaryAfterState_ranges _ true s
    · exact internalBoundary_ranges s
  · exact .refl s

theorem tick_ranges (s : State) : RangesKept s (tick s) := by
  obtain ⟨f, e, -⟩ := tick_eq s
  rw [e]
  exact (modTimebase_ranges f s).trans (actWhenDue_ranges _)

theorem takeStrobe_ranges (s : State) : RangesKept s (takeStrobe s) := by
  unfold takeStrobe
  split
  · exact boundaryAfterState_ranges _ false s
  · split
    · exact modTimebase_ranges _ s
    · exact boundary_ranges s

/-! ### Resets and the start-up -/

/-- The fades of a reset change the Fade Log alone (R150). -/
theorem closeFadesAtReset_eq (cs : List Carrier) (s : State) :
    cs.foldl (fun s c => closeFadeAtReset c s) s = { s with
      fades := cs.foldl (fun l c => ((s.car c).fade.map fun x => l.append ⟨c, x, .reset⟩).getD l) s.fades } := by
  induction cs generalizing s with
  | nil => rfl
  | cons c cs ih =>
    have one : closeFadeAtReset c s =
        { s with fades := ((s.car c).fade.map fun x => s.fades.append ⟨c, x, .reset⟩).getD s.fades } := by
      unfold closeFadeAtReset
      cases (s.car c).fade <;> rfl
    rw [List.foldl_cons, ih, one]
    rfl

theorem car_resetBlocks (s : State) (c : Carrier) :
    (resetBlocks s).car c = CarrierState.afterReset (s.car c).sup.record (s.car c).stats := by
  unfold resetBlocks
  rw [closeFadesAtReset_eq]
  exact Four.get_map _ _ _

/-- A part all of whose carriers have just been reset meets laws 1 and 11, and with records in range law 8. -/
theorem afterReset_ranges {t : State} {r : Carrier → CarrierRecord} {x : Carrier → CarrierStats}
    (h : ∀ c, t.car c = CarrierState.afterReset (r c) (x c)) :
    EstimatorLaw t ∧ ((∀ c, recordInRange (r c) = true) → AttenuationLaw t) ∧ AdviceLaw t := by
  refine ⟨fun c => ?_, fun hr => (attenuationLaw_iff t).2 fun c => ?_, fun c => ?_⟩
  · rw [h]
    exact ⟨by simp [CarrierState.afterReset, Estimator.afterReset], by simp [CarrierState.afterReset, Estimator.afterReset],
      by simp [CarrierState.afterReset, Estimator.afterReset], by simp [CarrierState.afterReset, Estimator.afterReset]⟩
  · rw [h]
    exact ⟨hr c, hr c, Nat.le_refl _, attenMin_le (hr c)⟩
  · rw [h]
    exact ⟨Nat.zero_le _, fun _ => ⟨rfl, rfl, rfl⟩⟩

theorem resetBlocks_ranges (s : State) : RangesKept s (resetBlocks s) := by
  obtain ⟨he, ha, hd⟩ := afterReset_ranges (car_resetBlocks s)
  exact ⟨fun _ => he, fun l => ha fun c => (l.1 c).1, fun _ => hd⟩

theorem startUp_ranges (s : State) : RangeFrame s (startUp s) := by
  have store : RangeFrame s (if (setTimebaseWire true s).settings.storeValid then setTimebaseWire true s
      else setStoreWire true (setTimebaseWire true s)) :=
    .ite (fun _ => .setTimebaseWire _ _) fun _ => (RangeFrame.setTimebaseWire _ _).trans (.setStoreWire _ _)
  exact store.trans (.foldl (fun u c => .ite (fun _ => haltedEntry_ranges c _ u) fun _ => .refl u) _ _)

/-- The records of a valid image are in range (R184). -/
theorem readImage_inRange {b : List Byte} {i : Image} (h : readImage b = some i) (c : Carrier) :
    recordInRange (i.records.get c) = true := by
  unfold readImage at h
  simp only at h
  split at h
  · split at h
    · split at h
      · rename_i hr
        simp only [Bool.and_eq_true] at hr
        obtain ⟨⟨⟨⟨⟨h0, h1⟩, h2⟩, h3⟩, -⟩, -⟩ := hr
        cases h
        match c with
        | 0 => exact h0
        | 1 => exact h1
        | 2 => exact h2
        | 3 => exact h3
      · cases h
    · cases h
  · cases h

/-- After a power-on reset the laws hold whatever came before (R187). -/
theorem powerOn_ranges (s t : State) : RangesKept t (powerOn s) := by
  have with_ {i : Image} (hi : ∀ c, recordInRange (i.records.get c) = true) (valid : Bool) :
      RangesKept t (startUp (powerOnWith i valid s.nvmAtReset s)) := by
    obtain ⟨he, ha, hd⟩ := afterReset_ranges (t := powerOnWith i valid s.nvmAtReset s) (r := i.records.get)
      (x := fun _ => CarrierStats.zero) fun c => Four.get_map _ _ c
    have started := (startUp_ranges (powerOnWith i valid s.nvmAtReset s)).kept
    exact ⟨fun _ => started.estimator he, fun _ => started.attenuation (ha hi), fun _ => started.advice hd⟩
  unfold powerOn
  split
  · exact with_ (readImage_inRange ‹_›) true
  · exact with_ (by decide) false

theorem restartEffect_ranges (s : State) : RangesKept s (restartEffect s) :=
  (resetBlocks_ranges s).trans (startUp_ranges _).kept

/-! ### Orders and reports -/

/-- A RAC in service may be armed (R70, R71). -/
theorem arm_ranges {c : Carrier} {s : State} (a : Option ArmedOrder) (h : s.link c = .active ∨ a = none) :
    RangeFrame s (modRac c (fun r => { r with armed := a }) s) := by
  refine .modCar (.of_rac fun up l => ⟨l.1, fun out => ?_⟩)
  rcases h with e | rfl
  · simp [State.link] at e
    simp [e] at out
  · exact ⟨(l.2 out).1, (l.2 out).2.1, rfl⟩

theorem setArmed_ranges {c : Carrier} {pair : Bool} {a : Option ArmedOrder} {s : State}
    (h : (s.link c = .active ∧ (pair = true → s.link (partner c) = .active)) ∨ a = none) :
    RangeFrame s (setArmed c pair a s) := by
  have own := arm_ranges a (h.imp_left And.left)
  unfold setArmed
  simp only
  refine .ite (fun hp => own.trans (arm_ranges a (h.imp_left fun e => ?_))) fun _ => own
  rw [State.link, modRac_car_sup]
  exact e.2 hp

theorem acceptOrder_ranges {c : Carrier} {pair : Bool} {s : State} (id target : Nat)
    (h : s.link c = .active ∧ (pair = true → s.link (partner c) = .active)) :
    RangeFrame s (acceptOrder c id target pair s) := by
  have counted (u : State) (f : RacStats → RacStats) (hu : u.link c = .active ∧ (pair = true → u.link (partner c) = .active)) :
      (modRacStats (u.gov c) f u).link c = .active ∧
        (pair = true → (modRacStats (u.gov c) f u).link (partner c) = .active) := by
    simpa only [State.link, modRacStats, modStats_car_sup] using hu
  have fresh (u : State) (hu : u.link c = .active ∧ (pair = true → u.link (partner c) = .active)) : RangeFrame u
      (placeMessage (.v c) (.confirm c id target) (setArmed c pair (some ⟨id, target, pair⟩)
        (emit (.armRx (orderMask c pair) (u.entry target).modulation (u.entry target).code)
          (modRacStats (u.gov c) (fun x => { x with accepted := count32 x.accepted }) u)))) :=
    (((RangeFrame.modRacStats _ _ u).trans (.emit _ _)).trans (setArmed_ranges (.inl (counted u _ hu)))).trans
      (.placeMessage _ _ _)
  unfold acceptOrder
  simp only
  split
  · exact fresh s h
  · exact .ite (fun _ => (RangeFrame.modRacStats _ _ s).trans (.placeMessage _ _ _))
      fun _ => (RangeFrame.modRacStats _ _ s).trans (fresh _ (counted s _ h))

/-- An order that no check refuses names carriers that are ACTIVE (R70 check 1). -/
theorem active_of_accepted {s : State} {c : Carrier} {target : Nat} {pair : Bool}
    (h : s.orderRefusal c target pair = none) :
    s.link c = .active ∧ (pair = true → s.link (partner c) = .active) := by
  unfold State.orderRefusal at h
  split at h
  · cases h
  · rename_i k
    simp only [bne_iff_ne, ne_eq, Bool.or_eq_true, Bool.and_eq_true, not_or, not_and, not_not] at k
    exact k

theorem takeOrder_ranges (c : Carrier) (id target : Nat) (pair : Bool) (s : State) :
    RangeFrame s (takeOrder c id target pair s) := by
  have forgets : RangeFrame s
      (if s.isUpper c then s else modRac c (fun r => { r with lastCancelled := none, lastSwitched := none }) s) :=
    .ite (fun _ => .refl s) fun _ => .modRac s
  unfold takeOrder
  simp only
  refine .ite (fun _ => .modRacStats _ _ s) fun _ => forgets.trans ?_
  generalize (if s.isUpper c then s else modRac c (fun r => { r with lastCancelled := none, lastSwitched := none }) s) = u
  split
  · exact (RangeFrame.modRacStats _ _ _).trans (.placeMessage _ _ _)
  · exact acceptOrder_ranges id target (active_of_accepted ‹_›)

theorem takeCancel_ranges (c : Carrier) (id : Nat) (pair : Bool) (s : State) :
    RangeFrame s (takeCancel c id pair s) := by
  have cancelled (u : State) : RangeFrame u (modRac (s.gov c) (fun r => { r with lastCancelled := some id }) u) :=
    .modRac u
  unfold takeCancel
  simp only
  refine .ite (fun _ => .refl s) fun _ => ?_
  split
  · exact cancelled s
  · exact .ite (fun _ => (((RangeFrame.modRacStats _ _ s).trans (.emit _ _)).trans (setArmed_ranges (.inr rfl))).trans
      (cancelled _)) fun _ => cancelled s

theorem lateResponse_ranges (c : Carrier) (s : State) : RangeFrame s (lateResponse c s) := .modTacStats _ _ s

theorem takeConfirm_ranges (c : Carrier) (id target : Nat) (s : State) : RangeFrame s (takeConfirm c id target s) := by
  unfold takeConfirm
  refine .ite (fun _ => .refl s) fun _ => .ite (fun _ => lateResponse_ranges c s) fun _ => ?_
  split
  · exact lateResponse_ranges c s
  · exact .ite (fun _ => .ite (fun _ => (RangeFrame.modTac s).trans (.mirrorOrder c _)) fun _ => .modTacStats c _ s)
      fun _ => lateResponse_ranges c s

theorem takeRefuse_ranges (c : Carrier) (id reason : Nat) (s : State) : RangeFrame s (takeRefuse c id reason s) := by
  unfold takeRefuse
  refine .ite (fun _ => .refl s) fun _ => .ite (fun _ => lateResponse_ranges c s) fun _ => ?_
  split
  · exact lateResponse_ranges c s
  · exact .ite (fun _ => (((RangeFrame.clearPlace _ s).trans (.closeOrder c .backoff 2 _)).trans
      (.placeNotice _ _)).trans (.modTacStats c _ _)) fun _ => lateResponse_ranges c s

/-- A toggle with an armed order makes its target the current profile and the advice; only a carrier in service has an
armed order (R74). -/
theorem takeToggle_ranges (c : Carrier) (s : State) : RangeFrame s (takeToggle c s) := by
  unfold takeToggle
  split
  · exact .modRacStats _ _ s
  · rename_i a ha
    simp only
    have switched : RangeFrame s
        (modRac c (fun r => { r with current := a.target, armed := none, advice := a.target, hold := 0 }) s) := by
      refine .modCar (.of_rac fun up l => ⟨Nat.le_add_right _ _, fun out => ?_⟩)
      exact absurd (l.2 out).2.2 (by simp [ha])
    have noted (d : Carrier) (u : State) : RangeFrame u (modRac d (fun r => { r with lastSwitched := some a.id }) u) :=
      .modRac u
    have lowered (u : State) : RangeFrame u (modCar c (fun k => { k with fade := k.fade.map (lowerFade a.target) }) u) :=
      .modCar ⟨id, id, rfl, fun _ => id⟩
    exact ((switched.trans (noted _ _)).trans (lowered _)).trans (.placeNotice _ _)

theorem takeReport_ranges (c : Carrier) {r : Report} (ha : r.a.snr ≤ 255) (hb : r.b.snr ≤ 255) (s : State) :
    RangeFrame s (takeReport c r s) := by
  have taken : RangeFrame s (modEst c (takeFrame (s.car c).sup.record.diversity r) s) :=
    .modEst (takeFrame_bounded _ ha hb)
  have seen (u : State) : RangeFrame u (modRac c (fun x => { x with lockSeen := x.lockSeen || r.payloadLock }) u) :=
    .modRac u
  unfold takeReport
  exact .ite (fun _ => (taken.trans (seen _)).trans (takeToggle_ranges c _)) fun _ => taken.trans (seen _)

theorem takeFrameReport_ranges (carrier frameIndex flags snrA snrB rslA rslB : Byte) (s : State) :
    RangeFrame s (takeFrameReport carrier frameIndex flags snrA snrB rslA rslB s) := by
  unfold takeFrameReport
  split
  · exact .of_same rfl rfl rfl
  · rename_i c _
    refine .ite (fun _ => ?_) fun _ => .of_same rfl rfl rfl
    have joined : RangeFrame s (modCar c (fun k => { k with
        reports := withBit k.reports frameIndex.toNat true }) s) := .modCar ⟨id, id, rfl, fun _ => id⟩
    unfold attributeReport acceptReport
    refine .ite (fun _ => .refl s) fun _ => .ite (fun _ => .modStats _ _ s) fun _ => ?_
    refine joined.trans (takeReport_ranges c ?_ ?_ _)
    · exact Nat.le_of_lt_succ snrA.isLt
    · exact Nat.le_of_lt_succ snrB.isLt

/-! ### The transfer -/

theorem concludeReception_ranges (id result : Nat) (s : State) : RangeFrame s (concludeReception id result s) :=
  ((RangeFrame.placeMessage _ _ s).trans (.modReceiver _ _)).trans (.placeNotice _ _)

theorem startReception_ranges (id : Nat) (e : Entry) (s : State) : RangeFrame s (startReception id e s) :=
  .of_same rfl rfl rfl

theorem refuseReception_ranges (id : Nat) (s : State) : RangeFrame s (refuseReception id s) :=
  (RangeFrame.modTables _ s).trans (concludeReception_ranges id _ _)

theorem takeEntry_ranges (id index : Nat) (e : Entry) (s : State) : RangeFrame s (takeEntry id index e s) := by
  have stale : RangeFrame s (staleAtReceiver s) := .modReceiver _ s
  unfold takeEntry
  split
  · refine .ite (fun _ => .ite (fun _ => .of_same rfl rfl rfl) fun _ => .placeMessage _ _ s) fun _ => ?_
    exact .ite (fun _ => stale) fun _ => .ite (fun _ => startReception_ranges id e s)
      fun _ => (refuseReception_ranges _ s).trans (concludeReception_ranges _ _ _)
  · exact .ite (fun _ => .ite (fun _ => startReception_ranges id e s) fun _ => concludeReception_ranges _ _ s)
      fun _ => stale

theorem wholeTableResult_ranges (count : Nat) (s : State) : RangeFrame s (wholeTableResult count s).2 := by
  unfold wholeTableResult
  split
  · split
    · exact .of_same rfl rfl rfl
    all_goals exact .refl s
  · exact .refl s

theorem takeEnd_ranges (id count : Nat) (check : Word16) (s : State) : RangeFrame s (takeEnd id count check s) := by
  have stale : RangeFrame s (staleAtReceiver s) := .modReceiver _ s
  unfold takeEnd
  split
  · refine .ite (fun _ => .ite (fun _ => ?_) fun _ => ?_) fun _ => stale
    · exact ((RangeFrame.modTables _ s).trans (wholeTableResult_ranges count _)).trans (concludeReception_ranges _ _ _)
    · exact (RangeFrame.modTables _ s).trans (concludeReception_ranges _ _ _)
  · split
    · exact .ite (fun _ => .placeMessage _ _ s) fun _ => stale
    · exact stale

theorem takeAbort_ranges (id : Nat) (s : State) : RangeFrame s (takeAbort id s) := by
  unfold takeAbort
  exact .ite (fun _ => (((RangeFrame.modTables _ s).trans (.clearPlace _ _)).trans (.modReceiver _ _)).trans
    (.placeNotice _ _)) fun _ => .modReceiver _ s

theorem takeAck_ranges (id k : Nat) (s : State) : RangeFrame s (takeAck id k s) := by
  have stale : RangeFrame s (staleAtSender s) := .modSender _ s
  unfold takeAck
  split
  · exact .refl s
  · exact .ite (fun _ => .ite (fun _ => .of_same rfl rfl rfl) fun _ => .of_same rfl rfl rfl) fun _ => stale
  · exact stale

theorem takeResult_ranges (id outcome : Nat) (s : State) : RangeFrame s (takeResult id outcome s) := by
  unfold takeResult
  exact .ite (fun _ => .refl s) fun _ => .ite (fun _ => ((RangeFrame.modSender _ s).trans (.clearPlace _ _)).trans
    (.placeNotice _ _)) fun _ => .modSender _ s

/-! ### Slots -/

theorem dispatch_ranges (c : Carrier) (part : SlotPart) (s : State) : RangeFrame s (dispatch c part s) := by
  match part with
  | .empty => exact .refl s
  | .badEntry => exact .of_same rfl rfl rfl
  | .unknown => exact RangeFrame.modLacStats c (fun x => { x with unknown := count32 x.unknown }) s
  | .message (.order _ _ _ _) => exact takeOrder_ranges _ _ _ _ s
  | .message (.cancel _ _ _) => exact takeCancel_ranges _ _ _ s
  | .message (.confirm _ _ _) => exact takeConfirm_ranges _ _ _ s
  | .message (.refuse _ _ _) => exact takeRefuse_ranges _ _ _ s
  | .message (.tableEntry _ _ _) => exact takeEntry_ranges _ _ _ s
  | .message (.tableEnd _ _ _) => exact takeEnd_ranges _ _ _ s
  | .message (.tableAbort _) => exact takeAbort_ranges _ s
  | .message (.tableAck _ _) => exact takeAck_ranges _ _ s
  | .message (.tableResult _ _) => exact takeResult_ranges _ _ s

theorem takeReceipt_ranges (c : Carrier) (peer : LinkState) (s : State) : RangeFrame s (takeReceipt c peer s) := by
  have heard : RangeFrame s (modSup c (fun x => { x with miss := 0 }) s) := .modSup rfl rfl (.inl rfl)
  unfold takeReceipt
  simp only
  split
  · exact heard
  · exact heard
  · exact (heard.trans (.modStats c _ _)).trans (enterActive_ranges c _)
  · exact .ite (fun _ => heard.trans (haltedEntry_ranges c _ _)) fun _ => heard
  · exact .ite (fun _ => heard.trans (haltedEntry_ranges c _ _)) fun _ => heard.trans (enterActive_ranges c _)

theorem takeSlot_ranges (c : Carrier) (octets : List Byte) (s : State) : RangeFrame s (takeSlot c octets s) := by
  have header (slot : Slot) (u : State) : RangeFrame u (takeHeader c slot u) := by
    unfold takeHeader
    exact (((RangeFrame.modLac c _ u).trans (.formMismatch c _)).trans (.modRac _)).trans (.modTac _)
  have stages (slot : Slot) : RangeFrame s (takeSlotStages c slot s) := by
    have received : RangeFrame s (takeReceipt c slot.link (takePeerRecords c slot s)) :=
      ((RangeFrame.modLacStats c _ s).trans (.modLac c _ _)).trans (takeReceipt_ranges c _ _)
    unfold takeSlotStages
    exact .ite (fun _ => received.trans (.modLacStats c _ _))
      fun _ => (received.trans (header slot _)).trans (dispatch_ranges c _ _)
  unfold takeSlot
  simp only
  split
  · exact .modLacStats c _ s
  · split
    · exact .modLacStats c _ s
    · exact .modLacStats c _ s
    all_goals exact stages _

theorem serveSlotRequest_ranges (c : Carrier) (s : State) : RangeFrame s (serveSlotRequest c s) := by
  have sent (m : Option LacMsg) : RangeFrame s (sendSlot c m s) := (RangeFrame.modLacStats c _ s).trans (.emit _ _)
  have silent (f : LacStats → LacStats) : RangeFrame s (emit (.slotOut c none) (modLacStats c f s)) :=
    (RangeFrame.modLacStats c _ s).trans (.emit _ _)
  have rides (m : Placed) : RangeFrame s
      (ride m (modLacStats c (LacStats.countSent m.msg.cls) (sendSlot c (some m.msg) s))) := by
    refine ((sent _).trans (.modLacStats c _ _)).trans (.of_same (ride_carriers m _) ?_ ?_) <;> rw [ride_eq]
  unfold serveSlotRequest
  split
  · exact silent _
  · exact silent _
  · exact sent none
  all_goals
    split
    · exact sent none
    · exact rides _

theorem takeSlotIn_ranges (carrier : Byte) (octets : List Byte) (s : State) :
    RangeFrame s (takeSlotIn carrier octets s) := by
  unfold takeSlotIn
  split
  · exact .of_same rfl rfl rfl
  · exact takeSlot_ranges _ _ s

theorem takeSlotRequest_ranges (carrier : Byte) (s : State) : RangeFrame s (takeSlotRequest carrier s) := by
  unfold takeSlotRequest
  split
  · exact .of_same rfl rfl rfl
  · exact serveSlotRequest_ranges _ s

theorem takeRecord_ranges (record : List Byte) (s : State) : RangeFrame s (takeRecord record s) := by
  unfold takeRecord
  simp only
  split
  · exact takeFrameReport_ranges _ _ _ _ _ _ _ s
  · exact takeSlotIn_ranges _ _ s
  · exact takeSlotRequest_ranges _ s
  · exact .of_same rfl rfl rfl

/-! ### SET_CARRIER -/

/-- A carrier with a record as SET_CARRIER leaves it: the record, the SELECT_BRANCH due and the attenuation lifted to its
atten_min (R34, R103, R129). -/
def CarrierState.withRecord (r : CarrierRecord) (k : CarrierState) : CarrierState :=
  { k with
    sup := { k.sup with record := r }
    est := { k.est with
      selectDue := k.est.selectDue || decide (r.diversity = .select ∧ k.sup.record.diversity ≠ .select) }
    tac := { k.tac with atten := max k.tac.atten r.attenMin } }

theorem select_due (x y : DiversityMode) : (x == .select && y != .select) = decide (x = .select ∧ y ≠ .select) := by
  cases x <;> cases y <;> rfl

theorem enabled_eq (s : State) (c : Carrier) : s.enabled c = decide (s.link c ≠ .disabled) := by
  unfold State.enabled
  cases s.link c <;> rfl

/-- A record put in place, with its raised floor: its carrier, and the SET_ATTEN of an attenuation lifted at a carrier that
is not DISABLED (R103, R129). -/
theorem recordPut_eq (c : Carrier) (r : CarrierRecord) (s : State) :
    raiseFloor c (putRecord c r s) = { s with
      carriers := s.carriers.set c ((s.car c).withRecord r)
      modem := { s.modem with outbound := s.modem.outbound ++
        (if (s.car c).tac.atten < r.attenMin ∧ s.link c ≠ .disabled then
          [.setAtten (carrierMask c) r.attenMin] else []) } } := by
  have hs : putRecord c r s = { s with
      carriers := s.carriers.set c { (s.car c).withRecord r with tac := (s.car c).tac } } := by
    simp only [putRecord, select_due]
    simp [CarrierState.withRecord, modEst, modSup, modCar, State.setCar, State.car]
  have hc : (putRecord c r s).car c = { (s.car c).withRecord r with tac := (s.car c).tac } := by
    rw [hs]
    exact Four.get_set_same _ _ _
  have hl : (putRecord c r s).enabled c = decide (s.link c ≠ .disabled) := by
    rw [enabled_eq, State.link, hc]
    rfl
  unfold raiseFloor
  simp only [hc, hl, decide_eq_true_eq]
  by_cases ha : (s.car c).tac.atten < r.attenMin
  · have lifted : modTac c (fun t => { t with atten := r.attenMin }) (putRecord c r s) =
        { s with carriers := s.carriers.set c ((s.car c).withRecord r) } := by
      rw [modTac, modCar, hc, hs]
      simp [State.setCar, CarrierState.withRecord, Nat.max_eq_right ha.le]
    rw [if_pos (show _ < ((s.car c).withRecord r).sup.record.attenMin from ha)]
    by_cases he : s.link c = .disabled
    · rw [if_neg (by simpa using he), if_neg fun h => h.2 he, List.append_nil]
      exact lifted
    · rw [if_pos he, if_pos ⟨ha, he⟩]
      exact congrArg (emit (.setAtten (carrierMask c) r.attenMin)) lifted
  · have kept : { (s.car c).withRecord r with tac := (s.car c).tac } = (s.car c).withRecord r := by
      simp [CarrierState.withRecord, Nat.max_eq_left (Nat.not_lt.1 ha)]
    rw [if_neg (show ¬ _ < ((s.car c).withRecord r).sup.record.attenMin from ha), if_neg fun h => ha h.1, List.append_nil, hs,
      kept]

end Sys2Proof.Machine
end

section
/-! SUPPORT. Laws 1, 8 and 11 over the requests, and over every command and step. -/

namespace Sys2Proof.Machine

/-- A change of pairing that need not wait finds both carriers DISABLED, or changes nothing (R128). -/
theorem pairing_free {s : State} {c : Carrier} {paired : Bool} (h : s.pairingBlocked c paired = false) :
    paired = s.paired c ∨ (s.link c = .disabled ∧ s.link (partner c) = .disabled) := by
  by_cases hp : paired = s.paired c
  · exact .inl hp
  · refine .inr ?_
    simpa [State.pairingBlocked, hp, enabled_eq] using h

/-- The carriers of the other position keep their pairing, and those of a position whose pairing changes are out of
service, where no up_step matters (R128, R130). -/
theorem changePairing_ranges {c : Carrier} {paired : Bool} {s : State} (h : s.pairingBlocked c paired = false) :
    RangesKept s (changePairing c paired s) := by
  rcases pairing_free h with same | ⟨own, other⟩
  · rw [changePairing, if_pos same]
    exact .refl s
  have hc (d : Carrier) : (changePairing c paired s).car d = s.car d := by
    rw [changePairing_spec]
    rfl
  refine ⟨fun l d => hc d ▸ l d, fun l => (attenuationLaw_iff _).2 fun d => hc d ▸ (attenuationLaw_iff s).1 l d,
    fun l d => ?_⟩
  rw [adviceLaw_iff] at l
  have out (hd : s.link d = .disabled) :
      ((changePairing c paired s).car d).advised ((changePairing c paired s).govInForce d).upStep := by
    obtain ⟨hr, ha, hn⟩ := (l d).2 (by simp [show (s.car d).sup.link = .disabled from hd])
    rw [hc]
    exact ⟨by omega, fun _ => ⟨hr, ha, hn⟩⟩
  by_cases h1 : d = c
  · exact out (h1 ▸ own)
  by_cases h2 : d = partner c
  · exact out (h2 ▸ other)
  have far : (changePairing c paired s).paired d = s.paired d := by
    rw [changePairing_spec]
    revert h1 h2
    fin_cases c <;> fin_cases d <;> simp [State.paired, lowerOf, partner]
  have gov : (changePairing c paired s).govInForce d = s.govInForce d := by
    unfold State.govInForce State.gov
    rw [far, hc]
  show ((changePairing c paired s).car d).advised ((changePairing c paired s).govInForce d).upStep
  rw [gov, hc]
  exact l d

/-- A record in range put in place keeps the laws: a raised atten_min lifts the attenuation with it (R103). -/
theorem recordPut_ranges (c : Carrier) {r : CarrierRecord} (hr : recordInRange r = true) (s : State) :
    RangeFrame s (raiseFloor c (putRecord c r s)) := by
  rw [recordPut_eq]
  refine .of_one (c := c) rfl rfl rfl ⟨id, fun l => ⟨hr, l.2.1, Nat.le_max_right _ _, ?_⟩, rfl, fun _ => id⟩
  exact max_le l.2.2.2 (attenMin_le hr)

theorem followEnabled_ranges (c : Carrier) (s : State) : RangeFrame s (followEnabled c s) := by
  unfold followEnabled
  exact .ite (fun _ => haltedEntry_ranges c _ s) fun _ => .ite (fun _ => disabledEntry_ranges c s) fun _ => .refl s

theorem takeSetCarrier_ranges (f : Frame) (s : State) : RangesKept s (takeSetCarrier f s) := by
  unfold takeSetCarrier
  split
  · split
    · rename_i c paired r _ _ hr
      split
      · exact (RangeFrame.reply f _ s).kept
      · rename_i hb
        have put := (recordPut_ranges c hr (changePairing c paired s)).trans (followEnabled_ranges c _)
        exact ((changePairing_ranges (by simpa using hb)).trans put.kept).trans (RangeFrame.reply f _ _).kept
    · exact (RangeFrame.reply f _ s).kept
  · exact (RangeFrame.reply f _ s).kept

theorem takeRestartCarrier_ranges (f : Frame) (s : State) : RangeFrame s (takeRestartCarrier f s) := by
  unfold takeRestartCarrier
  split
  · exact .reply f _ s
  · exact .ite (fun _ => (haltedEntry_ranges _ _ s).trans (.reply f _ _)) fun _ => .reply f _ s

theorem takeSetTimebase_ranges (f : Frame) (s : State) : RangesKept s (takeSetTimebase f s) := by
  unfold takeSetTimebase
  simp only
  split
  · exact ((RangeFrame.reply f _ s).kept.trans (modTimebase_ranges _ _)).trans (actWhenDue_ranges _)
  · exact (RangeFrame.reply f _ s).kept

/-! ### The requests that touch no carrier -/

theorem takeEnables_ranges (f : Frame) (change : BitVec 16 → BitVec 16) (s : State) :
    RangeFrame s (if carrierMaskInRange (natAt f.body 0) then
      reply f [statusOk] (changeEnables (natAt f.body 0) change s) else reply f [statusBadArgument] s) :=
  .ite (fun _ => (RangeFrame.modTables _ s).trans (.reply f _ _)) fun _ => .reply f _ s

theorem takeWriteProfiles_ranges (f : Frame) (s : State) : RangeFrame s (takeWriteProfiles f s) := by
  unfold takeWriteProfiles
  exact .ite (fun _ => .ite (fun _ => .reply f _ s) fun _ => (RangeFrame.modTables _ s).trans (.reply f _ _))
    fun _ => .reply f _ s

theorem takeApplyTable_ranges (f : Frame) (s : State) : RangeFrame s (takeApplyTable f s) := by
  unfold takeApplyTable
  split
  case h_5 entries _ => exact (RangeFrame.modTables (fun t => { t with scheduled := some entries }) s).trans (.reply f _ _)
  all_goals exact .reply f _ s

theorem takePushTable_ranges (f : Frame) (s : State) : RangeFrame s (takePushTable f s) := by
  unfold takePushTable
  split
  · exact .reply f _ s
  · refine .ite (fun _ => .ite (fun _ => ?_) fun _ => .reply f _ s) fun _ => .reply f _ s
    split
    · exact .reply f _ s
    · exact .of_same rfl rfl rfl

theorem takeAbortPush_ranges (f : Frame) (s : State) : RangeFrame s (takeAbortPush f s) := by
  unfold takeAbortPush
  exact .ite (fun _ => .reply f _ s) fun _ => .of_same rfl rfl rfl

theorem takeSetRemote_ranges (f : Frame) (s : State) : RangeFrame s (takeSetRemote f s) := by
  have set (write apply : Bool) : RangeFrame s (setRemote write apply s) := by
    have permitted := RangeFrame.modReceiver (fun x => { x with remoteWrite := write, remoteApply := apply }) s
    unfold setRemote
    simp only
    split
    · exact .ite (fun _ => permitted) fun _ => permitted.trans (refuseReception_ranges _ _)
    · exact permitted
  unfold takeSetRemote
  split
  · exact (set _ _).trans (.reply f _ _)
  · exact .reply f _ s

theorem endWrite_ranges (readBack : List Byte) (tag : Byte) (s : State) : RangeFrame s (endWrite readBack tag s) := by
  have written : RangeFrame s (modSettings (fun x => { x with
      nvm := nvmAfterWrite (readBack == s.settings.writing) readBack, storeValid := readBack == s.settings.writing
      saveState := .replying }) s) := .of_same rfl rfl rfl
  unfold endWrite
  exact (written.trans (.setStoreWire _ _)).trans (.modPort _ _)

theorem startNext_ranges (s : State) : RangeFrame s (startNext s) := by
  unfold startNext
  split
  · exact .modPort _ s
  · split
    · exact .ite (fun _ => .of_same rfl rfl rfl) fun _ => .of_same rfl rfl rfl
    · exact .of_same rfl rfl rfl
    · exact .of_same rfl rfl rfl
    · split <;> exact .modPort _ s

/-! ### Every command -/

theorem recordTaken_ranges (s : State) : RangeFrame s (recordTaken s) := .of_same rfl rfl rfl

/-- What `running` guards keeps the laws when its effect does. -/
theorem running_ranges {g : State → State} {s t : State} (e : running g s = .next t) (k : ∀ u, RangesKept u (g u)) :
    RangesKept s t := by
  unfold running at e
  split at e <;> cases e
  · exact .refl s
  · exact k s

/-- Boundary work that a command names keeps the laws, whether its condition holds or not. -/
theorem runningWork_ranges {p : State → Bool} {g : State → State} {s t : State}
    (e : running (fun s => if p s then g s else s) s = .next t) (k : ∀ u, p u = true → RangesKept u (g u)) :
    RangesKept s t := by
  refine running_ranges e fun u => ?_
  split
  · exact k u ‹_›
  · exact .refl u

/-- A request served by a rule that keeps the laws. -/
theorem runningServe_ranges {kind : Byte} {take : Frame → State → State} {s t : State}
    (e : running (serve kind take) s = .next t) (k : ∀ f u, RangesKept u (take f u)) : RangesKept s t := by
  refine running_ranges e fun u => ?_
  have taken : RangesKept u (dequeue u) := (RangeFrame.modPort _ u).kept
  unfold serve
  split
  · exact .refl u
  · split
    · split
      · exact taken.trans (k _ _)
      · exact taken.trans (RangeFrame.reply _ _ _).kept
    · exact .refl u

/-- Every command keeps laws 1, 8 and 11. -/
theorem exec_ranges (i : Instr) {s t : State} (e : exec i s = .next t) : RangesKept s t := by
  cases i with
  | powerOnReset =>
    cases e
    exact powerOn_ranges s s
  | lineReset =>
    change execLineReset s = _ at e
    exact running_ranges e fun u => (resetBlocks_ranges u).trans (.of_same rfl rfl rfl)
  | resetRelease =>
    cases e
    split
    · have released : RangesKept s { s with resetHeld := false } := .of_same rfl rfl rfl
      exact released.trans (startUp_ranges _).kept
    · exact .refl s
  | restartTakesEffect =>
    change execRestartTakesEffect s = _ at e
    exact runningWork_ranges e fun u _ => restartEffect_ranges u
  | sfsStrobe elapsed => exact (modTimebase_ranges _ s).trans (running_ranges e takeStrobe_ranges)
  | supervisionExpiry =>
    change execSupervisionExpiry s = _ at e
    refine running_ranges e fun u => ?_
    split
    · exact boundaryAfterState_ranges _ true u
    · exact .refl u
  | internalBoundary =>
    cases e
    split
    · exact internalBoundary_ranges s
    · exact .refl s
  | branchLoss c =>
    change execBranchLoss c s = _ at e
    exact runningWork_ranges e fun u _ => (judgeBranchLoss_ranges c u).kept
  | backoffExpiry c =>
    change execBackoffExpiry c s = _ at e
    exact runningWork_ranges e fun u _ =>
      (((RangeFrame.closeOrder c .steady 0 u).trans (.formTarget c _)).trans (.openOrderWork c _)).kept
  | orderDeadline c =>
    change execOrderDeadline c s = _ at e
    exact runningWork_ranges e fun u _ => (RangeFrame.deadline c u).kept
  | armTx c =>
    change execArmTx c s = _ at e
    exact runningWork_ranges e fun u _ => (RangeFrame.armAtDeadline c u).kept
  | orderSwitch c =>
    change execOrderSwitch c s = _ at e
    refine running_ranges e fun u => ?_
    split
    · exact (((RangeFrame.switchOrder c _ u).trans (.formTarget c _)).trans (.openOrderWork c _)).kept
    · exact .refl u
  | applyEffect =>
    change execApplyEffect s = _ at e
    exact runningWork_ranges e fun u _ =>
      ((RangeFrame.applyBoundary (u.wireOrder .mismatch) u).trans (.of_same (t := drawn _) rfl rfl rfl)).kept
  | quietEntry c =>
    change execQuietEntry c s = _ at e
    exact runningWork_ranges e fun u _ => (enterQuiet_ranges c u).kept
  | lockLossHalt c =>
    change execLockLossHalt c s = _ at e
    exact runningWork_ranges e fun u _ => (haltedEntry_ranges c _ u).kept
  | silenceHalt c =>
    change execSilenceHalt c s = _ at e
    exact runningWork_ranges e fun u _ => (haltedEntry_ranges c _ u).kept
  | holdoffExpiry c =>
    change execHoldoffExpiry c s = _ at e
    refine runningWork_ranges e fun u hp => (enterSeeking_ranges ?_).kept
    simp only [State.holdoffOver, Bool.and_eq_true, beq_iff_eq] at hp
    exact hp.2.1
  | seekTimeout c =>
    change execSeekTimeout c s = _ at e
    exact runningWork_ranges e fun u _ => (haltedEntry_ranges c _ u).kept
  | ackWaitExpiry =>
    change execAckWaitExpiry s = _ at e
    exact runningWork_ranges e fun u _ => (RangeFrame.ackWaitExpired u).kept
  | recordCutShort newOctets =>
    change execRecordCutShort newOctets s = _ at e
    unfold execRecordCutShort at e
    split at e
    · exact running_ranges e fun u => .of_same rfl rfl rfl
    · cases e
  | inboundRecordDiscarded record =>
    change execInboundRecordDiscarded record s = _ at e
    unfold execInboundRecordDiscarded at e
    split at e
    · exact running_ranges e fun u =>
        ((recordTaken_ranges u).trans (takeRecord_ranges record _)).kept
    · cases e
  | frameReport carrier frameIndex flags snrA snrB rslA rslB =>
    change execFrameReport carrier frameIndex flags snrA snrB rslA rslB s = _ at e
    exact running_ranges e fun u =>
      ((recordTaken_ranges u).trans (takeFrameReport_ranges _ _ _ _ _ _ _ _)).kept
  | slotIn carrier octets =>
    change execSlotIn carrier octets s = _ at e
    unfold execSlotIn at e
    split at e
    · exact running_ranges e fun u =>
        ((recordTaken_ranges u).trans (takeSlotIn_ranges carrier octets _)).kept
    · cases e
  | slotRequest carrier =>
    change execSlotRequest carrier s = _ at e
    exact running_ranges e fun u =>
      ((recordTaken_ranges u).trans (takeSlotRequest_ranges carrier _)).kept
  | frameGapTimeout => exact running_ranges e fun u => (RangeFrame.modPort _ u).kept
  | badFrame octets => exact running_ranges e fun u => (RangeFrame.modPort _ u).kept
  | requestFrame octets => exact running_ranges e fun u => (RangeFrame.modPort _ u).kept
  | unknownKind =>
    change execUnknownKind s = _ at e
    refine running_ranges e fun u => RangeFrame.kept ?_
    split
    · exact .refl u
    · exact .ite (fun _ => .refl u) fun _ => (RangeFrame.modPort _ u).trans (.reply _ _ _)
  | frameTransmit =>
    change execFrameTransmit s = _ at e
    refine running_ranges e fun u => ?_
    split
    · exact restartEffect_ranges u
    · exact (startNext_ranges u).kept
  | identify =>
    change execIdentify s = _ at e
    exact runningServe_ranges e fun f u => (RangeFrame.reply f _ u).kept
  | getStatus =>
    change execGetStatus s = _ at e
    exact runningServe_ranges e fun f u => .of_same rfl rfl rfl
  | getStats =>
    refine runningServe_ranges e fun f u => RangeFrame.kept ?_
    unfold takeGetStats
    split
    · unfold giveStats
      exact .ite (fun _ => (RangeFrame.reply f _ u).trans (.modStats _ _ _)) fun _ => .reply f _ u
    · exact .reply f _ u
  | setTimebase elapsed =>
    exact (modTimebase_ranges _ s).trans (runningServe_ranges e takeSetTimebase_ranges)
  | getCarrier =>
    refine runningServe_ranges e fun f u => RangeFrame.kept ?_
    unfold takeGetCarrier
    split
    · exact .reply f _ u
    · exact (RangeFrame.reply f _ u).trans (.modEst (f := fun e => { e with stickyClip := false }) id)
  | setCarrier => exact runningServe_ranges e takeSetCarrier_ranges
  | restartCarrier => exact runningServe_ranges e fun f u => (takeRestartCarrier_ranges f u).kept
  | enableProfiles => exact runningServe_ranges e fun f u => (takeEnables_ranges f _ u).kept
  | disableProfiles => exact runningServe_ranges e fun f u => (takeEnables_ranges f _ u).kept
  | writeProfiles => exact runningServe_ranges e fun f u => (takeWriteProfiles_ranges f u).kept
  | readProfiles =>
    refine runningServe_ranges e fun f u => RangeFrame.kept ?_
    unfold takeReadProfiles
    split
    · exact .reply f _ u
    · exact .ite (fun _ => .reply f _ u) fun _ => .reply f _ u
  | applyTable => exact runningServe_ranges e fun f u => (takeApplyTable_ranges f u).kept
  | pushTable => exact runningServe_ranges e fun f u => (takePushTable_ranges f u).kept
  | abortPush => exact runningServe_ranges e fun f u => (takeAbortPush_ranges f u).kept
  | setRemote => exact runningServe_ranges e fun f u => (takeSetRemote_ranges f u).kept
  | readFades =>
    refine runningServe_ranges e fun f u => RangeFrame.kept ?_
    unfold takeReadFades
    exact .ite (fun _ => .of_same rfl rfl rfl) fun _ => .reply f _ u
  | setNotices =>
    refine runningServe_ranges e fun f u => RangeFrame.kept ?_
    unfold takeSetNotices
    exact .ite (fun _ => .of_same rfl rfl rfl) fun _ => .reply f _ u
  | saveSettings =>
    refine runningServe_ranges e fun f u => RangeFrame.kept ?_
    unfold takeSaveSettings
    exact .ite (fun _ => .of_same rfl rfl rfl) fun _ => .reply f _ u
  | saveWriteEnd readBack =>
    change execSaveWriteEnd readBack s = _ at e
    refine running_ranges e fun u => RangeFrame.kept ?_
    split
    · exact endWrite_ranges readBack _ u
    · exact .refl u
  | restart => exact runningServe_ranges e fun f u => ((RangeFrame.reply f _ u).trans (.modPort _ _)).kept

/-- Settles O7: each command keeps laws 1, 8 and 11, and so does the microsecond that passes when none waits. -/
theorem stepKeepsRangeLaws : Obligations.StepKeepsRangeLaws := by
  intro s t e
  have kept : RangesKept s t := by
    cases hp : s.pending with
    | nil =>
      rw [step_idle hp] at e
      cases e
      exact tick_ranges s
    | cons i rest =>
      unfold step at e
      rw [hp] at e
      have taken : RangesKept s { s with pending := rest } := .of_same rfl rfl rfl
      exact taken.trans (exec_ranges i e)
  exact ⟨kept.estimator, kept.attenuation, kept.advice⟩

end Sys2Proof.Machine
end

section
/-! SUPPORT. The Quality Estimator: the reduction of a superframe, the branch loss decision with its wire, and branch
choice. -/

namespace Sys2Proof.Machine

/-! ### The reduction of a superframe -/

/-- f after a present superframe: fast attack at once, a release rounded up (R28). -/
theorem filterNext_some (old shift x : Nat) :
    (x ≤ old → filterNext (some old) shift x = x) ∧
    (old < x →
      old < filterNext (some old) shift x ∧ filterNext (some old) shift x ≤ x ∧
        x - old ≤ 2 ^ shift * (filterNext (some old) shift x - old) ∧
        2 ^ shift * (filterNext (some old) shift x - old) < x - old + 2 ^ shift) := by
  refine ⟨fun h => by simp [filterNext, h], fun h => ?_⟩
  obtain ⟨h0, h1, h2, h3⟩ := release_bounds (d := x - old) (q := 2 ^ shift) (by omega) (Nat.two_pow_pos shift)
  have e : filterNext (some old) shift x = old + (x - old + (2 ^ shift - 1)) / 2 ^ shift := by
    simp [filterNext, Nat.not_le.2 h]
  rw [e, Nat.add_sub_cancel_left]
  exact ⟨by omega, by omega, h2, h3⟩

/-- Settles O26: by presence, then by the sign of g and of the projection. -/
theorem superframeReduction : Obligations.SuperframeReduction := by
  rintro r e _ rfl
  refine ⟨fun absent => by simp [reduceSuperframe, absent], fun m present => ?_⟩
  have reduced : reduceSuperframe r e = { e with
      f := some (filterNext e.f r.releaseShift (4 * m))
      g := some (slopeNext e.f e.g (filterNext e.f r.releaseShift (4 * m)))
      p := some (projected (filterNext e.f r.releaseShift (4 * m))
        (slopeNext e.f e.g (filterNext e.f r.releaseShift (4 * m))) r.lead).toNat
      rslMin := e.minRsl
      dynamicClip := e.clipSeen || decide (projected (filterNext e.f r.releaseShift (4 * m))
        (slopeNext e.f e.g (filterNext e.f r.releaseShift (4 * m))) r.lead < 0)
      stickyClip := e.stickyClip || (e.clipSeen || decide (projected (filterNext e.f r.releaseShift (4 * m))
        (slopeNext e.f e.g (filterNext e.f r.releaseShift (4 * m))) r.lead < 0)) } := by
    simp only [reduceSuperframe, present]
  refine ⟨_, _, _, _, reduced, fun first => ?_, fun old later => ?_, ?_⟩
  · simp [first, filterNext, slopeNext]
  · have filtered := filterNext_some old r.releaseShift (4 * m)
    rw [← later] at filtered
    refine ⟨filtered.1, filtered.2, fun g' hg => ?_⟩
    generalize filterNext e.f r.releaseShift (4 * m) = f
    simpa only [slopeNext, later, hg, Option.getD_some] using tdiv_four (3 * g' + ((f : Int) - (old : Int)))
  · generalize filterNext e.f r.releaseShift (4 * m) = f
    generalize slopeNext e.f e.g f = g
    refine ⟨fun rises => ?_, fun falls above => ?_, fun falls below => ?_⟩
    · have hq : projected f g r.lead = f := if_neg (by omega)
      rw [hq]
      exact ⟨Int.toNat_natCast f, by simp⟩
    · have hq : projected f g r.lead = (f : Int) + g * r.lead := if_pos falls
      rw [hq]
      exact ⟨Int.toNat_of_nonneg above, by simp [above]⟩
    · have hq : projected f g r.lead = (f : Int) + g * r.lead := if_pos falls
      rw [hq]
      exact ⟨by omega, by simp [below]⟩

/-! ### A wire formed -/

theorem exists_kind {i : Nat} (h : i < 6) : ∃ k : AlarmKind, k.index = i := by
  match i, h with
  | 0, _ => exact ⟨.fade, rfl⟩
  | 1, _ => exact ⟨.link, rfl⟩
  | 2, _ => exact ⟨.diversity, rfl⟩
  | 3, _ => exact ⟨.mismatch, rfl⟩
  | 4, _ => exact ⟨.timebase, rfl⟩
  | 5, _ => exact ⟨.store, rfl⟩

/-- Two sets of alarm kinds meet exactly when some kind is in both. -/
theorem and_ne_zero_iff (a b : BitVec 6) :
    (a &&& b != 0) = true ↔ ∃ j : AlarmKind, a.getLsbD j.index = true ∧ b.getLsbD j.index = true := by
  rw [bne_iff_ne]
  refine ⟨fun h => ?_, fun ⟨j, ha, hb⟩ h => ?_⟩
  · by_contra hn
    refine h (BitVec.eq_of_getLsbD_eq fun i hi => ?_)
    obtain ⟨j, rfl⟩ := exists_kind hi
    rw [BitVec.getLsbD_and]
    by_contra hj
    exact hn ⟨j, by simpa using hj⟩
  · have := congrArg (·.getLsbD j.index) h
    simp [ha, hb] at this

/-- The collapsed wire of a kind formed again after its wires have been set (R154, R155). -/
theorem formCollapsed_formed (k : AlarmKind) (u : State) : WireFormed k u (formCollapsed k u) := by
  obtain ⟨a, b, p, e, -, own, others⟩ := formCollapsed_spec k u
  refine ⟨by rw [e], fun j => ?_, fun h => by simp only [formCollapsed, h, if_true], fun h => ?_⟩
  · rw [e]
    show a.getLsbD j.index = _
    split
    · rename_i hj
      rw [hj, own]
    · exact others j ‹_›
  · obtain ⟨q, eq, placed⟩ := placeNotice_spec (.alarm k (u.wireOr k))
      { u with alarms := { u.alarms with collapsed := withBit u.alarms.collapsed k.index (u.wireOr k) } }
    simp only [formCollapsed, h, if_false, eq]
    refine ⟨placed, ?_⟩
    simp only [formAlert, Bool.and_eq_true, Bool.not_eq_true', and_ne_zero_iff]
    rfl

/-! ### Branch loss and branch choice -/

/-- The branch loss decision sets the flag and the wire alike, and forms the DIVERSITY wire again (R36, R153). -/
theorem judgeBranchLoss_formed (c : Carrier) (s : State) (lost : Bool)
    (h : lost = branchLostNext (s.car c).sup.inForce (s.car c).est) :
    WireFormed .diversity { s with carriers := s.carriers.set c { s.car c with
      est := { (s.car c).est with branchLost := lost }, wires := { (s.car c).wires with diversity := lost } } }
      (judgeBranchLoss c s) := by
  have e : judgeBranchLoss c s = formCollapsed .diversity { s with carriers := s.carriers.set c { s.car c with
      est := { (s.car c).est with branchLost := lost }, wires := { (s.car c).wires with diversity := lost } } } := by
    rw [h]
    simp [judgeBranchLoss, setWire, modEst, modCar, State.setCar, State.car, CarrierWires.set]
  rw [e]
  exact formCollapsed_formed _ _

/-- The other branch is called for when it alone was heard, or by the hysteresis when both were (R33). -/
theorem otherBetter_iff (hyst : Nat) (selected other : Option Nat) :
    otherBetter hyst selected other = true ↔ (selected = none ∧ other ≠ none) ∨
      (∃ x y, selected = some x ∧ other = some y ∧ x + hyst ≤ y ∧ x < y) := by
  cases selected <;> cases other <;> simp [otherBetter]

theorem chooseBranch_changes (hyst : Nat) (e : Estimator) {selected other : Option Nat}
    (h : (e.selection = .a ∧ selected = e.minA ∧ other = e.minB) ∨
      (e.selection = .b ∧ selected = e.minB ∧ other = e.minA)) :
    chooseBranch hyst e ≠ e.selection ↔ otherBetter hyst selected other = true := by
  rcases h with ⟨hs, rfl, rfl⟩ | ⟨hs, rfl, rfl⟩
  all_goals
    simp only [chooseBranch, hs]
    split <;> simp_all

/-- Settles O27: the decision of R36 case by case, and the choice of R33 by the branch selected. -/
theorem branchLossAndChoice : Obligations.BranchLossAndChoice := by
  refine ⟨?_, ?_⟩
  · rintro s c r e high boundary on rfl rfl
    refine ⟨judgeBranchLoss c s, _, ?_, fun single => ?_, fun dual => ⟨fun a b => ?_, fun some_ long => ?_,
      fun some_ a b => ?_⟩, judgeBranchLoss_formed c s _ rfl⟩
    · change execBranchLoss c s = _
      rw [execBranchLoss, running_high _ high, if_pos (by simp [boundary, enabled_eq, on])]
    · simp [branchLostNext, single]
    all_goals
      have two : ¬((s.car c).sup.inForce.diversity = .branchA ∨ (s.car c).sup.inForce.diversity = .branchB) := by
        rcases dual with d | d <;> simp [d]
    · simp [branchLostNext, two, a, b]
    · rw [branchLostNext, if_neg two, if_neg some_, if_pos long]
    · rw [branchLostNext, if_neg two, if_neg some_, if_neg (by omega)]
  · rintro s _ c r e rfl rfl rfl
    refine ⟨fun other => by simp [selectBranchWork, other], fun select => ?_⟩
    refine ⟨chooseBranch (s.car c).sup.inForce.selHyst (s.car c).est, fun selected other h => ?_, ?_⟩
    · rw [chooseBranch_changes _ _ h, otherBetter_iff]
    · unfold selectBranchWork
      simp only [select, if_true]
      split
      · rfl
      · simp [modEst_eq]

end Sys2Proof.Machine
end

section
/-! SUPPORT. The reset state, and the requests that read a carrier and the profile tables. -/

namespace Sys2Proof.Machine

/-! ### The reset state -/

/-- What the blocks of every carrier of a factory part hold: their values after any reset, with a record of R126. -/
theorem reset_carriers (c : Carrier) :
    (State.reset.car c).est = Estimator.afterReset ∧ (State.reset.car c).rac = Rac.afterReset ∧
      (State.reset.car c).tac = Tac.afterReset 0 ∧ (State.reset.car c).fade = none ∧
      (State.reset.car c).sup.record = CarrierRecord.factory (c = 0) ∧
      (State.reset.car c).sup.inForce = CarrierRecord.factory (c = 0) ∧ State.reset.inService c = false := by
  revert c
  decide

theorem reset_alarms : AlarmLaw State.reset := by
  refine ⟨fun k => ?_, by decide, ?_⟩
  · cases k <;> decide
  · show _ ∧ _ ∧ ∀ c, (State.reset.car c).wiresFollow
    exact ⟨by decide, by decide, by unfold CarrierState.wiresFollow; decide⟩

theorem reset_ranges : EstimatorLaw State.reset ∧ AttenuationLaw State.reset ∧ AdviceLaw State.reset := by
  have inRange (on : Bool) : recordInRange (CarrierRecord.factory on) = true := by cases on <;> decide
  refine ⟨fun c => ?_, (attenuationLaw_iff _).2 fun c => ?_, fun c => ?_⟩ <;>
    obtain ⟨he, hr, ht, -, hs, hf, -⟩ := reset_carriers c
  · rw [he]
    simp [Estimator.bounded, Estimator.afterReset]
  · rw [CarrierState.attenuated, hs, hf, ht]
    exact ⟨inRange _, inRange _, Nat.le_refl _, Nat.zero_le _⟩
  · rw [hr]
    exact ⟨Nat.zero_le _, fun _ => ⟨rfl, rfl, rfl⟩⟩

theorem reset_orders : OrderLaw State.reset := by
  intro c
  obtain ⟨-, hr, ht, -⟩ := reset_carriers c
  obtain ⟨-, -, hp, -⟩ := reset_carriers (partner c)
  simp only [CarrierState.orderly, State.pairAgrees, hr, ht, hp]
  simp [Tac.afterReset, Rac.afterReset, Tac.isOpen]

theorem reset_tables : TableLaw State.reset := by
  have fits : ∀ x ∈ State.reset.tables.pending, x.all entryInRange = true := by decide
  refine ⟨by decide, by decide +kernel, by decide, rfl, by decide, fun e he => fits _ he, fun e he => ?_⟩
  cases he
  exact ⟨rfl, rfl⟩

theorem reset_profiles : ProfileLaw State.reset := by
  refine ⟨reset_tables, fun c => ?_⟩
  obtain ⟨-, hr, ht, -⟩ := reset_carriers c
  simp only [CarrierState.profilesBelow, hr, ht]
  simp [Tac.afterReset, Rac.afterReset, Tac.isOpen, State.nUsed, State.reset, factoryTable]

/-- Settles O3: law by law, by the values of a factory part. -/
theorem resetIsLawful : Obligations.ResetIsLawful := by
  obtain ⟨estimator, attenuation, advice⟩ := reset_ranges
  refine ⟨⟨List.nodup_nil, fun _ h => (List.not_mem_nil h).elim⟩, ?_, reset_alarms, estimator, attenuation, reset_orders,
    advice, reset_profiles, ?_, ?_, ?_⟩
  · simp [BoundsLaw, State.reset]
  · simp [TransferLaw, State.reset, Receiver.afterReset, Sender.afterReset]
  · simp [SaveLaw, State.reset]
  · simp [TimeLaw, State.reset, Timebase.due]

/-! ### GET_CARRIER -/

/-- The ids of an upper carrier's RAC are reported as none (R80). -/
theorem idOctets (upper : Bool) (r : Rac) :
    optByte (if upper then none else r.lastCancelled) ++ optByte (if upper then none else r.lastSwitched) =
      if upper then [0, 0, 0, 0] else optByte r.lastCancelled ++ optByte r.lastSwitched := by
  cases upper <;> rfl

/-! ### READ_PROFILES -/

theorem natAt_cons_zero (b : Byte) (bs : List Byte) : natAt (b :: bs) 0 = b.toNat := rfl

/-- The place of the table read: an entry of the Active Table below N_used, or a place of the Pending Table (R45). -/
theorem placesOf_getD (s : State) (pending : Bool) (i : Nat) :
    (s.placesOf pending).getD i none = if pending then s.tables.pending.getD i none else s.tables.active[i]? := by
  cases pending
  · simp [State.placesOf, List.getD]
    cases s.tables.active[i]? <;> rfl
  · rfl

/-- GET_CARRIER in range: the carrier's octets, and its sticky clip cleared (R31, R143). -/
theorem exec_getCarrier {s : State} {f : Frame} {rest : List Frame} (waiting : Waiting s f rest) (kind : f.kind = 0x05)
    {c : Carrier} (body : f.body = [carrierByte c]) :
    exec .getCarrier s = .next (modEst c (fun e => { e with stickyClip := false }) { s with
      port := s.answered f rest (statusOk :: s.carrierOctets c) }) := by
  have served := serve_waiting waiting kindGetCarrier takeGetCarrier kind (by rw [body]; rfl)
  refine served.trans (congrArg _ ?_)
  rw [takeGetCarrier, body, natAt_cons_zero, carrierOf_carrierByte]
  rfl

/-- READ_PROFILES by its arguments (R45). -/
theorem exec_readProfiles {s : State} {f : Frame} {rest : List Frame} (waiting : Waiting s f rest) (kind : f.kind = 0x0B)
    {which start count : Byte} (body : f.body = [which, start, count]) :
    (∀ pending, pendingAt f.body 0 = some pending → placesInRange start.toNat count.toNat = true →
      exec .readProfiles s = .next { s with
        port := s.answered f rest (statusOk :: s.profileOctets pending start.toNat count.toNat) }) ∧
    (pendingAt f.body 0 = none ∨ placesInRange start.toNat count.toNat = false →
      exec .readProfiles s = .next { s with port := s.answered f rest [statusBadArgument] }) := by
  have served := serve_waiting waiting kindReadProfiles takeReadProfiles kind (by rw [body]; rfl)
  have h1 : natAt f.body 1 = start.toNat := by rw [body]; rfl
  have h2 : natAt f.body 2 = count.toNat := by rw [body]; rfl
  refine ⟨fun pending hp hr => served.trans (congrArg _ ?_), fun bad => served.trans (congrArg _ ?_)⟩
  · simp only [takeReadProfiles, hp, h1, h2, hr, if_true]
    rfl
  · unfold takeReadProfiles
    rw [h1, h2]
    cases hp : pendingAt f.body 0 with
    | none => rfl
    | some pending =>
      have hr : placesInRange start.toNat count.toNat = false := bad.resolve_left (by simp [hp])
      simp only [hr]
      rfl

theorem octet_le_one {b : Byte} (h : b.toNat ≤ 1) : b = 0 ∨ b = 1 := by
  rcases Nat.le_one_iff_eq_zero_or_eq_one.1 h with h | h
  · exact .inl (BitVec.eq_of_toNat_eq h)
  · exact .inr (BitVec.eq_of_toNat_eq h)

/-- An octet that is at most 1 names a boolean: whether it is not zero. -/
theorem boolAt_of_le_one {b : Byte} {bs : List Byte} (h : b.toNat ≤ 1) : boolAt (b :: bs) 0 = some (decide (b ≠ 0)) := by
  rcases octet_le_one h with rfl | rfl <;> rfl

/-- The octets of a READ_PROFILES reply (R45; log entry 19). -/
theorem profileOctets_eq (s : State) {which start count : Byte} (h : which.toNat ≤ 1) :
    statusOk :: s.profileOctets (decide (which ≠ 0)) start.toNat count.toNat =
      [0x00, which, start, count]
        ++ [byteOf (if which = 0 then s.tables.active.length else (s.tables.pending.takeWhile Option.isSome).length),
          s.tables.completeness.toByte, s.tables.owner.toByte]
        ++ optByte (s.tables.scheduled.map List.length)
        ++ (List.range count.toNat).flatMap fun i =>
          optional 6 (fun e : Entry => [byteOf (start.toNat + i), byteOf e.modulation, byteOf e.code]
              ++ nat16 e.thr ++ [byteOf e.hyst])
            (if which = 0 then s.tables.active[start.toNat + i]? else s.tables.pending.getD (start.toNat + i) none) := by
  have octet (b : Byte) : byteOf b.toNat = b := by simp [byteOf]
  have named : boolByte (decide (which ≠ 0)) = which := by
    rcases octet_le_one h with rfl | rfl <;> rfl
  simp only [State.profileOctets, octet, named, placesOf_getD, placeOctets, decide_eq_true_eq, ite_not,
    List.cons_append, List.nil_append]
  rfl

/-- Settles O19: GET_CARRIER octet by octet, and READ_PROFILES by the table it names. -/
theorem carrierAndProfileReads : Obligations.CarrierAndProfileReads := by
  intro s f rest waiting
  refine ⟨fun c k r kind body hk hr => ?_, fun a kind body above => ?_, fun which start count kind body hw hc hs => ?_,
    fun which start count kind body out => ?_⟩
  · subst hr hk
    refine (exec_getCarrier waiting kind body).trans (congrArg (fun octets => Host.Outcome.next (modEst c _ { s with
      port := s.answered f rest octets })) ?_)
    simp only [← idOctets, State.carrierOctets, State.tacOctets, Rac.octets, Estimator.octets, Lac.octets, recordOctets,
      branchOctets, gov_eq, State.headroom, statusOk, List.append_assoc, List.cons_append, List.nil_append]
    rfl
  · have served := serve_waiting waiting kindGetCarrier takeGetCarrier kind (by rw [body]; rfl)
    refine served.trans (congrArg _ ?_)
    rw [takeGetCarrier, body, natAt_cons_zero, carrierOf_above above]
    rfl
  · have named : pendingAt f.body 0 = some (decide (which ≠ 0)) := by
      rw [body]
      exact boolAt_of_le_one hw
    rw [(exec_readProfiles waiting kind body).1 _ named (by simp [placesInRange]; omega), profileOctets_eq s hw]
  · refine (exec_readProfiles waiting kind body).2 ?_
    rcases out with above | out
    · exact .inl (by rw [body]; exact boolAt_above above)
    · exact .inr (by simp [placesInRange]; omega)

end Sys2Proof.Machine
end

section
/-! SUPPORT. The octets of a configuration record, and SET_CARRIER and RESTART_CARRIER (R128 to R132, R142). -/

namespace Sys2Proof.Machine

/-! ### The octets of a record -/

/-- Each field of a record is a number that its octets hold. -/
structure FitsOctets (r : CarrierRecord) : Prop where
  selHyst : r.selHyst < 256
  divLost : r.divLost < 256
  releaseShift : r.releaseShift < 256
  lead : r.lead < 256
  margin : r.margin < 256
  upHold : r.upHold < 256
  upStep : r.upStep < 256
  ceiling : r.ceiling < 256
  fixedProfile : r.fixedProfile < 256
  attenMin : r.attenMin < 256
  rslLo : -128 ≤ r.rslLo ∧ r.rslLo < 128
  rslHi : -128 ≤ r.rslHi ∧ r.rslHi < 128
  fadeLow : r.fadeLow < 65536
  fadeHigh : r.fadeHigh < 65536
  w1 : r.w1 < 256
  w2 : r.w2 < 256
  kLock : r.kLock < 256
  tHold : r.tHold < 256
  tSeek : r.tSeek < 65536

/-- The ranges of R126 are within the octets'. -/
theorem fitsOctets_of_inRange {r : CarrierRecord} (h : recordInRange r = true) : FitsOctets r := by
  simp only [recordInRange, Bool.and_eq_true, decide_eq_true_eq] at h
  constructor <;> omega

theorem byteOf_toNat {n : Nat} (h : n < 256) : (byteOf n).toNat = n := by
  rw [byteOf, BitVec.toNat_ofNat, Nat.mod_eq_of_lt h]

theorem byteOfInt_toInt {i : Int} (low : -128 ≤ i) (high : i < 128) : (byteOfInt i).toInt = i := by
  rw [byteOfInt, BitVec.toInt_ofInt]
  exact Int.bmod_eq_of_le (by omega) (by omega)

/-- The octets of a sixteen-bit number, most significant first. -/
theorem nat16_eq (n : Nat) : nat16 n = [byteOf (n / 256), byteOf n] := by
  have high : (BitVec.ofNat 16 n).extractLsb' 8 8 = byteOf (n / 256) := BitVec.eq_of_toNat_eq (by
    simp [byteOf, Nat.shiftRight_eq_div_pow]
    omega)
  have low : (BitVec.ofNat 16 n).extractLsb' 0 8 = byteOf n := BitVec.eq_of_toNat_eq (by
    simp [byteOf])
  rw [nat16, bytes16, high, low]

/-- A sixteen-bit number is read back from its octets. -/
theorem nat16_read {n : Nat} (h : n < 65536) : 256 * (byteOf (n / 256)).toNat + (byteOf n).toNat = n := by
  simp [byteOf]
  omega

theorem boolAt_of_octet {b : List Byte} {i : Nat} {x : Bool} (h : natAt b i = (boolByte x).toNat) : boolAt b i = some x := by
  rw [boolAt, h]
  cases x <;> rfl

/-- A record is read back from its octets (R190). -/
theorem recordAt_recordOctets {r : CarrierRecord} (fits : FitsOctets r) (n : Byte) (paired : Bool) :
    recordAt (n :: recordOctets paired r) 1 = some (paired, r) := by
  obtain ⟨selHyst, divLost, releaseShift, lead, margin, upHold, upStep, ceiling, fixedProfile, attenMin, ⟨lo, lo'⟩,
    ⟨hi, hi'⟩, fadeLow, fadeHigh, w1, w2, kLock, tHold, tSeek⟩ := fits
  have diversity : diversityAt (n :: recordOctets paired r) 3 = some r.diversity := by
    have octet : natAt (n :: recordOctets paired r) 3 = r.diversity.toByte.toNat := rfl
    rw [diversityAt, octet]
    cases r.diversity <;> rfl
  have adapt : adaptAt (n :: recordOctets paired r) 12 = some r.adapt := by
    have octet : natAt (n :: recordOctets paired r) 12 = r.adapt.toByte.toNat := rfl
    rw [adaptAt, octet]
    cases r.adapt <;> rfl
  have enabled : boolAt (n :: recordOctets paired r) 1 = some r.enabled := boolAt_of_octet rfl
  have pairing : boolAt (n :: recordOctets paired r) 2 = some paired := boolAt_of_octet rfl
  simp only [recordAt, enabled, pairing, diversity, adapt]
  simp [recordOctets, nat16_eq, natAt, intAt, nat16At, byteOf_toNat, byteOfInt_toInt, nat16_read, *]

/-- The argument checks of R128, in the words of the manual. -/
theorem recordInRange_false_iff {r : CarrierRecord} (fits : FitsOctets r) :
    recordInRange r = false ↔
      (40 < r.selHyst ∨ r.divLost < 8 ∨ 7 < r.releaseShift ∨ r.lead < 3 ∨ 15 < r.lead ∨ r.upHold = 0 ∨
        r.upStep = 0 ∨ 15 < r.upStep ∨ 15 < r.ceiling ∨ 15 < r.fixedProfile ∨ 30 < r.attenMin ∨ r.rslLo < -110 ∨
        r.rslHi ≤ r.rslLo ∨ -10 < r.rslHi ∨ r.fadeHigh ≤ r.fadeLow ∨ 1020 < r.fadeHigh ∨ r.w1 < 2 ∨ 64 < r.w1 ∨
        r.w2 ≤ r.w1 ∨ r.kLock = 0 ∨ 64 < r.kLock ∨ r.tHold < 4 ∨ r.tSeek < 16 ∨ 4095 < r.tSeek) := by
  obtain ⟨selHyst, divLost, releaseShift, lead, margin, upHold, upStep, ceiling, fixedProfile, attenMin, -,
    -, fadeLow, fadeHigh, w1, w2, kLock, tHold, tSeek⟩ := fits
  rw [← Bool.not_eq_true]
  simp only [recordInRange, Bool.and_eq_true, decide_eq_true_eq]
  omega

/-! ### SET_CARRIER -/

/-- SET_CARRIER whose octets fit, by its checks (R128). -/
theorem exec_setCarrier {s : State} {f : Frame} {rest : List Frame} (waiting : Waiting s f rest) (kind : f.kind = 0x06)
    {n : Byte} {paired : Bool} {r : CarrierRecord} (fits : FitsOctets r) (body : f.body = n :: recordOctets paired r) :
    (4 ≤ n.toNat ∨ recordInRange r = false →
      exec .setCarrier s = .next { s with port := s.answered f rest [statusBadArgument] }) ∧
    (∀ c, n = carrierByte c → recordInRange r = true →
      (s.pairingBlocked c paired = true →
        exec .setCarrier s = .next { s with port := s.answered f rest [statusNotNow] }) ∧
      (s.pairingBlocked c paired = false → exec .setCarrier s = .next (reply f [statusOk]
        (applyRecord c paired r { s with port := { s.port with queue := rest } })))) := by
  have served := serve_waiting waiting kindSetCarrier takeSetCarrier kind (by rw [body]; rfl)
  have record := recordAt_recordOctets fits n paired
  have number : natAt f.body 0 = n.toNat := by rw [body]; rfl
  rw [← body] at record
  refine ⟨fun bad => served.trans (congrArg _ ?_), fun c hn inRange => ⟨fun blocked => served.trans (congrArg _ ?_),
    fun free => served.trans (congrArg _ ?_)⟩⟩
  · unfold takeSetCarrier
    rw [number, record]
    cases hc : carrierOf n.toNat with
    | none => rfl
    | some c =>
      have out : recordInRange r = false := bad.resolve_left fun above => by simp [carrierOf_above above] at hc
      simp only [out]
      rfl
  · simp only [takeSetCarrier, number, record, hn, carrierOf_carrierByte, inRange, if_true]
    exact if_pos blocked
  · simp only [takeSetCarrier, number, record, hn, carrierOf_carrierByte, inRange, if_true]
    exact if_neg (fun blocked => Bool.noConfusion (blocked.symm.trans free))

/-- A change of pairing waits for both carriers of the position to be DISABLED (R128). -/
theorem pairingBlocked_iff (s : State) (c : Carrier) (paired : Bool) :
    s.pairingBlocked c paired = true ↔ paired ≠ s.paired c ∧ (s.link c ≠ .disabled ∨ s.link (partner c) ≠ .disabled) := by
  simp [State.pairingBlocked, enabled_eq]

/-- What an accepted record replaces, before any entry: the record, the pairing with the T and V places, and the
attenuation with its SET_ATTEN (R34, R103, R129, R130). -/
theorem recordPlaced_eq (c : Carrier) (paired : Bool) (r : CarrierRecord) (s : State) :
    raiseFloor c (putRecord c r (changePairing c paired s)) = { s with
      pairedA := if c = 0 ∨ c = 1 then paired else s.pairedA
      pairedB := if c = 2 ∨ c = 3 then paired else s.pairedB
      outQueue := if paired = s.paired c then s.outQueue else withoutCarrier (partner c) (withoutCarrier c s.outQueue)
      carriers := s.carriers.set c ((s.car c).withRecord r)
      modem := { s.modem with outbound := s.modem.outbound ++
        (if (s.car c).tac.atten < r.attenMin ∧ s.link c ≠ .disabled then
          [.setAtten (carrierMask c) r.attenMin] else []) } } := by
  rw [recordPut_eq, changePairing_spec]
  rfl

/-- The record placed does not reach the port. -/
theorem recordPlaced_port (c : Carrier) (paired : Bool) (r : CarrierRecord) (s : State) (p : Port) :
    raiseFloor c (putRecord c r (changePairing c paired { s with port := p })) =
      { raiseFloor c (putRecord c r (changePairing c paired s)) with port := p } := by
  rw [recordPlaced_eq, recordPlaced_eq]
  rfl

theorem changePairing_same (c : Carrier) (s : State) : changePairing c (s.paired c) s = s := if_pos rfl

/-- An enabled field as the link state has it makes no entry. -/
theorem followEnabled_same {c : Carrier} {s : State} (h : (s.car c).sup.record.enabled = true ↔ s.link c ≠ .disabled) :
    followEnabled c s = s := by
  have he : s.enabled c = (s.car c).sup.record.enabled := by rw [enabled_eq]; simp [← h]
  cases hw : (s.car c).sup.record.enabled <;> simp [followEnabled, he, hw]

theorem followEnabled_enters {c : Carrier} {s : State} (wanted : (s.car c).sup.record.enabled = true)
    (out : s.link c = .disabled) : followEnabled c s = haltedEntry c .enable s := by
  simp [followEnabled, enabled_eq, wanted, out]

theorem followEnabled_leaves {c : Carrier} {s : State} (unwanted : (s.car c).sup.record.enabled = false)
    (running : s.link c ≠ .disabled) : followEnabled c s = disabledEntry c s := by
  simp [followEnabled, enabled_eq, unwanted, running]

/-- Settles O49: the checks of R128, then the record placed, with no entry. -/
theorem setCarrierReplacesTheRecord : Obligations.SetCarrierReplacesTheRecord := by
  intro s f rest n c paired r k bad waiting kind body hk selHyst divLost releaseShift lead margin upHold upStep ceiling
    fixedProfile attenMin lo lo' hi hi' fadeLow fadeHigh w1 w2 kLock tHold tSeek hbad
  have fits : FitsOctets r := ⟨selHyst, divLost, releaseShift, lead, margin, upHold, upStep, ceiling, fixedProfile,
    attenMin, ⟨lo, lo'⟩, ⟨hi, hi'⟩, fadeLow, fadeHigh, w1, w2, kLock, tHold, tSeek⟩
  have judged : bad ↔ recordInRange r = false := hbad.trans (recordInRange_false_iff fits).symm
  obtain ⟨refused, taken⟩ := exec_setCarrier waiting kind fits body
  refine ⟨judged, fun h => refused (h.imp_right judged.1), fun hn good => ?_⟩
  obtain ⟨blocked, free⟩ := taken c hn (by simpa [judged] using good)
  refine ⟨fun change inService => blocked ((pairingBlocked_iff s c paired).2 ⟨change, inService⟩), fun same agrees => ?_⟩
  have notBlocked : s.pairingBlocked c paired = false := by
    rw [← Bool.not_eq_true, pairingBlocked_iff]
    rintro ⟨change, inService⟩
    obtain ⟨own, other⟩ := same.resolve_left change
    exact inService.elim (· own) (· other)
  rw [free notBlocked, applyRecord, recordPlaced_eq, followEnabled_same, hk]
  · rfl
  · simp only [State.link, State.car, Four.get_set_same]
    exact agrees

/-! ### In and out of service -/

theorem DeviceSame.withPort {s t : State} (h : DeviceSame s t) (p q : Port) :
    DeviceSame { s with port := p } { t with port := q } := by
  have moved := congrArg (fun t : State => { t with port := q }) h
  exact moved

/-- The request's own parts of the port are outside what HALTED and DISABLED entry speak of. -/
theorem Halted.withPort {c : Carrier} {x : SupStats} {s t : State} (h : Halted c x s t) (p q : Port) :
    Halted c x { s with port := p } { t with port := q } := by
  obtain ⟨own, device, sender, pair, alone⟩ := h
  exact ⟨own, device.withPort p q, sender, pair, alone⟩

theorem Disabled.withPort {c : Carrier} {s t : State} (h : Disabled c s t) (p q : Port) :
    Disabled c { s with port := p } { t with port := q } := by
  obtain ⟨own, device, pair, alone⟩ := h
  exact ⟨own, device.withPort p q, pair, alone⟩

/-- The reply to a request whose work has placed notices. -/
theorem sameButNotices_reply {s t : State} {f : Frame} {rest : List Frame} (body : List Byte)
    (h : ({ s.port with queue := rest } : Port).sameButNotices t.port) :
    (s.answered f rest body).sameButNotices (reply f body t).port := by
  have replied := congrArg (fun q : Port =>
    { q with reply := some ⟨f.kind ^^^ 0x80, f.tag, body⟩, delayedFirst := q.delayed.isSome }) h
  exact replied

/-- HALTED entry on a request's behalf, with its reply. -/
theorem haltedEntry_answered {u v : State} {s : State} {f : Frame} {rest : List Frame} {c : Carrier} (cause : HaltCause)
    {k : CarrierState} {x : SupStats} (hk : u.car c = k) (hx : x = k.stats.sup.countHalt cause)
    (hv : v = { u with port := { s.port with queue := rest } }) :
    Halted c x u (reply f [statusOk] (haltedEntry c cause v)) ∧
      (s.answered f rest [0x00]).sameButNotices (reply f [statusOk] (haltedEntry c cause v)).port := by
  subst hv hk hx
  obtain ⟨halted, port⟩ := haltedEntry_spec c cause { u with port := { s.port with queue := rest } }
  exact ⟨halted.withPort u.port _, sameButNotices_reply _ port⟩

/-- DISABLED entry on a request's behalf, with its reply. -/
theorem disabledEntry_answered {u v : State} {s : State} {f : Frame} {rest : List Frame} {c : Carrier}
    (hv : v = { u with port := { s.port with queue := rest } }) :
    Disabled c u (reply f [statusOk] (disabledEntry c v)) ∧
      (s.answered f rest [0x00]).sameButNotices (reply f [statusOk] (disabledEntry c v)).port := by
  subst hv
  obtain ⟨disabled, port⟩ := disabledEntry_spec c { u with port := { s.port with queue := rest } }
  exact ⟨disabled.withPort u.port _, sameButNotices_reply _ port⟩

/-- RESTART_CARRIER with its number in range (R142). -/
theorem exec_restartCarrier {s : State} {f : Frame} {rest : List Frame} (waiting : Waiting s f rest)
    (kind : f.kind = 0x07) {c : Carrier} (body : f.body = [carrierByte c]) :
    exec .restartCarrier s = .next (if s.enabled c then
        reply f [statusOk] (haltedEntry c .restart { s with port := { s.port with queue := rest } })
      else { s with port := s.answered f rest [statusNotEnabled] }) := by
  have served := serve_waiting waiting kindRestartCarrier takeRestartCarrier kind (by rw [body]; rfl)
  refine served.trans (congrArg _ ?_)
  rw [takeRestartCarrier, body, natAt_cons_zero, carrierOf_carrierByte]
  rfl

/-- Settles O50: the record placed, then the entry that its enabled field makes; RESTART_CARRIER by the link state. -/
theorem inAndOutOfService : Obligations.InAndOutOfService := by
  intro s f rest c paired k r due waiting hk inRange hdue
  have fits := fitsOctets_of_inRange inRange
  have placed (t : State) (ht : t.carriers = s.carriers.set c (k.withRecord r)) : t.car c = k.withRecord r := by
    rw [State.car, ht, Four.get_set_same]
  subst hdue hk
  refine ⟨fun kind body free out wanted => ?_, fun kind body running unwanted => ?_, fun kind => ⟨fun n body above => ?_,
    fun body out => ?_, fun body running => ?_⟩⟩
  · have notBlocked : s.pairingBlocked c paired = false := by
      rw [← Bool.not_eq_true, pairingBlocked_iff]
      rintro ⟨change, inService⟩
      exact inService.elim (· out) (· (free.resolve_left change))
    have ran := ((exec_setCarrier waiting kind fits body).2 c rfl inRange).2 notBlocked
    rw [applyRecord, recordPlaced_port, recordPlaced_eq, if_neg fun h => h.2 out, List.append_nil, followEnabled_enters] at ran
    · exact ⟨_, _, ran, rfl, haltedEntry_answered .enable (placed _ rfl) rfl rfl⟩
    · rw [placed _ rfl]
      exact wanted
    · rw [State.link, placed _ rfl]
      exact out
  · have notBlocked : s.pairingBlocked c (s.paired c) = false := by
      rw [← Bool.not_eq_true, pairingBlocked_iff]
      exact fun h => h.1 rfl
    have ran := ((exec_setCarrier waiting kind fits body).2 c rfl inRange).2 notBlocked
    rw [applyRecord, recordPlaced_port, changePairing_same, recordPut_eq, if_congr (and_iff_left running) rfl rfl,
      followEnabled_leaves] at ran
    · exact ⟨_, _, ran, rfl, disabledEntry_answered rfl⟩
    · rw [placed _ rfl]
      exact unwanted
    · rw [State.link, placed _ rfl]
      exact running
  · have served := serve_waiting waiting kindRestartCarrier takeRestartCarrier kind (by rw [body]; rfl)
    refine served.trans (congrArg _ ?_)
    rw [takeRestartCarrier, body, natAt_cons_zero, carrierOf_above above]
    rfl
  · rw [exec_restartCarrier waiting kind body, if_neg (by simp [enabled_eq, out])]
    rfl
  · rw [exec_restartCarrier waiting kind body, if_pos (by simp [enabled_eq, running])]
    exact ⟨_, rfl, haltedEntry_answered .restart rfl rfl rfl⟩

end Sys2Proof.Machine
end

section
/-! SUPPORT. The start-up (R188): what each entry of it does to a part whose blocks have their reset values. -/

namespace Sys2Proof.Machine

/-! ### The wires of a start-up and what they announce -/

/-- The collapsed wires that a start-up asserts are announced: ALERT follows them, and the notices of those enabled stand
in the port `p` in the order of the start-up (R154 to R156). -/
structure Announced (p : Port) (s : State) : Prop where
  high : s.resetHeld = false
  alert : s.alarms.alert = (s.alarms.collapsed &&& s.alarms.alertEnable != 0)
  port : s.port = { p with
    notices := (([.timebase, .store, .link] : List AlarmKind).filter fun k =>
      s.collapsedWire k && s.alarms.noticeEnable.getLsbD k.index).map fun k => .alarm k true }

/-- A list of kinds filtered by what stands, after one more stands of which no later one did. -/
theorem filter_raised {stood stands : AlarmKind → Bool} (on : AlarmKind → Bool) {pre post : List AlarmKind} (k : AlarmKind)
    (distinct : (pre ++ k :: post).Nodup) (low : stood k = false) (later : ∀ l ∈ post, stood l = false)
    (now : ∀ l, stands l = (decide (l = k) || stood l)) :
    (pre ++ k :: post).filter (fun l => stands l && on l) =
      (pre ++ k :: post).filter (fun l => stood l && on l) ++ if on k then [k] else [] := by
  obtain ⟨-, tail, apart⟩ := List.nodup_append.1 distinct
  have before : pre.filter (fun l => stands l && on l) = pre.filter (fun l => stood l && on l) :=
    List.filter_congr fun l hl => by simp [now, apart l hl k]
  have after : post.filter (fun l => stands l && on l) = [] := List.filter_eq_nil_iff.2 fun l hl => by
    have : l ≠ k := fun e => (List.nodup_cons.1 tail).1 (e ▸ hl)
    simp [now, this, later l hl]
  have after' : post.filter (fun l => stood l && on l) = [] := List.filter_eq_nil_iff.2 fun l hl => by simp [later l hl]
  rw [List.filter_append, List.filter_append, before, List.filter_cons, List.filter_cons, after, after', low, now]
  simp

/-- A wire raised: its kind joins the kinds announced, when no later one stands yet. -/
theorem Announced.raise {p : Port} {s : State} (h : Announced p s) (k : AlarmKind) (wire : s.wireOr k = true)
    {pre post : List AlarmKind} (split : ([.timebase, .store, .link] : List AlarmKind) = pre ++ k :: post)
    (later : ∀ l ∈ post, s.collapsedWire l = false) :
    Announced p (formCollapsed k s) ∧
      ∀ l, (formCollapsed k s).collapsedWire l = (decide (l = k) || s.collapsedWire l) := by
  obtain ⟨high, alert, port⟩ := h
  have distinct : (pre ++ k :: post).Nodup := split ▸ (by decide)
  by_cases stands : s.collapsedWire k = true
  · rw [formCollapsed, if_pos (wire.trans stands.symm)]
    refine ⟨⟨high, alert, port⟩, fun l => ?_⟩
    by_cases hl : l = k <;> simp [hl, stands]
  · have low : s.collapsedWire k = false := by simpa using stands
    obtain ⟨same, bits, -, changed⟩ := formCollapsed_formed k s
    obtain ⟨⟨kept, hidden, shown⟩, -⟩ := changed (by rw [wire, low]; simp)
    have now (l : AlarmKind) : (formCollapsed k s).collapsedWire l = (decide (l = k) || s.collapsedWire l) := by
      by_cases hl : l = k <;> simp [bits, hl, wire]
    have enable : (formCollapsed k s).alarms.noticeEnable = s.alarms.noticeEnable := by rw [same]
    have announcing : ([.timebase, .store, .link] : List AlarmKind).filter (fun l =>
          (formCollapsed k s).collapsedWire l && (formCollapsed k s).alarms.noticeEnable.getLsbD l.index) =
        ([.timebase, .store, .link] : List AlarmKind).filter (fun l =>
          s.collapsedWire l && s.alarms.noticeEnable.getLsbD l.index) ++
        if s.alarms.noticeEnable.getLsbD k.index then [k] else [] := by
      rw [split, enable]
      exact filter_raised _ _ distinct low later now
    have few : s.port.notices.length < 8 := by
      rw [port, List.length_map]
      exact Nat.lt_of_le_of_lt (List.length_filter_le _ _) (by decide)
    refine ⟨⟨by rw [same, high], ?_, ?_⟩, now⟩
    · rw [formCollapsed, if_neg (by rw [wire, low]; simp)]
      have below : (placeNotice (.alarm k (s.wireOr k))
          { s with alarms := { s.alarms with collapsed := withBit s.alarms.collapsed k.index (s.wireOr k) } }).resetHeld =
          false := (placeNotice_frame _ _).resetHeld.trans high
      simp only [formAlert, below]
      rfl
    · rw [announcing, List.map_append]
      rw [wire] at hidden shown
      cases on : s.alarms.noticeEnable.getLsbD k.index with
      | false =>
        rw [hidden on, port]
        simp
      | true =>
        rw [(shown on).1 few, port]
        simp

/-- What is announced depends on the collapsed wires, ALERT, the enable sets and the port alone. -/
theorem Announced.of_same {p : Port} {s t : State} (h : Announced p s) (high : t.resetHeld = s.resetHeld)
    (alarms : t.alarms = { s.alarms with timebaseWire := t.alarms.timebaseWire, storeWire := t.alarms.storeWire })
    (port : t.port = s.port) : Announced p t := by
  have collapsed (l : AlarmKind) : t.collapsedWire l = s.collapsedWire l := by
    rw [State.collapsedWire, alarms]
    rfl
  have enable : t.alarms.noticeEnable = s.alarms.noticeEnable := by rw [alarms]
  refine ⟨high.trans h.high, by rw [alarms, h.alert], ?_⟩
  rw [port, h.port]
  simp only [collapsed, enable]

/-- The LINK wires of carriers that enter HALTED. -/
theorem Announced.linkWires {p : Port} (xs : List Entering) (halts : ∀ x ∈ xs, ∃ cause, x.kind = .halt cause) {s : State}
    (h : Announced p s) :
    Announced p (xs.foldl (fun s x => enterWires x s) s) ∧ ∀ l,
      (xs.foldl (fun s x => enterWires x s) s).collapsedWire l = (decide (l = .link ∧ xs ≠ []) || s.collapsedWire l) := by
  induction xs generalizing s with
  | nil => exact ⟨h, fun l => by simp⟩
  | cons x xs ih =>
    obtain ⟨cause, hx⟩ := halts x List.mem_cons_self
    have raised := Announced.raise (p := p) (pre := [.timebase, .store]) (post := [])
      (s := modCar x.carrier (fun k => { k with wires := k.wires.set .link true }) s)
      (h.of_same rfl rfl rfl) .link
      (List.any_eq_true.2 ⟨x.carrier, mem_allCarriers _, by simp [modCar, State.setCar, State.car, CarrierWires.set]⟩) rfl
      (fun _ hl => (List.not_mem_nil hl).elim)
    have wires : enterWires x s = formCollapsed .link
        (modCar x.carrier (fun k => { k with wires := k.wires.set .link true }) s) := by
      rw [enterWires, hx]
      rfl
    rw [← wires] at raised
    obtain ⟨announced, collapsed⟩ := ih (fun y hy => halts y (List.mem_cons_of_mem _ hy)) raised.1
    refine ⟨announced, fun l => (collapsed l).trans ?_⟩
    rw [raised.2 l]
    by_cases hl : l = .link
    · simp [hl]
    · simp [hl]
      rfl

/-- The end of an entry: the LINK wires of its carriers, after which the sender follows. -/
theorem Announced.entryWires {p : Port} {s u : State} (h : Announced p s) (xs : List Entering)
    (halts : ∀ x ∈ xs, ∃ cause, x.kind = .halt cause) (nonempty : xs ≠ []) (high : u.resetHeld = s.resetHeld)
    (alarms : u.alarms = s.alarms) (port : u.port = s.port) :
    Announced p (senderFollowsLinks (xs.foldl (fun s x => enterWires x s) u)) ∧ ∀ l,
      (senderFollowsLinks (xs.foldl (fun s x => enterWires x s) u)).collapsedWire l =
        (decide (l = .link) || s.collapsedWire l) := by
  obtain ⟨announced, collapsed⟩ := Announced.linkWires xs halts (h.of_same high (by rw [alarms]) port)
  rw [(senderFollowsLinks_spec _).2]
  refine ⟨announced.of_same rfl rfl rfl, fun l => (collapsed l).trans ?_⟩
  simp [nonempty, State.collapsedWire, alarms]

/-- A HALTED entry with no fade open raises the LINK wire and announces no more (R137, R154). -/
theorem Announced.haltedEntry {p : Port} {s : State} (h : Announced p s) (faded : ∀ d, (s.car d).fade = none) (c : Carrier)
    (cause : HaltCause) :
    Announced p (haltedEntry c cause s) ∧
      ∀ l, (Machine.haltedEntry c cause s).collapsedWire l = (decide (l = .link) || s.collapsedWire l) := by
  have nonempty : s.entering c (.halt cause) ≠ [] := by
    unfold State.entering
    split_ifs <;> simp
  have halts : ∀ x ∈ s.entering c (.halt cause), ∃ cause, x.kind = .halt cause := by
    unfold State.entering
    split_ifs <;> simp
  have apart : distinct (s.entering c (.halt cause)) := by
    unfold State.entering
    split_ifs
    · exact (distinct_pair c _ _).1
    · exact (distinct_pair c _ _).2
    · simp [distinct]
  unfold Machine.haltedEntry
  generalize s.entering c (.halt cause) = xs at *
  have fades : xs.foldl (fun s x => closeFade x.kind.endedBy x.carrier s) s = s :=
    List.foldl_fixed' (fun x => (closeFade_spec _ _ s).1 (faded _)) xs
  obtain ⟨v, blocks, -⟩ := enterBlocks_spec xs s apart
  have turned : wireTurns false xs = xs := by
    unfold wireTurns
    split <;> rfl
  simp only [enter, fades, blocks, enterAttens_spec, emit, turned]
  exact h.entryWires xs halts nonempty rfl rfl rfl

end Sys2Proof.Machine
end

section
/-! SUPPORT. The start-up entries in increasing carrier number (R188 step 3), and line reset, release and RESTART. -/

namespace Sys2Proof.Machine

/-! ### Which entry a carrier makes at the start-up -/

/-- The carrier whose entry brings an enabled carrier to HALTED: its enabled lower carrier for the upper one of a pair,
else itself (R188). -/
def State.starterOf (s : State) (d : Carrier) : Carrier := if s.isUpper d && s.enabled (lowerOf d) then lowerOf d else d

/-- The cause of a start-up entry: the upper carrier of a pair halts with its lower one (R138). -/
def State.startCause (s : State) (d : Carrier) : HaltCause := if s.starterOf d = d then .startUp else .partner

/-- The records of a carrier's own start-up entry. -/
def State.startRecords (s : State) (c : Carrier) : List Directive :=
  if s.startsItself c then entryRecords (s.paired c && s.enabled (partner c)) s c else []

theorem isUpper_lowerOf (s : State) (d : Carrier) : s.isUpper (lowerOf d) = false := by
  have lower : lowerOf (lowerOf d) = lowerOf d := by
    revert d
    decide
  simp [State.isUpper, lower]

/-- Whoever brings an enabled carrier to HALTED makes an entry of its own. -/
theorem starterOf_startsItself {s : State} {d : Carrier} (on : s.enabled d = true) : s.startsItself (s.starterOf d) = true := by
  unfold State.starterOf
  split
  next pair =>
    simp only [Bool.and_eq_true] at pair
    simp [State.startsItself, isUpper_lowerOf, pair.2]
  next alone => simp [State.startsItself, on, alone]

/-- A carrier that makes an entry of its own brings itself, and its enabled partner in a pair. -/
theorem starterOf_eq_iff {s : State} {c d : Carrier} (starts : s.startsItself c = true) (on : s.enabled d = true) :
    s.starterOf d = c ↔ d = c ∨ (TakesPartner s c ∧ d = partner c) := by
  simp only [State.startsItself, Bool.and_eq_true, Bool.not_eq_true'] at starts
  obtain ⟨up, alone⟩ := starts
  have own : s.starterOf c = c := by rw [State.starterOf, alone]; rfl
  constructor
  · intro lead
    unfold State.starterOf at lead
    split at lead
    next pair =>
      simp only [Bool.and_eq_true, State.isUpper, bne_iff_ne, ne_eq] at pair
      obtain ⟨⟨paired, upper⟩, -⟩ := pair
      obtain ⟨-, -, other⟩ := (position d).resolve_left fun h => upper h.1
      have hd : d = partner c := by rw [← lead, ← other, partner_partner]
      refine .inr ⟨⟨?_, ?_⟩, hd⟩
      · rw [← paired_partner, ← hd, paired]
      · rw [← hd]
        simpa [enabled_eq] using on
    next => exact .inl lead
  · rintro (rfl | ⟨⟨paired, -⟩, rfl⟩)
    · exact own
    · have lower : c = lowerOf c := by
        rcases position c with h | ⟨upper, -, other⟩
        · exact h.1
        · rw [← other, on, Bool.and_true, State.isUpper, paired, Bool.true_and] at alone
          exact absurd (by simpa using alone) upper
      have upper : s.isUpper (partner c) = true := by
        rw [State.isUpper, paired_partner, paired, (partner_position c).1, ← lower]
        simp [partner_ne]
      rw [State.starterOf, upper, (partner_position c).1, ← lower, up]
      rfl

/-! ### One start-up entry -/

/-- A carrier after its start-up entry: the holdoff begun, the LINK wire asserted, the entry counted. -/
def CarrierState.started (tHold : Nat) (x : SupStats) (k : CarrierState) : CarrierState :=
  { k with
    sup := { k.sup with holdoff := tHold }
    wires := ⟨false, true, false, false⟩
    stats := { k.stats with sup := x } }

/-- HALTED entry of a carrier whose blocks have their reset values. -/
theorem CarrierHalted.started {tHold : Nat} {upper : Bool} {x : SupStats} {k k' : CarrierState}
    (reset : k = .afterReset k.sup.record k.stats) (on : k.sup.record.enabled = true)
    (h : CarrierHalted tHold upper x k k') : k' = k.started tHold x := by
  generalize k.sup.record = r, k.stats = y at reset on
  subst reset
  obtain ⟨est, rac, tac, lac, sup, fade, wires, reports, stats⟩ := h
  cases k'
  simp only at est rac tac lac sup fade wires reports stats
  subst est rac tac lac sup fade wires reports stats
  simp [CarrierState.afterReset, CarrierState.started, on, Estimator.afterReset, Rac.afterReset, Tac.afterReset,
    CarrierWires.clear]

/-- A part before its start-up entries: the blocks at their reset values. -/
structure Unstarted (s : State) : Prop where
  carriers : ∀ d, s.car d = .afterReset (s.car d).sup.record (s.car d).stats
  queue : s.outQueue = []
  sender : s.sender.state = .idle

theorem Unstarted.fade {s : State} (h : Unstarted s) (d : Carrier) : (s.car d).fade = none := by
  rw [h.carriers d]
  rfl

theorem Unstarted.link {s : State} (h : Unstarted s) (d : Carrier) :
    s.link d = if (s.car d).sup.record.enabled then .halted else .disabled := by
  rw [State.link, h.carriers d]
  rfl

theorem Unstarted.enabled {s : State} (h : Unstarted s) (d : Carrier) : s.enabled d = (s.car d).sup.record.enabled := by
  rw [enabled_eq, h.link]
  cases (s.car d).sup.record.enabled <;> rfl

/-- With no fade open none is closed. -/
theorem fadesClosed_none {s : State} (faded : ∀ d, (s.car d).fade = none) (xs : List (Carrier × EndedBy)) :
    fadesClosed xs s = s.fades :=
  List.foldl_fixed' (fun x => by simp [faded]) xs

/-- The part after the start-up entries of the carriers `done`. -/
structure StartedUpTo (p : Port) (s : State) (done : List Carrier) (w : State) : Prop where
  device : DeviceSame s w
  carriers : ∀ d, w.car d = if s.enabled d ∧ s.starterOf d ∈ done
    then (s.car d).started (s.govRecord d).tHold ((s.car d).stats.sup.countHalt (s.startCause d)) else s.car d
  queue : w.outQueue = []
  sender : w.sender = s.sender
  fades : w.fades = s.fades
  outbound : w.modem.outbound = s.modem.outbound ++ done.flatMap s.startRecords
  announced : Announced p w
  collapsed : ∀ l, w.collapsedWire l = (decide (l = .link ∧ ∃ c ∈ done, s.startsItself c = true) || s.collapsedWire l)

section
variable {p : Port} {s w : State} {done : List Carrier}

/-! The start-up entries change no record, no link state and no pairing, and open no fade. -/

theorem StartedUpTo.record (h : StartedUpTo p s done w) (d : Carrier) : (w.car d).sup.record = (s.car d).sup.record := by
  rw [h.carriers d]
  split <;> rfl

theorem StartedUpTo.link (h : StartedUpTo p s done w) (d : Carrier) : w.link d = s.link d := by
  rw [State.link, h.carriers d]
  split <;> rfl

theorem StartedUpTo.fade (h : StartedUpTo p s done w) (d : Carrier) : (w.car d).fade = (s.car d).fade := by
  rw [h.carriers d]
  split <;> rfl

theorem StartedUpTo.paired (h : StartedUpTo p s done w) (d : Carrier) : w.paired d = s.paired d := by
  obtain ⟨a, b⟩ := h.device.pairing
  rw [State.paired, a, b]
  rfl

theorem StartedUpTo.start (h : Announced p s) (queue : s.outQueue = []) : StartedUpTo p s [] s where
  device := rfl
  carriers := by simp
  queue := queue
  sender := rfl
  fades := rfl
  outbound := by simp
  announced := h
  collapsed := by simp

theorem DeviceSame.trans {s t u : State} (h : DeviceSame s t) (k : DeviceSame t u) : DeviceSame s u := by
  have moved := congrArg (fun t : State => { t with
    carriers := u.carriers, modem := { t.modem with outbound := u.modem.outbound }, outQueue := u.outQueue
    sender := u.sender, fades := u.fades, port := u.port
    alarms := { t.alarms with collapsed := u.alarms.collapsed, alert := u.alarms.alert } }) h
  exact Eq.trans k moved

/-- A carrier that makes no entry of its own brings none. -/
theorem StartedUpTo.skip (h : StartedUpTo p s done w) {c : Carrier} (out : s.startsItself c = false) :
    StartedUpTo p s (done ++ [c]) w where
  __ := h
  carriers := fun d => by
    rw [h.carriers d]
    refine if_congr (and_congr_right fun on => ?_) rfl rfl
    have : s.starterOf d ≠ c := fun e => by simp [← e, starterOf_startsItself on] at out
    simp [this]
  outbound := by simp [h.outbound, State.startRecords, out]
  collapsed := fun l => by simp [h.collapsed, or_and_right, exists_or, out]

theorem StartedUpTo.govRecord (h : StartedUpTo p s done w) (d : Carrier) : w.govRecord d = s.govRecord d := by
  rw [State.govRecord, State.gov, h.paired, h.record]
  rfl

theorem StartedUpTo.takesPartner (h : StartedUpTo p s done w) (c : Carrier) : TakesPartner w c ↔ TakesPartner s c := by
  rw [TakesPartner, TakesPartner, h.paired, h.link]

theorem StartedUpTo.entryRecords (h : StartedUpTo p s done w) (b : Bool) (c : Carrier) :
    entryRecords b w c = Machine.entryRecords b s c := by
  simp only [Machine.entryRecords, h.record]

/-- A carrier whose own entry, or its lower carrier's, is still to come. -/
theorem StartedUpTo.untouched (h : StartedUpTo p s done w) {d : Carrier} (new : s.starterOf d ∉ done) :
    w.car d = s.car d := by
  rw [h.carriers d, if_neg fun k => new k.2]

/-- What a carrier's own start-up entry makes of the four. -/
theorem StartedUpTo.enter_car (h : StartedUpTo p s done w) (reset : Unstarted s) {c : Carrier} (new : c ∉ done)
    (starts : s.startsItself c = true) (d : Carrier) :
    (haltedEntry c .startUp w).car d = if s.enabled d ∧ s.starterOf d ∈ done ++ [c]
      then (s.car d).started (s.govRecord d).tHold ((s.car d).stats.sup.countHalt (s.startCause d)) else s.car d := by
  obtain ⟨⟨own, -, -, pair, alone⟩, -⟩ := haltedEntry_spec c .startUp w
  simp only [h.govRecord] at own pair
  have on : s.enabled c = true := by
    simp only [State.startsItself, Bool.and_eq_true] at starts
    exact starts.1
  by_cases enters : s.enabled d = true ∧ s.starterOf d = c
  · obtain ⟨running, lead⟩ := enters
    rw [if_pos ⟨running, by simp [lead]⟩]
    have before : w.car d = s.car d := h.untouched (lead ▸ new)
    have record : (s.car d).sup.record.enabled = true := (reset.enabled d).symm.trans running
    rcases (starterOf_eq_iff starts running).1 lead with rfl | ⟨takes, rfl⟩
    · rw [State.startCause, if_pos lead]
      rw [before] at own
      exact own.started (reset.carriers _) record
    · rw [State.startCause, if_neg (by rw [lead]; exact (partner_ne c).symm), govRecord_partner takes.1]
      have halted := (pair ((h.takesPartner c).2 takes)).1
      rw [before] at halted
      exact halted.started (reset.carriers _) record
  · have others : (haltedEntry c .startUp w).car d = w.car d := by
      have apart : d ≠ c := fun e => enters ⟨e ▸ on, e ▸ (starterOf_eq_iff starts on).2 (.inl rfl)⟩
      by_cases takes : TakesPartner w c
      · obtain ⟨-, rest, -, -⟩ := pair takes
        refine rest d apart fun e => enters ?_
        have takes := (h.takesPartner c).1 takes
        have running : s.enabled d = true := by rw [e, enabled_eq]; simp [takes.2]
        exact ⟨running, (starterOf_eq_iff starts running).2 (.inr ⟨takes, e⟩)⟩
      · exact (alone takes).1 d apart
    rw [others, h.carriers d]
    refine if_congr (and_congr_right fun running => ?_) rfl rfl
    have apart : s.starterOf d ≠ c := fun e => enters ⟨running, e⟩
    simp [apart]

/-- A carrier's own start-up entry. -/
theorem StartedUpTo.enter (h : StartedUpTo p s done w) (reset : Unstarted s) {c : Carrier} (new : c ∉ done)
    (starts : s.startsItself c = true) : StartedUpTo p s (done ++ [c]) (haltedEntry c .startUp w) := by
  have carriers := h.enter_car reset new starts
  obtain ⟨⟨-, device, sender, pair, alone⟩, -⟩ := haltedEntry_spec c .startUp w
  have faded (d : Carrier) : (w.car d).fade = none := (h.fade d).trans (reset.fade d)
  obtain ⟨announced, collapsed⟩ := h.announced.haltedEntry faded c .startUp
  have quiet (d : Carrier) : (haltedEntry c .startUp w).link d ≠ .active := by
    have same : (haltedEntry c .startUp w).link d = s.link d := by
      rw [State.link, carriers d]
      split <;> rfl
    rw [same, reset.link]
    split <;> decide
  have idle : w.sender.state = .idle := by rw [h.sender, reset.sender]
  obtain ⟨-, standing, -⟩ := sender
  obtain ⟨senderKept, queue⟩ := standing quiet (by simp [idle]) (by simp [idle])
  have issued : (haltedEntry c .startUp w).modem.outbound = w.modem.outbound ++ s.startRecords c ∧
      (haltedEntry c .startUp w).fades = w.fades := by
    rw [State.startRecords, if_pos starts]
    by_cases takes : TakesPartner w c
    · obtain ⟨-, -, records, fades⟩ := pair takes
      rw [(takesPartner_iff s c).2 ((h.takesPartner c).1 takes), ← h.entryRecords, records, fades, fadesClosed_none faded]
      exact ⟨rfl, rfl⟩
    · obtain ⟨-, records, fades⟩ := alone takes
      rw [Bool.eq_false_iff.2 fun k => takes ((h.takesPartner c).2 ((takesPartner_iff s c).1 k)), ← h.entryRecords,
        records, fades, fadesClosed_none faded]
      exact ⟨rfl, rfl⟩
  obtain ⟨records, closed⟩ := issued
  refine ⟨h.device.trans device, carriers, ?_, senderKept.trans h.sender, closed.trans h.fades, ?_, announced, fun l => ?_⟩
  · rw [queue, h.queue]
    simp [withoutCarrier]
  · rw [records, h.outbound]
    simp
  · rw [collapsed, h.collapsed]
    by_cases hl : l = .link <;> simp [hl, starts]

/-- The start-up entries of a list of carriers, in its order. -/
theorem StartedUpTo.run (reset : Unstarted s) (cs : List Carrier) (h : StartedUpTo p s done w) (apart : (done ++ cs).Nodup) :
    StartedUpTo p s (done ++ cs)
      (cs.foldl (fun w c => if w.startsItself c then haltedEntry c .startUp w else w) w) := by
  induction cs generalizing done w with
  | nil => simpa using h
  | cons c cs ih =>
    have new : c ∉ done := fun hc => (List.nodup_append.1 apart).2.2 c hc c List.mem_cons_self rfl
    have same : w.startsItself c = s.startsItself c := by
      simp only [State.startsItself, State.isUpper, enabled_eq, h.link, h.paired]
    have assoc : done ++ c :: cs = (done ++ [c]) ++ cs := by simp
    rw [assoc] at apart ⊢
    rw [List.foldl_cons, same]
    cases starts : s.startsItself c with
    | true => exact ih (h.enter reset new starts) apart
    | false => exact ih (h.skip starts) apart

end

end Sys2Proof.Machine
end

section
/-! SUPPORT. Line reset, its release and RESTART (R188, R189). -/

namespace Sys2Proof.Machine

/-! ### The device's own wires at the start-up -/

/-- The TIMEBASE wire, and the STORE wire when the store is invalid: what precedes the start-up entries (R188). -/
def startWires (s : State) : State :=
  if (setTimebaseWire true s).settings.storeValid then setTimebaseWire true s else setStoreWire true (setTimebaseWire true s)

theorem startUp_eq (s : State) : startUp s = startCarriers (startWires s) := rfl

theorem setStoreWire_frame (v : Bool) (s : State) :
    WorkFrame { s with alarms := { s.alarms with storeWire := v } } (setStoreWire v s) :=
  formCollapsed_frame _ _

/-- The start-up leaves the clock and RESET as they are. -/
theorem startUp_clock (s : State) : (startUp s).timebase = s.timebase ∧ (startUp s).resetHeld = s.resetHeld := by
  have first := setTimebaseWire_frame true s
  have wires : (startWires s).timebase = s.timebase ∧ (startWires s).resetHeld = s.resetHeld := by
    unfold startWires
    split
    · exact ⟨first.timebase, first.resetHeld⟩
    · have second := setStoreWire_frame true (setTimebaseWire true s)
      exact ⟨second.timebase.trans first.timebase, second.resetHeld.trans first.resetHeld⟩
  have entries : WorkFrame (startWires s) (startUp s) := by
    rw [startUp_eq, startCarriers]
    exact WorkFrame.foldl _ (fun w c => WorkFrame.ite (haltedEntry_frame c .startUp w) (WorkFrame.refl w)) allCarriers _
  exact ⟨entries.timebase.trans wires.1, entries.resetHeld.trans wires.2⟩

/-- The device's wires at the start-up of a part that was reset: what they change, and what they announce. -/
theorem startWires_spec {s : State} (high : s.resetHeld = false) {notice : BitVec 10} {alerts : BitVec 6}
    (alarms : s.alarms = .afterReset notice alerts) (silent : s.port.notices = []) :
    (∃ (collapsed : BitVec 6) (alert : Bool) (p : Port), startWires s = { s with
      alarms := ⟨true, !s.settings.storeValid, collapsed, alert, notice, alerts⟩, port := p }) ∧
    Announced s.port (startWires s) ∧
    ∀ l, (startWires s).collapsedWire l =
      (decide (l = .timebase) || (decide (l = .store) && !s.settings.storeValid)) := by
  have low (l : AlarmKind) : s.collapsedWire l = false := by simp [State.collapsedWire, alarms, Alarms.afterReset]
  have quiet : Announced s.port s := by
    refine ⟨high, by simp [alarms, Alarms.afterReset], ?_⟩
    simp only [low, Bool.false_and, List.filter_false, List.map_nil]
    rw [← silent]
  have timebase := Announced.raise (s := { s with alarms := { s.alarms with timebaseWire := true } })
    (quiet.of_same rfl rfl rfl) .timebase rfl (pre := []) rfl (fun l _ => low l)
  obtain ⟨collapsed, alert, p, first, -⟩ := setTimebaseWire_spec true s
  obtain ⟨announced, bits⟩ : Announced s.port (setTimebaseWire true s) ∧ ∀ l,
      (setTimebaseWire true s).collapsedWire l = (decide (l = .timebase) || s.collapsedWire l) := timebase
  cases valid : s.settings.storeValid with
  | true =>
    have same : startWires s = setTimebaseWire true s := by rw [startWires, first, if_pos valid]
    rw [same]
    refine ⟨⟨collapsed, alert, p, first.trans (by simp [alarms, Alarms.afterReset])⟩, announced, fun l => ?_⟩
    simp [bits, low]
  | false =>
    have same : startWires s = setStoreWire true (setTimebaseWire true s) := by
      rw [startWires, first, if_neg (by simp [valid])]
    have later : ∀ l ∈ [AlarmKind.link], (setTimebaseWire true s).collapsedWire l = false := by simp [bits, low]
    obtain ⟨announced, bits'⟩ : Announced s.port (setStoreWire true (setTimebaseWire true s)) ∧ ∀ l,
        (setStoreWire true (setTimebaseWire true s)).collapsedWire l =
          (decide (l = .store) || (setTimebaseWire true s).collapsedWire l) :=
      Announced.raise (s := { setTimebaseWire true s with
          alarms := { (setTimebaseWire true s).alarms with storeWire := true } })
        (announced.of_same rfl rfl rfl) .store rfl (pre := [.timebase]) rfl later
    obtain ⟨collapsed', alert', p', second, -⟩ := formCollapsed_spec .store { setTimebaseWire true s with
      alarms := { (setTimebaseWire true s).alarms with storeWire := true } }
    rw [same]
    refine ⟨⟨collapsed', alert', p', second.trans ?_⟩, announced, fun l => ?_⟩
    · rw [first]
      simp [alarms, Alarms.afterReset]
    · cases l <;> simp [bits, bits', low]

/-- The upper carrier of a pair starts with its enabled lower one, any other of its own (R138, R188). -/
theorem startCause_eq (s : State) (c : Carrier) :
    s.startCause c = if s.isUpper c = true ∧ s.enabled (lowerOf c) = true then .partner else .startUp := by
  simp only [← Bool.and_eq_true]
  unfold State.startCause State.starterOf
  split
  next pair =>
    have : lowerOf c ≠ c := fun e => by simp [State.isUpper, e] at pair
    rw [if_neg this]
  next => rw [if_pos rfl]

/-! ### What a reset leaves -/

/-- Every block at its values for a reset, after the open fades have entered the log (R150, R189). -/
theorem resetBlocks_eq (s : State) : resetBlocks s = blockReset { s with
    fades := allCarriers.foldl (fun l c => ((s.car c).fade.map fun x => l.append ⟨c, x, .reset⟩).getD l) s.fades } := by
  rw [resetBlocks, closeFadesAtReset_eq]

theorem resetBlocks_resetHeld (s : State) : (resetBlocks s).resetHeld = s.resetHeld := by
  rw [resetBlocks_eq]
  rfl

/-- A part `v` that is as `r` but for RESET and what start-up entries change: the wires with their alarms and notices, the
holdoffs and the Supervisors' counts, and the records issued. -/
structure ResetPart (r v : State) : Prop where
  device : v = { r with
    carriers := v.carriers, modem := { r.modem with outbound := v.modem.outbound }, alarms := v.alarms
    port := { r.port with notices := v.port.notices }, resetHeld := v.resetHeld }
  enables : v.alarms.noticeEnable = r.alarms.noticeEnable ∧ v.alarms.alertEnable = r.alarms.alertEnable
  carriers : ∀ c, v.car c = { r.car c with
    sup := { (r.car c).sup with holdoff := (v.car c).sup.holdoff }, wires := (v.car c).wires
    stats := { (r.car c).stats with sup := (v.car c).stats.sup } }

theorem ResetPart.held (r : State) : ResetPart r { r with resetHeld := true } := ⟨rfl, ⟨rfl, rfl⟩, fun _ => rfl⟩

/-- After every start-up entry, each enabled carrier has started. -/
theorem StartedUpTo.car_all {p : Port} {s u : State} (h : StartedUpTo p s allCarriers u) (d : Carrier) :
    u.car d = if s.enabled d
      then (s.car d).started (s.govRecord d).tHold ((s.car d).stats.sup.countHalt (s.startCause d)) else s.car d :=
  (h.carriers d).trans (if_congr ⟨And.left, fun on => ⟨on, mem_allCarriers _⟩⟩ rfl rfl)

/-- After every start-up entry, the collapsed LINK wire stands when some carrier is enabled. -/
theorem StartedUpTo.collapsed_all {p : Port} {s u : State} (h : StartedUpTo p s allCarriers u) (l : AlarmKind) :
    u.collapsedWire l = (decide (l = .link ∧ ∃ c, s.enabled c = true) || s.collapsedWire l) := by
  have some : (∃ c ∈ allCarriers, s.startsItself c = true) ↔ ∃ c, s.enabled c = true := by
    constructor
    · rintro ⟨c, -, starts⟩
      simp only [State.startsItself, Bool.and_eq_true] at starts
      exact ⟨c, starts.1⟩
    · rintro ⟨c, on⟩
      exact ⟨_, mem_allCarriers _, starterOf_startsItself on⟩
  rw [h.collapsed, decide_eq_decide.2 (and_congr_right fun _ => some)]

/-- The start-up entries leave a part as it was reset. -/
theorem StartedUpTo.resetPart {r w u : State} {cs : List Carrier} {a : Alarms} {p : Port}
    (h : StartedUpTo r.port w cs u) (reset : Unstarted w) (wires : w = { r with alarms := a, port := p })
    (enables : a.noticeEnable = r.alarms.noticeEnable ∧ a.alertEnable = r.alarms.alertEnable) : ResetPart r u := by
  subst wires
  obtain ⟨device, carriers, queue, sender, fades, -, ⟨-, -, port⟩, -⟩ := h
  have alarms : u.alarms = { a with collapsed := u.alarms.collapsed, alert := u.alarms.alert } :=
    congrArg State.alarms device
  have held : u.resetHeld = r.resetHeld := Eq.trans (congrArg State.resetHeld device) rfl
  have empty : u.outQueue = r.outQueue := queue.trans reset.queue.symm
  refine ⟨?_, ?_, fun d => ?_⟩
  · refine Eq.trans device ?_
    have notices : u.port = { r.port with notices := u.port.notices } := by
      rw [port]
    rw [← notices, held, empty, sender, fades]
    simp only [← alarms]
  · rw [alarms]
    exact enables
  · rw [carriers d]
    split <;> rfl

/-- The start-up of a part that was reset (R188): its own wires, then its entries in increasing carrier number. -/
theorem startUp_reset {r : State} (reset : Unstarted r) (high : r.resetHeld = false) {notice : BitVec 10}
    {alerts : BitVec 6} (alarms : r.alarms = .afterReset notice alerts) (silent : r.port.notices = []) :
    ResetPart r (startUp r) ∧
    (∀ d, (startUp r).car d = if r.enabled d
      then (r.car d).started (r.govRecord d).tHold ((r.car d).stats.sup.countHalt (r.startCause d)) else r.car d) ∧
    (startUp r).modem.outbound = r.modem.outbound ++ allCarriers.flatMap r.startRecords ∧
    Announced r.port (startUp r) ∧
    ((startUp r).alarms.timebaseWire = true ∧ (startUp r).alarms.storeWire = !r.settings.storeValid) ∧
    ∀ l, (startUp r).collapsedWire l = (decide (l = .link ∧ ∃ c, r.enabled c = true) ||
      (decide (l = .timebase) || (decide (l = .store) && !r.settings.storeValid))) := by
  obtain ⟨⟨collapsed, alert, p, wires⟩, announced, bits⟩ := startWires_spec high alarms silent
  have unstarted : Unstarted (startWires r) := by
    rw [wires]
    exact ⟨reset.carriers, reset.queue, reset.sender⟩
  have run : StartedUpTo r.port (startWires r) allCarriers (startUp r) :=
    (StartedUpTo.start announced unstarted.queue).run unstarted allCarriers (by decide)
  have lit := run.collapsed_all
  simp only [bits] at lit
  generalize startUp r = u at *
  generalize startWires r = w at *
  subst wires
  have enables : notice = r.alarms.noticeEnable ∧ alerts = r.alarms.alertEnable := by
    rw [alarms]
    exact ⟨rfl, rfl⟩
  have device := run.device
  exact ⟨run.resetPart unstarted rfl enables, run.car_all, run.outbound, run.announced,
    ⟨congrArg (fun s => s.alarms.timebaseWire) device, congrArg (fun s => s.alarms.storeWire) device⟩, lit⟩

/-! ### The part after the reset, before its start-up -/

theorem resetBlocks_unstarted (s : State) : Unstarted (resetBlocks s) where
  carriers := fun d => by
    rw [car_resetBlocks]
    rfl
  queue := by rw [resetBlocks_eq]; rfl
  sender := by rw [resetBlocks_eq]; rfl

theorem resetBlocks_enabled (s : State) (c : Carrier) : (resetBlocks s).enabled c = (s.car c).sup.record.enabled := by
  rw [(resetBlocks_unstarted s).enabled, car_resetBlocks]
  rfl

theorem resetBlocks_paired (s : State) (c : Carrier) : (resetBlocks s).paired c = s.paired c := by
  rw [resetBlocks_eq]
  rfl

theorem resetBlocks_isUpper (s : State) (c : Carrier) : (resetBlocks s).isUpper c = s.isUpper c := by
  rw [State.isUpper, resetBlocks_paired]
  rfl

theorem resetBlocks_govRecord (s : State) (c : Carrier) : (resetBlocks s).govRecord c = s.govRecord c := by
  rw [State.govRecord, State.gov, resetBlocks_paired, car_resetBlocks]
  rfl

theorem resetBlocks_startCause (s : State) (c : Carrier) : (resetBlocks s).startCause c =
    if s.isUpper c = true ∧ (s.car (lowerOf c)).sup.record.enabled = true then .partner else .startUp := by
  rw [startCause_eq, resetBlocks_isUpper, resetBlocks_enabled]

theorem resetBlocks_entryRecords (s : State) (pair : Bool) (c : Carrier) :
    entryRecords pair (resetBlocks s) c = entryRecords pair s c := by
  simp only [entryRecords, car_resetBlocks]
  rfl

theorem resetBlocks_startRecords (s : State) (c : Carrier) : (resetBlocks s).startRecords c =
    if (s.car c).sup.record.enabled = false ∨
        (s.isUpper c = true ∧ (s.car (lowerOf c)).sup.record.enabled = true) then []
    else entryRecords (s.paired c && (s.car (partner c)).sup.record.enabled) s c := by
  simp only [State.startRecords, State.startsItself, resetBlocks_entryRecords, resetBlocks_enabled, resetBlocks_paired,
    resetBlocks_isUpper]
  rw [← ite_not]
  exact if_congr (by simp [imp_iff_or_not, or_comm, and_comm]) rfl rfl

/-- The Supervisor's counts of a carrier that has started (R137, R138). -/
theorem countHalt_start (x : SupStats) (pair : Prop) [Decidable pair] :
    x.countHalt (if pair then .partner else .startUp) = { x with
      rendezvous := min (x.rendezvous + 1) 4294967295
      partner := if pair then min (x.partner + 1) 4294967295 else x.partner } := by
  split <;> rfl

/-- RESET_RELEASE with RESET low makes the start-up (R188). -/
theorem exec_resetRelease_low {s : State} (low : s.resetHeld = true) :
    exec .resetRelease s = .next (startUp { s with resetHeld := false }) :=
  congrArg Host.Outcome.next (if_pos low)

/-- RESET_RELEASE with RESET high has no effect. -/
theorem exec_resetRelease_high {s : State} (high : s.resetHeld = false) : exec .resetRelease s = .next s :=
  congrArg Host.Outcome.next (if_neg (by simp [high]))

/-- Settles O60: what a reset leaves, then what the start-up makes of it. -/
theorem lineResetReleaseAndRestart : Obligations.LineResetReleaseAndRestart := by
  intro s high
  have blocks := resetBlocks_eq s
  have highAfter := (resetBlocks_resetHeld s).trans high
  have carriers := car_resetBlocks s
  obtain ⟨part, started, outbound, announced, ⟨timebaseWire, storeWire⟩, lit⟩ :=
    startUp_reset (resetBlocks_unstarted s) highAfter (by rw [blocks]; rfl) (by rw [blocks]; rfl)
  have released : { ({ resetBlocks s with resetHeld := true } : State) with resetHeld := false } = resetBlocks s := by
    rw [← highAfter]
  refine ⟨{ resetBlocks s with resetHeld := true }, startUp (resetBlocks s),
    running_high (fun s => { resetBlocks s with resetHeld := true }) high, ?_, rfl, (startUp_clock _).2.trans highAfter,
    exec_resetRelease_high high, fun v hv => ?_, ?_⟩
  · rw [exec_resetRelease_low rfl, released]
  · have reset : ResetPart (resetBlocks s) v := by
      rcases hv with rfl | rfl
      · exact .held _
      · exact part
    obtain ⟨device, ⟨notice, alerts⟩, own⟩ := reset
    rw [blocks] at device notice alerts
    have field {α : Type} (f : State → α) : f v = f _ := congrArg f device
    refine ⟨field State.tables, fun c => (own c).trans ?_, field State.timebase, field State.fades, field State.sender,
      field State.receiver, field State.outQueue, field State.modem, field State.settings, field State.port, notice, alerts,
      field State.pairedA, field State.pairedB, field State.straps, field State.choices, field State.pending⟩
    rw [carriers]
    rfl
  · have valid : (startUp (resetBlocks s)).settings.storeValid = (resetBlocks s).settings.storeValid := by
      rw [part.device]
    have enables : (startUp (resetBlocks s)).alarms.noticeEnable = s.alarms.noticeEnable ∧
        (startUp (resetBlocks s)).alarms.alertEnable = s.alarms.alertEnable := by
      obtain ⟨notice, alerts⟩ := part.enables
      rw [notice, alerts, blocks]
      exact ⟨rfl, rfl⟩
    refine ⟨by rw [blocks]; rfl, by rw [blocks]; rfl, by rw [blocks]; rfl, fun c => ?_, ?_, fun c => ?_, fun c => ?_,
      timebaseWire, by rw [storeWire, valid], fun k => ?_, ?_, ?_, fun w low => ?_, fun sent empty sending => ?_⟩
    · show (State.car (resetBlocks s) c).stats = _ ∧ (State.car (resetBlocks s) c).wires = _ ∧
        (State.car (resetBlocks s) c).sup.holdoff = _
      rw [carriers]
      exact ⟨rfl, rfl, rfl⟩
    · have none : (resetBlocks s).modem.outbound = [] := by rw [blocks]; rfl
      rw [outbound, none, List.nil_append]
      exact List.flatMap_congr fun c _ => resetBlocks_startRecords s c
    · rw [started, resetBlocks_enabled, carriers, resetBlocks_startCause, countHalt_start]
      cases (s.car c).sup.record.enabled <;> simp [CarrierState.started, CarrierState.afterReset]
    · rw [started, resetBlocks_enabled, carriers, resetBlocks_govRecord]
      cases (s.car c).sup.record.enabled <;> exact ⟨rfl, rfl⟩
    · rw [lit, valid]
      cases k <;> simp [resetBlocks_enabled, Fin.exists_fin_succ]
    · rw [announced.alert, enables.2]
    · rw [announced.port, enables.1]
    · exact ⟨_, exec_resetRelease_low low, (startUp_clock _).1, (startUp_clock _).2⟩
    · have restarts : s.port.restartSent = true := by simp [Port.restartSent, sent, empty, sending]
      exact ⟨(running_high (fun s => if s.port.restartSent then restartEffect s else s) high).trans
          (congrArg _ (if_pos restarts)),
        (running_high (fun s => if s.port.restartSent then restartEffect s else startNext s) high).trans
          (congrArg _ (if_pos restarts))⟩

end Sys2Proof.Machine
end

section
/-! SUPPORT. The checks of a table (R41, R47, R48): the first offending index, the profiles in use, and what APPLY_TABLE
answers. -/

namespace Sys2Proof.Machine

/-! ### The first offending index (R41) -/

/-- The entry behind place `j` of a table may not follow the one in it. -/
def Offends (table : List Entry) (j : Nat) : Prop :=
  ∃ x y, table[j]? = some x ∧ table[j + 1]? = some y ∧ entryFollows x y = false

theorem offends_zero {x y : Entry} {rest : List Entry} : Offends (x :: y :: rest) 0 ↔ entryFollows x y = false := by
  simp [Offends]

theorem offends_succ {x : Entry} {rest : List Entry} {j : Nat} : Offends (x :: rest) (j + 1) ↔ Offends rest j := by
  simp [Offends]

theorem not_offends_single (x : Entry) (j : Nat) : ¬ Offends [x] j := by simp [Offends]

theorem entryFollows_iff (x y : Entry) :
    entryFollows x y = true ↔ x.thr < y.thr ∧ y.hyst + x.thr ≤ y.thr ∧ y.modulation ≤ 10 ∧ y.code ≤ 7 := by
  simp only [entryFollows, Bool.and_eq_true, decide_eq_true_eq]
  omega

/-- What a search for the first place that offends finds, its indices counted from `i`. -/
structure FirstOffence (table : List Entry) (i : Nat) (found : Option Nat) : Prop where
  none : found = none → ∀ j, ¬ Offends table j
  some : ∀ k, found = some k → ∃ j, k = i + j ∧ Offends table j ∧ ∀ m, m < j → ¬ Offends table m

theorem offendingAfter_first (before : Entry) (i : Nat) (rest : List Entry) :
    FirstOffence (before :: rest) i (offendingAfter before i rest) := by
  induction rest generalizing before i with
  | nil => exact ⟨fun _ => not_offends_single before, fun k h => by simp [offendingAfter] at h⟩
  | cons e rest ih =>
    obtain ⟨none, some⟩ := ih e (i + 1)
    rw [offendingAfter]
    cases follows : entryFollows before e with
    | false =>
      refine ⟨fun h => by simp at h, fun k h => ⟨0, ?_, offends_zero.2 follows, fun m hm => absurd hm (Nat.not_lt_zero m)⟩⟩
      simpa using h.symm
    | true =>
      have first : ¬ Offends (before :: e :: rest) 0 := fun h => by simp [offends_zero, follows] at h
      rw [if_pos rfl]
      refine ⟨fun h j => ?_, fun k h => ?_⟩
      · cases j with
        | zero => exact first
        | succ j => exact fun offends => none h j (offends_succ.1 offends)
      · obtain ⟨j, hk, offends, least⟩ := some k h
        refine ⟨j + 1, by omega, offends_succ.2 offends, fun m hm => ?_⟩
        cases m with
        | zero => exact first
        | succ m => exact fun offends => least m (by omega) (offends_succ.1 offends)

theorem firstOffending_first (table : List Entry) : FirstOffence table 1 (firstOffending table) := by
  cases table with
  | nil => exact ⟨fun _ j => by simp [Offends], fun k h => by simp [firstOffending] at h⟩
  | cons e rest => exact offendingAfter_first e 1 rest

theorem firstOffending_none_iff (table : List Entry) : firstOffending table = none ↔ ∀ j, ¬ Offends table j := by
  refine ⟨(firstOffending_first table).none, fun valid => ?_⟩
  cases found : firstOffending table with
  | none => rfl
  | some k =>
    obtain ⟨j, -, offends, -⟩ := (firstOffending_first table).some k found
    exact absurd offends (valid j)

theorem firstOffending_some_iff (table : List Entry) (i : Nat) :
    firstOffending table = some i ↔ ∃ j, i = j + 1 ∧ Offends table j ∧ ∀ m, m < j → ¬ Offends table m := by
  have first := firstOffending_first table
  refine ⟨fun found => by simpa only [Nat.add_comm 1] using first.some i found, ?_⟩
  rintro ⟨j, rfl, offends, least⟩
  cases found : firstOffending table with
  | none => exact absurd offends (first.none found j)
  | some k =>
    obtain ⟨j', rfl, offends', least'⟩ := first.some k found
    have same : j' = j := Nat.le_antisymm (Nat.not_lt.1 fun h => least' j h offends) (Nat.not_lt.1 fun h => least j' h offends')
    rw [same, Nat.add_comm]

/-! ### Profiles in use (R48) -/

theorem isOpen_iff (t : Tac) : t.isOpen = true ↔ t.state = .ordered ∨ t.state = .committed := by simp [Tac.isOpen]

theorem inUseAt_iff (n : Nat) (k : CarrierState) : inUseAt n k = true ↔
    n ≤ k.tac.current ∨ n ≤ k.rac.current ∨ (∃ a, k.rac.armed = some a ∧ n ≤ a.target) ∨
    (∃ o, k.tac.order = some o ∧ (k.tac.state = .ordered ∨ k.tac.state = .committed) ∧ n ≤ o.target) := by
  cases order : k.tac.order <;> cases armed : k.rac.armed <;>
    simp [inUseAt, order, armed, isOpen_iff, or_assoc, or_comm, or_left_comm]

theorem lowestInUse_none_iff (s : State) (n : Nat) : s.lowestInUse n = none ↔ ∀ c, inUseAt n (s.car c) = false := by
  simp [State.lowestInUse, mem_allCarriers]

theorem lowestInUse_of_first {s : State} {n : Nat} {c : Carrier} (inUse : inUseAt n (s.car c) = true)
    (first : ∀ d, d < c → inUseAt n (s.car d) = false) : s.lowestInUse n = some c := by
  have least := fun d => first d
  unfold State.lowestInUse allCarriers
  fin_cases c
  · simp_all
  · simp_all [least 0 (by decide)]
  · simp_all [least 0 (by decide), least 1 (by decide)]
  · simp_all [least 0 (by decide), least 1 (by decide), least 2 (by decide)]

/-! ### The checks of R47 -/

theorem allPresent_eq_some {places : List (Option Entry)} {entries : List Entry} :
    allPresent places = some entries ↔ places = entries.map some := by
  induction places generalizing entries with
  | nil => cases entries <;> simp [allPresent]
  | cons p places ih =>
    cases p with
    | none => cases entries <;> simp [allPresent]
    | some e =>
      cases entries with
      | nil => simp [allPresent]
      | cons x entries => simp [allPresent, ih, and_comm]

theorem allPresent_eq_none {places : List (Option Entry)} : allPresent places = none ↔ none ∈ places := by
  induction places with
  | nil => simp [allPresent]
  | cons p places ih => cases p <;> simp [allPresent, ih]

/-- Check 1 of R47 fails: no n in 1..16, the Pending Table INCOMPLETE, or one of its first n places absent. -/
theorem applyChecks_badArgument {s : State} {n : Nat} (h : n = 0 ∨ 17 ≤ n ∨ s.tables.completeness = .incomplete ∨
    ∃ i, i < n ∧ s.tables.pending[i]? = some none) : s.applyChecks n = .badArgument := by
  unfold State.applyChecks
  cases present : allPresent (s.tables.pending.take n) with
  | none => rfl
  | some entries =>
    have noGap : ¬ ∃ i, i < n ∧ s.tables.pending[i]? = some none := by
      rintro ⟨i, hi, gap⟩
      have : none ∈ s.tables.pending.take n := List.mem_of_getElem? (by rwa [List.getElem?_take_of_lt hi])
      simp [allPresent_eq_none.2 this] at present
    refine if_neg fun ⟨h1, h2, h3, _⟩ => ?_
    rcases h with h | h | h | h
    · omega
    · omega
    · simp [h3] at h
    · exact noGap h

/-- Check 1 of R47 passes: checks 2 to 4 then decide. -/
theorem applyChecks_present {s : State} {n : Nat} {entries : List Entry} (low : 1 ≤ n) (high : n ≤ 16)
    (complete : s.tables.completeness = .complete) (places : s.tables.pending.length = 16)
    (present : s.tables.pending.take n = entries.map some) : s.applyChecks n =
      match firstOffending entries with
      | some i => .badTable i
      | none =>
        match s.lowestInUse n with
        | some c => .inUse c
        | none => if s.tables.scheduled.isSome then .busy else .ok entries := by
  have long : entries.length = n := by
    have := congrArg List.length present
    simp only [List.length_take, List.length_map] at this
    omega
  unfold State.applyChecks
  rw [allPresent_eq_some.2 present]
  exact if_pos ⟨low, high, complete, long⟩

/-- Settles O44: APPLY_TABLE check by check, then the first offending index and the profiles in use. -/
theorem applyTableChecks : Obligations.ApplyTableChecks := by
  refine ⟨fun s f rest n entries waiting kind body places => ?_, fun table offends offendsIff => ?_, inUseAt_iff⟩
  · have served := serve_waiting waiting kindApplyTable takeApplyTable kind (by rw [body]; rfl)
    have number : natAt f.body 0 = n.toNat := by rw [body]; rfl
    have answer {x : ApplyOutcome} (h : s.applyChecks n.toNat = x) :
        State.applyChecks { s with port := { s.port with queue := rest } } (natAt f.body 0) = x := by
      rw [number]
      exact h
    refine ⟨fun bad => served.trans (congrArg _ ?_), fun low high complete present => ?_⟩
    · rw [takeApplyTable, answer (applyChecks_badArgument bad)]
      rfl
    have checks := applyChecks_present low high complete places present
    refine ⟨fun i first => served.trans (congrArg _ ?_), fun valid => ⟨fun c inUse first => served.trans (congrArg _ ?_),
      fun free => ⟨fun waits => served.trans (congrArg _ ?_), fun unscheduled => served.trans (congrArg _ ?_)⟩⟩⟩
    · rw [first] at checks
      rw [takeApplyTable, answer checks]
      rfl
    · rw [valid, lowestInUse_of_first inUse first] at checks
      rw [takeApplyTable, answer checks]
      rfl
    · rw [valid, (lowestInUse_none_iff s _).2 free] at checks
      rw [takeApplyTable, answer (checks.trans (if_pos waits))]
      rfl
    · rw [valid, (lowestInUse_none_iff s _).2 free] at checks
      rw [takeApplyTable, answer (checks.trans (if_neg (by simp [unscheduled])))]
      rfl
  · have same (j : Nat) : offends j ↔ Offends table j := by
      simp only [offendsIff, Offends, ← entryFollows_iff, Bool.not_eq_true]
    simp only [same]
    exact ⟨firstOffending_some_iff table, firstOffending_none_iff table⟩

end Sys2Proof.Machine
end

section
/-! SUPPORT. The target of a TAC (R58, R85), and a scheduled apply at a boundary (R50, R51, R122). -/

namespace Sys2Proof.Machine

/-! ### The target (R85) -/

/-- The target formed changes the carriers alone: the target of `c`, and of the enabled upper carrier of its pair. -/
theorem formTarget_spec {c : Carrier} {s : State} (hu : s.isUpper c = false) :
    (∀ d, (formTarget c s).car d =
      if d = c ∨ (s.paired c = true ∧ d = partner c ∧ s.link d ≠ .disabled) then
        { s.car d with tac := { (s.car d).tac with target := s.targetOf c } } else s.car d) ∧
    formTarget c s = { s with carriers := (formTarget c s).carriers } := by
  have link (d : Carrier) : (modTac c (fun x => { x with target := s.targetOf c }) s).enabled d =
      decide (s.link d ≠ .disabled) := by
    rw [enabled_eq, State.link, modTac_car_sup, ← State.link]
  unfold formTarget
  simp only
  split
  next pair =>
    simp only [Bool.and_eq_true, link, decide_eq_true_eq] at pair
    obtain ⟨paired, on⟩ := pair
    replace paired : s.paired c = true := paired
    rw [upperOf_lower (lowerOf_of_not_upper hu paired)] at on ⊢
    refine ⟨fun d => ?_, rfl⟩
    by_cases own : d = c
    · subst own
      simp [modTac, car_modCar, (partner_ne d).symm]
    · by_cases other : d = partner c
      · subst other
        simp [modTac, car_modCar, partner_ne, paired, on]
      · simp [modTac, car_modCar, own, other]
  next alone =>
    simp only [Bool.and_eq_true, link, decide_eq_true_eq] at alone
    refine ⟨fun d => ?_, rfl⟩
    have without : ¬ (s.paired c = true ∧ d = partner c ∧ s.link d ≠ .disabled) := by
      rintro ⟨paired, rfl, on⟩
      exact alone ⟨paired, by rwa [upperOf_lower (lowerOf_of_not_upper hu paired)]⟩
    simp only [without, or_false, modTac, car_modCar]
    split
    next own => rw [own]
    next => rfl

/-- The highest candidate at most a bound is a candidate where profile 0 is enabled, and no candidate up to the bound is
above it (R58, R85). -/
theorem highestCandidate_spec {s : State} {c : Carrier} (b : Nat)
    (base : (s.tables.enableSets.get (s.gov c)).getLsbD 0 = true) :
    s.highestCandidate c b ≤ b ∧ s.candidate c (s.highestCandidate c b) = true ∧
      ∀ i, s.highestCandidate c b < i → i ≤ b → s.candidate c i = false := by
  refine ⟨highestUpTo_le _ _, highestUpTo_ok b ((candidate_iff s c 0).2 ⟨base, Nat.zero_le _, Nat.zero_le _⟩), ?_⟩
  intro i above bound
  by_contra candidate
  exact absurd (le_highestUpTo bound (by simpa using candidate)) (Nat.not_le.2 above)

/-- Settles O32: the carriers by `formTarget_spec`, the target by the mismatch and the candidates. -/
theorem targetFormed : Obligations.TargetFormed := by
  rintro s _ c b hu rfl fixed auto pair base
  have gov := gov_of_not_upper hu
  have bound : s.adviceBound c = b := by
    unfold State.adviceBound State.govInForce
    rw [gov]
    cases mode : (s.car c).sup.inForce.adapt with
    | fixed => exact (fixed mode).symm
    | auto =>
      cases paired : s.paired c with
      | false => exact (auto mode paired).symm
      | true => exact (pair mode paired).symm
  obtain ⟨cars, device⟩ := formTarget_spec hu
  refine ⟨s.targetOf c, by simp [cars], fun d other => by simp [cars, other], device, fun mismatch => if_pos ?_,
    fun own shared => ?_⟩
  · simpa only [State.inMismatch, Bool.or_eq_true, Bool.and_eq_true] using mismatch
  · have agrees : s.inMismatch c (s.paired c) = false := by
      cases paired : s.paired c with
      | false => simp [State.inMismatch, own]
      | true => simp [State.inMismatch, own, shared paired]
    have target : s.targetOf c = s.highestCandidate c b := by simp [State.targetOf, agrees, bound]
    obtain ⟨low, candidate, highest⟩ := highestCandidate_spec (s := s) (c := c) b (by rwa [gov])
    rw [candidate_iff, gov] at candidate
    obtain ⟨enabled, ceiling, held⟩ := candidate
    rw [target]
    refine ⟨low, enabled, ceiling, by omega, fun i above most below used => ?_⟩
    have out := highest i above most
    rw [← Bool.not_eq_true, candidate_iff, gov] at out
    have within : i ≤ s.tables.active.length - 1 := by omega
    simpa [below, within] using out

/-! ### A scheduled apply (R50, R51) -/

/-- A carrier whose mismatch has been formed with the own digest `own`, and its wire (R122). -/
def CarrierState.mismatched (own : Word16) (k : CarrierState) : CarrierState :=
  { k with
    lac := { k.lac with mismatch := mismatchOf k.lac.peerDigest own }
    wires := { k.wires with mismatch := mismatchOf k.lac.peerDigest own } }

/-- The mismatches of some carriers formed, in any order: those carriers, collapsed wires, ALERT and notices. -/
theorem formMismatches_spec (order : List Carrier) (s : State) :
    ∃ (v : Four CarrierState) (collapsed : BitVec 6) (alert : Bool) (p : Port),
      order.foldl (fun s c => formMismatch c s) s = { s with
        carriers := v, alarms := { s.alarms with collapsed, alert }, port := p } ∧
      s.port.sameButNotices p ∧
      ∀ d, v.get d = if d ∈ order then (s.car d).mismatched s.tables.digest else s.car d := by
  induction order generalizing s with
  | nil => exact ⟨_, _, _, _, rfl, rfl, fun d => by simp [State.car]⟩
  | cons c order ih =>
    obtain ⟨a, b, p, one, n⟩ := formMismatch_spec c s
    obtain ⟨v, a', b', p', later, n', cars⟩ := ih (formMismatch c s)
    refine ⟨v, a', b', p', ?_, ?_, fun d => ?_⟩
    · rw [List.foldl_cons, later, one]
    · rw [one] at n'
      exact Port.sameButNotices_trans n n'
    · have formed : (formMismatch c s).car d = if d = c then (s.car c).mismatched s.tables.digest else s.car d := by
        rw [one]
        exact Four.get_set _ _ _ _
      have digest : (formMismatch c s).tables.digest = s.tables.digest := by rw [one]
      rw [cars, formed, digest]
      by_cases own : d = c
      · subst own
        by_cases again : d ∈ order <;> simp [again, CarrierState.mismatched]
      · simp [own]

theorem anyOrderOpen_iff (s : State) : s.anyOrderOpen = true ↔ ∃ c, (s.car c).tac.isOpen = true := by
  simp [State.anyOrderOpen, mem_allCarriers]

/-- The Store's decision on a scheduled apply: none, one that waits, one abandoned, one that takes effect. -/
theorem judgeApply_cases (order : List Carrier) (s : State) :
    (s.tables.scheduled = none ∨ (∃ c, (s.car c).tac.isOpen = true) → judgeApply order s = s) ∧
    (∀ entries, s.tables.scheduled = some entries → (∀ c, (s.car c).tac.isOpen = false) →
      ((∃ c, inUseAt entries.length (s.car c) = true) → judgeApply order s =
        placeNotice (.tableEvent .apply outcomeAbandonedInUse) (modTables (fun t => { t with scheduled := none }) s)) ∧
      ((∀ c, inUseAt entries.length (s.car c) = false) → judgeApply order s = takeApply order entries s)) := by
  unfold judgeApply
  cases scheduled : s.tables.scheduled with
  | none => exact ⟨fun _ => rfl, fun _ h => by cases h⟩
  | some entries =>
    refine ⟨fun h => if_pos ((anyOrderOpen_iff s).2 (h.resolve_left (by simp))), ?_⟩
    rintro _ ⟨⟩ closed
    have quiet : ¬ s.anyOrderOpen = true := fun h => by
      obtain ⟨c, opened⟩ := (anyOrderOpen_iff s).1 h
      simp [closed c] at opened
    simp only [if_neg quiet]
    refine ⟨fun ⟨c, used⟩ => if_pos ?_, fun free => if_neg ?_⟩
    · rw [Option.isSome_iff_ne_none, ne_eq, lowestInUse_none_iff]
      exact fun free => by simp [free c] at used
    · rw [(lowestInUse_none_iff _ _).2 free]
      exact Bool.noConfusion

/-- A table that takes effect: the Active Table with its digest, every mismatch formed with it, and then the TABLE_EVENT
(R50, R53, R122). -/
theorem takeApply_spec {order : List Carrier} (all : ∀ c, c ∈ order) (entries : List Entry) (s : State) :
    ∃ (v : Four CarrierState) (collapsed : BitVec 6) (alert : Bool) (p q : Port),
      takeApply order entries s = { s with
        carriers := v, alarms := { s.alarms with collapsed, alert }, port := q
        tables := { s.tables with active := entries, digest := digestOf entries, scheduled := none } } ∧
      s.port.sameButNotices p ∧ Noticed (.tableEvent .apply outcomeApplied) { s with port := p } q ∧
      ∀ d, v.get d = (s.car d).mismatched (digestOf entries) := by
  obtain ⟨v, a, b, p, formed, n, cars⟩ := formMismatches_spec order
    (modTables (fun t => { t with active := entries, digest := digestOf entries }) s)
  obtain ⟨q, placed, noticed⟩ := placeNotice_spec (.tableEvent .apply outcomeApplied)
    (modTables (fun t => { t with scheduled := none }) (order.foldl (fun s c => formMismatch c s)
      (modTables (fun t => { t with active := entries, digest := digestOf entries }) s)))
  refine ⟨v, a, b, p, q, placed.trans ?_, n, ?_, fun d => (cars d).trans (if_pos (all d))⟩
  · rw [formed]
    rfl
  · rw [formed] at noticed
    exact noticed

theorem mismatchOf_iff (peer : Option Word16) (own : Word16) :
    mismatchOf peer own = true ↔ ∃ d, peer = some d ∧ d ≠ own := by
  cases peer <;> simp [mismatchOf]

/-! ### The tables over the blocks -/

@[simp] theorem placeNotice_tables (n : Notice) (s : State) : (placeNotice n s).tables = s.tables := by
  obtain ⟨p, e, -⟩ := placeNotice_spec n s
  rw [e]

@[simp] theorem setWire_tables (k : AlarmKind) (c : Carrier) (v : Bool) (s : State) :
    (setWire k c v s).tables = s.tables := by
  obtain ⟨_, _, _, e, -⟩ := setWire_spec k c v s
  rw [e]

@[simp] theorem senderFollowsLinks_tables (s : State) : (senderFollowsLinks s).tables = s.tables := by
  rw [(senderFollowsLinks_spec s).2]

theorem DeviceSame.tables {s t : State} (h : DeviceSame s t) : t.tables = s.tables := by rw [h]

@[simp] theorem haltedEntry_tables (c : Carrier) (cause : HaltCause) (s : State) :
    (haltedEntry c cause s).tables = s.tables := (haltedEntry_spec c cause s).1.2.1.tables

@[simp] theorem supervise_tables (c : Carrier) (s : State) : (supervise c s).tables = s.tables := by
  cases halts : (modSup c Supervisor.counted s).haltsByTest c with
  | true =>
    obtain ⟨cause, e⟩ := (supervise_cases c s).1 halts
    rw [e, haltedEntry_tables, modSup_tables]
  | false =>
    rcases (supervise_cases c s).2 halts with e | ⟨-, e⟩ | ⟨-, e⟩ <;> rw [e]
    · exact modSup_tables c _ s
    · simp [enterQuiet, modSupStats]
    · simp [enterSeeking]

theorem superviseOnce_tables (c : Carrier) (x : State × List Carrier) : (superviseOnce c x).1.tables = x.1.tables := by
  unfold superviseOnce
  split
  · rfl
  · exact supervise_tables c x.1

/-- The Store's work is done when it has decided on the scheduled apply. -/
theorem applyBoundary_effectDue (order : List Carrier) (s : State) : (applyBoundary order s).tables.effectDue = false := by
  have formed (cs : List Carrier) (u : State) : (cs.foldl (fun s c => formMismatch c s) u).tables = u.tables := by
    obtain ⟨_, _, _, _, e, -⟩ := formMismatches_spec cs u
    rw [e]
  unfold applyBoundary judgeApply
  split
  · rfl
  · split_ifs
    · rfl
    · rw [placeNotice_tables]
      rfl
    · rw [takeApply, placeNotice_tables, modTables_tables, formed]
      rfl

/-- A boundary leaves the Store's work done, wherever the Supervisor's turns fall. -/
theorem boundaryWith_effectDue (place : Carrier → Nat) (order : AlarmKind → List Carrier) (s : State) :
    (boundaryWith place order s).tables.effectDue = false := by
  obtain ⟨_, done⟩ := boundaryWith_induction place order s (fun n _ x => n = 5 → x.1.tables.effectDue = false)
    (fun h => absurd h (by decide))
    (fun n T c x _ before hn => by rw [superviseOnce_tables, before hn])
    (fun n T x hn _ last => by
      obtain rfl : n = 4 := by omega
      exact applyBoundary_effectDue _ _)
  exact done rfl

/-- Settles O45: APPLY_EFFECT by what `judgeApply` decides, and the work of a whole boundary. -/
theorem scheduledApplyTakesEffect : Obligations.ScheduledApplyTakesEffect := by
  refine ⟨?_, boundaryWith_effectDue⟩
  rintro s entries _ _ high rfl rfl
  have run : exec .applyEffect s = .next (if s.timebase.atBoundary && s.tables.effectDue
      then drawn (applyBoundary (s.wireOrder .mismatch) s) else s) := running_high _ high
  refine ⟨fun idle => run.trans (congrArg _ (if_neg ?_)), fun boundary due => ?_⟩
  · rcases idle with h | h <;> simp [h]
  rw [boundary, due, Bool.and_self, if_pos rfl] at run
  obtain ⟨stays, decides⟩ := judgeApply_cases (s.wireOrder .mismatch) (modTables (fun t => { t with effectDue := false }) s)
  refine ⟨fun unscheduled => run.trans (congrArg _ (congrArg drawn (stays (.inl unscheduled)))),
    fun opened => run.trans (congrArg _ (congrArg drawn (stays (.inr opened)))), fun scheduled closed => ?_⟩
  obtain ⟨abandons, applies⟩ := decides entries scheduled closed
  refine ⟨fun used => ?_, fun free => ?_⟩
  · obtain ⟨p, placed, noticed⟩ := placeNotice_spec (.tableEvent .apply outcomeAbandonedInUse)
      (modTables (fun t => { t with scheduled := none }) (modTables (fun t => { t with effectDue := false }) s))
    exact ⟨p, run.trans (congrArg _ (congrArg drawn ((abandons used).trans placed))), noticed⟩
  · obtain ⟨v, a, b, p, q, taken, n, noticed, cars⟩ := takeApply_spec (order := s.wireOrder .mismatch)
      (fun c => (wireOrder_perm s .mismatch).mem_iff.2 (mem_allCarriers c)) entries
      (modTables (fun t => { t with effectDue := false }) s)
    refine ⟨_, run.trans (congrArg _ (congrArg drawn ((applies free).trans taken))), rfl, ⟨p, n, noticed⟩, ?_⟩
    intro c differs differsIff
    have mismatch : differs = mismatchOf (s.car c).lac.peerDigest (digestOf entries) :=
      Bool.eq_iff_iff.2 (differsIff.trans (mismatchOf_iff _ _).symm)
    rw [mismatch]
    exact cars c

end Sys2Proof.Machine
end

section
/-! SUPPORT. WRITE_PROFILES and the enable sets (R44, R57): the entries of a body read back, the places written, and the
sets changed. -/

namespace Sys2Proof.Machine

/-! ### The entries of a body -/

/-- The octets behind others, read as they stand. -/
theorem natAt_append (pre b : List Byte) (j : Nat) : natAt (pre ++ b) (pre.length + j) = natAt b j := by
  rw [natAt, natAt, List.getD_eq_getElem?_getD, List.getD_eq_getElem?_getD,
    List.getElem?_append_right (Nat.le_add_right _ _), Nat.add_sub_cancel_left]

theorem natAt_byteOf {n : Nat} {b : List Byte} (h : n < 256) : natAt (byteOf n :: b) 0 = n := byteOf_toNat h

theorem entryOctets_eq (i : Nat) (e : Entry) : entryOctets i e =
    [byteOf i, byteOf e.modulation, byteOf e.code, byteOf (e.thr / 256), byteOf e.thr, byteOf e.hyst] := by
  rw [entryOctets, nat16_eq]
  rfl

/-- Every field of an entry, and its index, is a number that its octets hold (R190). -/
def EntryFits (x : Nat × Entry) : Prop :=
  x.1 < 256 ∧ x.2.modulation < 256 ∧ x.2.code < 256 ∧ x.2.thr < 65536 ∧ x.2.hyst < 256

/-- An entry is read back from its octets, wherever they stand. -/
theorem entryAt_entryOctets (pre rest : List Byte) {x : Nat × Entry} (fits : EntryFits x) :
    entryAt (pre ++ (entryOctets x.1 x.2 ++ rest)) pre.length = x := by
  obtain ⟨index, modulation, code, thr, hyst⟩ := fits
  have octet (j : Nat) : natAt (pre ++ (entryOctets x.1 x.2 ++ rest)) (pre.length + j) =
      natAt (entryOctets x.1 x.2 ++ rest) j := natAt_append _ _ j
  have first := octet 0
  rw [Nat.add_zero] at first
  simp only [entryAt, nat16At, Nat.add_assoc, first, octet]
  simp [entryOctets_eq, natAt, byteOf_toNat, nat16_read, *]

theorem entriesAt_entryOctets (pre : List Byte) (given : List (Nat × Entry)) (fits : ∀ x ∈ given, EntryFits x) :
    entriesAt (pre ++ given.flatMap fun x => entryOctets x.1 x.2) pre.length given.length = given := by
  induction given generalizing pre with
  | nil => rfl
  | cons x given ih =>
    have next := ih (pre ++ entryOctets x.1 x.2) fun y hy => fits y (List.mem_cons_of_mem _ hy)
    have six : (entryOctets x.1 x.2).length = 6 := by rw [entryOctets_eq]; rfl
    rw [List.append_assoc, List.length_append, six] at next
    rw [List.flatMap_cons, List.length_cons, entriesAt, entryAt_entryOctets pre _ (fits x List.mem_cons_self), next]

theorem length_entriesOctets (given : List (Nat × Entry)) :
    (given.flatMap fun x => entryOctets x.1 x.2).length = 6 * given.length := by
  induction given with
  | nil => rfl
  | cons x given ih =>
    rw [List.flatMap_cons, List.length_append, ih, entryOctets_eq, List.length_cons (as := given)]
    simp only [List.length_cons, List.length_nil]
    omega

theorem entryInRange_iff (e : Entry) :
    entryInRange e = true ↔ e.modulation ≤ 10 ∧ e.code ≤ 7 ∧ e.thr ≤ 1020 ∧ e.hyst ≤ 255 := by
  simp [entryInRange, and_assoc]

/-- The entries of places `i`, `i + 1`, …: each has its place's index and fields in range, and that of place 0 is QPSK 1/2
(R44). -/
theorem entriesFit_iff (i : Nat) (given : List (Nat × Entry)) : entriesFit i given = true ↔
    ∀ j x, given[j]? = some x → x.1 = i + j ∧ entryInRange x.2 = true ∧
      (i + j = 0 → x.2.modulation = 0 ∧ x.2.code = 0) := by
  induction given generalizing i with
  | nil => simp [entriesFit]
  | cons y given ih =>
    obtain ⟨k, e⟩ := y
    have head : ((k == i && entryInRange e && (i != 0 || (e.modulation == 0 && e.code == 0))) = true) ↔
        k = i ∧ entryInRange e = true ∧ (i = 0 → e.modulation = 0 ∧ e.code = 0) := by
      simp [and_assoc, imp_iff_not_or]
    rw [entriesFit, Bool.and_eq_true, head, ih]
    constructor
    · rintro ⟨first, later⟩ j x hx
      cases j with
      | zero =>
        obtain rfl : (k, e) = x := by simpa using hx
        exact first
      | succ j => simpa only [Nat.add_assoc, Nat.add_comm 1] using later j x (by simpa using hx)
    · refine fun all => ⟨all 0 (k, e) rfl, fun j x hx => ?_⟩
      simpa only [Nat.add_assoc, Nat.add_comm 1] using all (j + 1) x (by simpa using hx)

/-! ### The places written -/

@[simp] theorem length_writePlaces (p : List (Option Entry)) (i : Nat) (entries : List Entry) :
    (writePlaces p i entries).length = p.length := by
  induction entries generalizing p i with
  | nil => rfl
  | cons e entries ih => rw [writePlaces, ih, List.length_set]

/-- Places that are not written hold what they held. -/
theorem writePlaces_outside {p : List (Option Entry)} {i k : Nat} {entries : List Entry}
    (h : k < i ∨ i + entries.length ≤ k) : (writePlaces p i entries)[k]? = p[k]? := by
  induction entries generalizing p i with
  | nil => rfl
  | cons e entries ih =>
    rw [List.length_cons] at h
    rw [writePlaces, ih (by omega), List.getElem?_set_ne (by omega)]

/-- Each entry stands in its place. -/
theorem writePlaces_inside {p : List (Option Entry)} {i j : Nat} {entries : List Entry} {e : Entry}
    (room : i + entries.length ≤ p.length) (h : entries[j]? = some e) :
    (writePlaces p i entries)[i + j]? = some (some e) := by
  induction entries generalizing p i j with
  | nil => simp at h
  | cons x entries ih =>
    rw [List.length_cons] at room
    rw [writePlaces]
    cases j with
    | zero =>
      obtain rfl : x = e := by simpa using h
      rw [writePlaces_outside (.inl (by omega)), Nat.add_zero, List.getElem?_set_self (by omega)]
    | succ j =>
      rw [← ih (p := p.set i (some x)) (i := i + 1) (j := j) (by rw [List.length_set]; omega) (by simpa using h)]
      congr 1
      omega

/-- What WRITE_PROFILES answers and writes, by its arguments and the owner of the Pending Table (R44). -/
theorem exec_writeProfiles {s : State} {f : Frame} {rest : List Frame} (waiting : Waiting s f rest) (kind : f.kind = 0x0A)
    {start count : Byte} {given : List (Nat × Entry)} (low : 1 ≤ given.length) (high : given.length ≤ 16)
    (fits : ∀ x ∈ given, EntryFits x)
    (body : f.body = start :: count :: given.flatMap fun x => entryOctets x.1 x.2) :
    exec .writeProfiles s = .next (
      if placesInRange start.toNat count.toNat && given.length == count.toNat && entriesFit start.toNat given then
        if s.tables.owner = .transfer then { s with port := s.answered f rest [statusBusy] }
        else { s with
          port := s.answered f rest [statusOk]
          tables := { s.tables with
            pending := writePlaces s.tables.pending start.toNat (given.map Prod.snd), completeness := .complete } }
      else { s with port := s.answered f rest [statusBadArgument] }) := by
  have long : f.body.length = 6 * given.length + 2 := by
    rw [body, List.length_cons, List.length_cons, length_entriesOctets]
  have fit : lengthFits kindWriteProfiles f.body.length = true := by
    rw [long]
    show decide _ = true
    rw [decide_eq_true_eq]
    omega
  have entries : entriesAt f.body 2 ((f.body.length - 2) / 6) = given := by
    rw [show (f.body.length - 2) / 6 = given.length by omega, body]
    exact entriesAt_entryOctets [start, count] given fits
  have number : natAt f.body 0 = start.toNat ∧ natAt f.body 1 = count.toNat := by rw [body]; exact ⟨rfl, rfl⟩
  refine (serve_waiting waiting kindWriteProfiles takeWriteProfiles kind fit).trans (congrArg _ ?_)
  simp only [takeWriteProfiles, entries, number.1, number.2]
  split_ifs <;> rfl

/-! ### The enable sets -/

/-- A sixteen-bit number is its two octets side by side. -/
theorem word16At_eq (b : List Byte) (i : Nat) : word16At b i = (b.getD i 0 ++ b.getD (i + 1) 0 : BitVec 16) := by
  refine BitVec.eq_of_toNat_eq ?_
  have high := (b.getD i 0).isLt
  have low := (b.getD (i + 1) 0).isLt
  rw [word16At, BitVec.toNat_ofNat, nat16At, natAt, natAt, Nat.mod_eq_of_lt (by omega), BitVec.toNat_append,
    ← Nat.shiftLeft_add_eq_or_of_lt low, Nat.shiftLeft_eq, Nat.mul_comm]

/-- The values of some carriers changed, each once. -/
theorem get_foldl_set {α : Type} (named : Carrier → Bool) (change : α → α) (cs : List Carrier) (once : cs.Nodup) (v : Four α)
    (c : Carrier) :
    (cs.foldl (fun v c => if named c then v.set c (change (v.get c)) else v) v).get c =
      if c ∈ cs ∧ named c = true then change (v.get c) else v.get c := by
  induction cs generalizing v with
  | nil => simp
  | cons d cs ih =>
    obtain ⟨fresh, once⟩ := List.nodup_cons.1 once
    rw [List.foldl_cons, ih once]
    by_cases own : c = d
    · subst own
      by_cases h : named c = true <;> simp [h, fresh]
    · by_cases h : named d = true <;> simp [h, own, Four.get_set]

/-- The enable set of a carrier after a change of those that a mask names (R57). -/
theorem enableSets_changeEnables (mask : Nat) (change : BitVec 16 → BitVec 16) (s : State) (c : Carrier) :
    (changeEnables mask change s).tables.enableSets.get c =
      if mask.testBit c.val then change (s.tables.enableSets.get c) else s.tables.enableSets.get c := by
  refine (get_foldl_set (fun c => mask.testBit c.val) change allCarriers (by decide) s.tables.enableSets c).trans ?_
  simp only [mem_allCarriers, true_and]

theorem carrierMaskInRange_iff (mask : Nat) : carrierMaskInRange mask = true ↔ 1 ≤ mask ∧ mask ≤ 15 := by
  simp [carrierMaskInRange]

/-- ENABLE_PROFILES, by its carrier mask (R57). -/
theorem exec_enableProfiles {s : State} {f : Frame} {rest : List Frame} (waiting : Waiting s f rest) (kind : f.kind = 0x08)
    {mask hi lo : Byte} (body : f.body = [mask, hi, lo]) :
    exec .enableProfiles s = .next (
      if carrierMaskInRange mask.toNat then { s with
        port := s.answered f rest [statusOk]
        tables := (changeEnables mask.toNat (fun m => m ||| (hi ++ lo)) s).tables }
      else { s with port := s.answered f rest [statusBadArgument] }) := by
  refine (serve_waiting waiting kindEnableProfiles takeEnableProfiles kind (by rw [body]; rfl)).trans (congrArg _ ?_)
  have named : word16At f.body 1 = hi ++ lo := by rw [word16At_eq, body]; rfl
  have number : natAt f.body 0 = mask.toNat := by rw [body]; rfl
  simp only [takeEnableProfiles, named, number]
  split_ifs <;> rfl

/-- DISABLE_PROFILES, by its carrier mask (R57). -/
theorem exec_disableProfiles {s : State} {f : Frame} {rest : List Frame} (waiting : Waiting s f rest) (kind : f.kind = 0x09)
    {mask hi lo : Byte} (body : f.body = [mask, hi, lo]) :
    exec .disableProfiles s = .next (
      if carrierMaskInRange mask.toNat then { s with
        port := s.answered f rest [statusOk]
        tables := (changeEnables mask.toNat (fun m => m &&& (~~~(hi ++ lo) ||| 1)) s).tables }
      else { s with port := s.answered f rest [statusBadArgument] }) := by
  refine (serve_waiting waiting kindDisableProfiles takeDisableProfiles kind (by rw [body]; rfl)).trans (congrArg _ ?_)
  have named : word16At f.body 1 = hi ++ lo := by rw [word16At_eq, body]; rfl
  have number : natAt f.body 0 = mask.toNat := by rw [body]; rfl
  simp only [takeDisableProfiles, named, number]
  split_ifs <;> rfl

/-- The set with the profiles of `named` removed keeps profile 0 (R57). -/
theorem getLsbD_removed (old named : BitVec 16) {p : Nat} (h : p < 16) :
    (old &&& (~~~named ||| 1)).getLsbD p = (old.getLsbD p && !(named.getLsbD p && decide (p ≠ 0))) := by
  by_cases base : p = 0 <;> simp [h, base]

/-- Settles O43: the checks of R44 in the words of the statement, then the places; the enable sets profile by profile. -/
theorem profilesWrittenAndEnabled : Obligations.ProfilesWrittenAndEnabled := by
  refine ⟨fun s f rest start count given good waiting kind low high fits body places goodIff => ?_,
    fun s f rest mask hi lo waiting body => ⟨fun out => ?_, fun low high => ?_⟩⟩
  · have run := exec_writeProfiles waiting kind low high fits body
    have checks : (placesInRange start.toNat count.toNat && given.length == count.toNat && entriesFit start.toNat given) =
        true ↔ good := by
      rw [goodIff, Bool.and_eq_true, Bool.and_eq_true, entriesFit_iff, beq_iff_eq, placesInRange, decide_eq_true_eq]
      have fields (j : Nat) (x : Nat × Entry) (hx : given[j]? = some x) : entryInRange x.2 = true ↔
          x.2.modulation ≤ 10 ∧ x.2.code ≤ 7 ∧ x.2.thr ≤ 1020 := by
        obtain ⟨-, -, -, -, hyst⟩ := fits x (List.mem_of_getElem? hx)
        rw [entryInRange_iff]
        omega
      constructor
      · rintro ⟨⟨⟨h1, h2, -, h4⟩, h5⟩, all⟩
        refine ⟨h1, h2, h4, h5, fun j x hx => ?_⟩
        obtain ⟨index, range, base⟩ := all j x hx
        obtain ⟨m, k, t⟩ := (fields j x hx).1 range
        exact ⟨index, m, k, t, base⟩
      · rintro ⟨h1, h2, h4, h5, all⟩
        refine ⟨⟨⟨h1, h2, by omega, h4⟩, h5⟩, fun j x hx => ?_⟩
        obtain ⟨index, m, k, t, base⟩ := all j x hx
        exact ⟨index, (fields j x hx).2 ⟨m, k, t⟩, base⟩
    refine ⟨fun pass host => ?_, fun pass transfer => ?_, fun fail => ?_⟩
    · rw [if_pos (checks.2 pass), if_neg (by simp [host])] at run
      obtain ⟨-, -, room, whole, -⟩ := goodIff.1 pass
      refine ⟨_, run, by rw [length_writePlaces, places], fun j x hx => ?_, fun i hi => ?_⟩
      · exact writePlaces_inside (by rw [List.length_map, places]; omega) (by rw [List.getElem?_map, hx]; rfl)
      · exact writePlaces_outside (by rw [List.length_map]; omega)
    · rw [if_pos (checks.2 pass), if_pos transfer] at run
      exact run
    · rw [if_neg (checks.not.2 fail)] at run
      exact run
  · have refused : ¬ carrierMaskInRange mask.toNat = true := by
      rw [carrierMaskInRange_iff]
      omega
    refine ⟨fun kind => ?_, fun kind => ?_⟩
    · exact (exec_enableProfiles waiting kind body).trans (congrArg _ (if_neg refused))
    · exact (exec_disableProfiles waiting kind body).trans (congrArg _ (if_neg refused))
  · have accepted := (carrierMaskInRange_iff mask.toNat).2 ⟨low, high⟩
    have named (c : Carrier) : mask.toNat.testBit c.val = mask.getLsbD c.val := BitVec.testBit_toNat mask
    by_cases adds : f.kind = 0x08
    · have only : f.kind ≠ 0x09 := by rw [adds]; decide
      refine ⟨(changeEnables mask.toNat (fun m => m ||| (hi ++ lo)) s).tables.enableSets,
        ⟨fun _ => (exec_enableProfiles waiting adds body).trans (congrArg _ (if_pos accepted)), fun h => absurd h only⟩,
        fun c p _ => ⟨fun _ => ?_, fun h => absurd h only⟩⟩
      rw [enableSets_changeEnables, named]
      cases mask.getLsbD c.val <;> simp
    · refine ⟨(changeEnables mask.toNat (fun m => m &&& (~~~(hi ++ lo) ||| 1)) s).tables.enableSets,
        ⟨fun h => absurd h adds, fun h => (exec_disableProfiles waiting h body).trans (congrArg _ (if_pos accepted))⟩,
        fun c p hp => ⟨fun h => absurd h adds, fun _ => ?_⟩⟩
      rw [enableSets_changeEnables, named]
      cases mask.getLsbD c.val
      · simp
      · exact (getLsbD_removed _ _ hp).trans (by simp)

end Sys2Proof.Machine
end

section
/-! SUPPORT. The transfer receiver (R168 to R171): what it makes of a TABLE_ENTRY, a TABLE_END and a TABLE_ABORT. -/

namespace Sys2Proof.Machine

/-! ### Its messages by its state -/

/-- A reception that ends with a result: the receiver is idle with it as its last, the TABLE_RESULT takes the Q place, and
TABLE_EVENT is placed (R168 to R171). -/
theorem concludeReception_spec (id result : Nat) (s : State) :
    ∃ p : Port, concludeReception id result s = { s with
      port := p
      receiver := { s.receiver with
        state := .idle, id := none, next := 0, lastId := some id, lastResult := some result }
      outQueue := queueWith .q (.tableResult id result) s.outQueue } ∧ Noticed (.tableEvent .receive result) s p :=
  placeNotice_spec (.tableEvent .receive result) (modReceiver (fun x => { x with
    state := .idle, id := none, next := 0, lastId := some id, lastResult := some result })
    (placeMessage .q (.tableResult id result) s))

/-- A place that takes a second message holds that one alone (R111). -/
theorem queueWith_queueWith (p : Place) (m n : LacMsg) (q : List Placed) :
    queueWith p n (queueWith p m q) = queueWith p n q := by
  simp [queueWith, List.filter_filter]

/-- With no permission an entry 0 of another id ends both transfers as REFUSED (R169; log entry 40). -/
theorem refuseBoth_spec (i id : Nat) (s : State) :
    ∃ p q : Port, concludeReception id outcomeRefused (refuseReception i s) = { s with
      port := q
      receiver := { s.receiver with
        state := .idle, id := none, next := 0, lastId := some id, lastResult := some outcomeRefused }
      tables := { s.tables with owner := .host, completeness := .incomplete }
      outQueue := queueWith .q (.tableResult id outcomeRefused) s.outQueue } ∧
      Noticed (.tableEvent .receive outcomeRefused) s p ∧
      Noticed (.tableEvent .receive outcomeRefused) { s with port := p } q := by
  obtain ⟨p, first, noticed⟩ := concludeReception_spec i outcomeRefused (releasePending .incomplete s)
  obtain ⟨q, second, noticed'⟩ := concludeReception_spec id outcomeRefused (refuseReception i s)
  rw [refuseReception, first] at noticed' second
  refine ⟨p, q, ?_, noticed, noticed'⟩
  rw [refuseReception, first, second]
  simp only [queueWith_queueWith]
  rfl

theorem takeEntry_idle {s : State} (idle : s.receiver.state = .idle) (id index : Nat) (e : Entry) :
    takeEntry id index e s = if index = 0 ∧ s.receiver.lastId ≠ some id then
      if s.receiver.remoteWrite then startReception id e s else concludeReception id outcomeRefused s
      else staleAtReceiver s := by
  unfold takeEntry
  split
  next running _ => rw [idle] at running; cases running
  next => rfl

theorem takeEntry_receiving {s : State} {i : Nat} (receiving : s.receiver.state = .receiving)
    (current : s.receiver.id = some i) (id index : Nat) (e : Entry) :
    takeEntry id index e s =
      if id = i then
        if index = s.receiver.next then
          placeMessage .q (.tableAck i (s.receiver.next + 1))
            (modReceiver (fun x => { x with next := x.next + 1 }) (writeReceived index e s))
        else placeMessage .q (.tableAck i s.receiver.next) s
      else if index ≠ 0 then staleAtReceiver s
      else if s.receiver.remoteWrite then startReception id e s
      else concludeReception id outcomeRefused (refuseReception i s) := by
  unfold takeEntry
  rw [receiving, current]
  rfl

theorem takeEnd_idle {s : State} (idle : s.receiver.state = .idle) (id count : Nat) (check : Word16) :
    takeEnd id count check s = match s.receiver.lastResult with
      | some r =>
        if s.receiver.lastId = some id ∧ r ≠ outcomeRefused then placeMessage .q (.tableResult id r) s
        else staleAtReceiver s
      | none => staleAtReceiver s := by
  unfold takeEnd
  split
  next running _ => rw [idle] at running; cases running
  next => rfl

theorem takeEnd_receiving {s : State} {i : Nat} (receiving : s.receiver.state = .receiving)
    (current : s.receiver.id = some i) (id count : Nat) (check : Word16) :
    takeEnd id count check s =
      if id = i then
        if s.arrivedWhole count check then concludeReception i (wholeTableResult count (releasePending .complete s)).1
          (wholeTableResult count (releasePending .complete s)).2
        else concludeReception i outcomeCheckFailed (releasePending .incomplete s)
      else staleAtReceiver s := by
  unfold takeEnd
  rw [receiving, current]

/-! ### A whole table (R170) -/

theorem arrivedWhole_iff (s : State) (count : Nat) (check : Word16) : s.arrivedWhole count check = true ↔
    count = s.receiver.next ∧ ∃ entries, s.tables.pending.take count = entries.map some ∧ transferCheck entries = check := by
  unfold State.arrivedWhole
  rw [Bool.and_eq_true, beq_iff_eq]
  cases present : allPresent (s.tables.pending.take count) with
  | none =>
    have gap := allPresent_eq_none.1 present
    have never : ¬ ∃ entries, s.tables.pending.take count = entries.map some ∧ transferCheck entries = check := by
      rintro ⟨entries, h, -⟩
      simp [h] at gap
    simp [never]
  | some entries =>
    rw [allPresent_eq_some] at present
    simp [present, (List.map_injective_iff.2 (Option.some_injective Entry)).eq_iff]

/-- The result of a whole table of `count` entries, by the permission to apply and the checks of R47 (R52, R170). -/
def WholeResult (s : State) (count : Nat) (entries : List Entry) (result : Nat) : Prop :=
  (result = 3 ∧ s.receiver.remoteApply = false) ∨
  (s.receiver.remoteApply = true ∧
    ((result = 5 ∧ (count = 0 ∨ (firstOffending entries).isSome = true)) ∨
     (1 ≤ count ∧ firstOffending entries = none ∧
      ((result = 6 ∧ ∃ c : Carrier, inUseAt count (s.car c) = true) ∨
       ((∀ c : Carrier, inUseAt count (s.car c) = false) ∧
        ((result = 7 ∧ s.tables.scheduled.isSome = true) ∨ (result = 4 ∧ s.tables.scheduled = none)))))))

theorem wholeTableResult_spec {s : State} {count result : Nat} {entries : List Entry} (high : count ≤ 16)
    (complete : s.tables.completeness = .complete) (places : s.tables.pending.length = 16)
    (present : s.tables.pending.take count = entries.map some)
    (outcome : WholeResult s count entries result) :
    wholeTableResult count s = (result, { s with tables := { s.tables with
      scheduled := if result = 4 then some entries else s.tables.scheduled } }) := by
  rcases outcome with ⟨rfl, unpermitted⟩ | ⟨permitted, outcome⟩
  · exact if_neg (by simp [unpermitted])
  rw [wholeTableResult, if_pos permitted]
  rcases Nat.eq_zero_or_pos count with rfl | low
  · obtain rfl : result = 5 := by
      rcases outcome with ⟨h, -⟩ | ⟨h, -⟩
      · exact h
      · omega
    rw [applyChecks_badArgument (.inl rfl)]
    rfl
  rw [applyChecks_present low high complete places present]
  rcases outcome with ⟨rfl, offends⟩ | ⟨-, valid, outcome⟩
  · obtain ⟨i, first⟩ := Option.isSome_iff_exists.1 (offends.resolve_left (by omega))
    rw [first]
    rfl
  rw [valid]
  rcases outcome with ⟨rfl, c, used⟩ | ⟨free, outcome⟩
  · have some : ∃ d, s.lowestInUse count = some d := by
      rw [← Option.ne_none_iff_exists', ne_eq, lowestInUse_none_iff]
      exact fun free => by simp [free c] at used
    obtain ⟨d, lowest⟩ := some
    rw [lowest]
    rfl
  rw [(lowestInUse_none_iff s count).2 free]
  rcases outcome with ⟨rfl, waits⟩ | ⟨rfl, unscheduled⟩
  · simp only [waits]
    rfl
  · simp only [unscheduled]
    rfl

/-! ### TABLE_ABORT (R171) -/

theorem takeAbort_current {s : State} {id : Nat} (receiving : s.receiver.state = .receiving)
    (current : s.receiver.id = some id) : ∃ p : Port, takeAbort id s = { s with
      port := p
      receiver := { s.receiver with state := .idle, id := none, next := 0, lastId := some id, lastResult := none }
      tables := { s.tables with owner := .host, completeness := .incomplete }
      outQueue := s.outQueue.filter fun m => m.place != .q } ∧ Noticed (.tableEvent .receive outcomeAborted) s p := by
  rw [takeAbort, if_pos ⟨receiving, current⟩]
  exact placeNotice_spec (.tableEvent .receive outcomeAborted) (modReceiver (fun x => { x with
    state := .idle, id := none, next := 0, lastId := some id, lastResult := none })
    (clearPlace .q (releasePending .incomplete s)))

/-- Settles O48: TABLE_ENTRY, TABLE_END and TABLE_ABORT by the receiver's state and its current id. -/
theorem receiverTakesATransfer : Obligations.ReceiverTakesATransfer := by
  refine ⟨?_, ?_, ?_⟩
  · rintro s id index e _ _ _ rfl rfl rfl
    refine ⟨fun idle => ?_, fun i receiving current => ?_⟩
    · rw [takeEntry_idle idle]
      refine ⟨fun other => if_neg (by tauto), fun first new => ?_⟩
      rw [if_pos ⟨first, new⟩]
      refine ⟨fun may => if_pos may, fun mayNot => ?_⟩
      rw [if_neg (by simp [mayNot])]
      exact concludeReception_spec id outcomeRefused s
    · rw [takeEntry_receiving receiving current]
      refine ⟨fun own expected => ?_, fun own other => ?_, fun foreign later => ?_, fun foreign first may => ?_,
        fun foreign first mayNot => ?_⟩
      · rw [if_pos own, if_pos expected]
        rfl
      · rw [if_pos own, if_neg other]
        rfl
      · rw [if_neg foreign, if_pos later]
        rfl
      · rw [if_neg foreign, if_neg (by simpa using first), if_pos may]
        rfl
      · rw [if_neg foreign, if_neg (by simpa using first), if_neg (by simp [mayNot])]
        exact refuseBoth_spec i id s
  · intro s i count result check entries whole receiving current wholeIff unique places high outcome
    have arrived : s.arrivedWhole count check = true ↔ whole := by
      rw [arrivedWhole_iff, wholeIff]
      refine and_congr_right fun _ => ⟨?_, fun h => ⟨entries, h⟩⟩
      rintro ⟨other, present, checked⟩
      obtain rfl := unique other present
      exact ⟨present, checked⟩
    rw [takeEnd_receiving receiving current, if_pos rfl]
    rcases outcome with ⟨rfl, partly⟩ | ⟨entire, outcome⟩
    · rw [if_neg (arrived.not.2 partly)]
      exact concludeReception_spec i outcomeCheckFailed (releasePending .incomplete s)
    · rw [if_pos (arrived.2 entire), wholeTableResult_spec high (s := releasePending .complete s) rfl places
        (wholeIff.1 entire).2.1 outcome]
      have done : result ≠ 2 := by omega
      rw [if_neg done]
      exact concludeReception_spec i result _
  · rintro s _ id count check rfl
    refine ⟨fun i receiving current foreign => ?_, fun idle => ?_, fun not => if_neg ?_, takeAbort_current⟩
    · rw [takeEnd_receiving receiving current, if_neg foreign]
      rfl
    · rw [takeEnd_idle idle]
      refine ⟨fun unknown => ?_, fun r own last given => ?_⟩
      · cases last : s.receiver.lastResult with
        | none => rfl
        | some r =>
          refine if_neg fun ⟨own, given⟩ => ?_
          rcases unknown with h | h | h
          · exact h own
          · simp [last] at h
          · exact given (Option.some.inj (last.symm.trans h))
      · rw [last]
        exact if_pos ⟨own, given⟩
    · rintro ⟨receiving, current⟩
      rcases not with h | h
      · simp [receiving] at h
      · exact h current

end Sys2Proof.Machine
end

section
/-! SUPPORT. Law 12 taken apart: the tables by themselves, and the profiles that one carrier's TAC and RAC use.  What a
change of the state must keep for the law to hold after it. -/

namespace Sys2Proof.Machine

/-! ### The tables -/

theorem tableInService_iff (t : List Entry) : tableInService t = true ↔
    (1 ≤ t.length ∧ t.length ≤ 16) ∧ (∀ e ∈ t, entryInRange e = true) ∧ firstOffending t = none ∧
      ∀ e, t.head? = some e → e.modulation = 0 ∧ e.code = 0 := by
  unfold tableInService imageTableValid
  cases t with
  | nil => simp
  | cons e rest => simp [and_assoc]

/-- The Pending Table's own part of the law: sixteen places, fields in range, a base entry 0. -/
def PlacesLaw (p : List (Option Entry)) : Prop :=
  p.length = 16 ∧ (∀ e, some e ∈ p → entryInRange e = true) ∧
    ∀ e, p.head? = some (some e) → e.modulation = 0 ∧ e.code = 0

/-- The table part of law 12; within a boundary the Store's work may still be due. -/
structure LawfulTables (due : Bool) (x : TableStore) : Prop where
  active : tableInService x.active = true
  digest : x.digest = digestOf x.active
  scheduled : ∀ t ∈ x.scheduled, tableInService t = true
  effectDue : x.effectDue = due
  places : PlacesLaw x.pending

theorem tableLaw_iff (s : State) : TableLaw s ↔ LawfulTables false s.tables :=
  ⟨fun ⟨ha, hd, hs, he, hp⟩ => ⟨ha, hd, hs, he, hp⟩, fun ⟨ha, hd, hs, he, hp⟩ => ⟨ha, hd, hs, he, hp⟩⟩

/-- An entry put into a place keeps the law of places; in place 0 it is a base entry (R39). -/
theorem PlacesLaw.set {p : List (Option Entry)} (h : PlacesLaw p) {i : Nat} {e : Entry} (range : entryInRange e = true)
    (base : i = 0 → e.modulation = 0 ∧ e.code = 0) : PlacesLaw (p.set i (some e)) := by
  obtain ⟨hl, hr, hb⟩ := h
  refine ⟨by rw [List.length_set, hl], fun d hd => ?_, fun d hd => ?_⟩
  · rcases List.mem_or_eq_of_mem_set hd with old | new
    · exact hr d old
    · cases new
      exact range
  · cases p with
    | nil => simp at hd
    | cons x rest =>
      cases i with
      | zero =>
        cases hd
        exact base rfl
      | succ i => exact hb d hd

/-- No entry at all is lawful in the Pending Table (R46). -/
theorem placesLaw_absent : PlacesLaw (List.replicate 16 none) := by
  refine ⟨rfl, fun e he => ?_, fun e he => ?_⟩
  · cases List.eq_of_mem_replicate he
  · cases he

/-- A copy of a table that may be in service is lawful in the Pending Table (R43). -/
theorem placesLaw_pendingCopy {t : List Entry} (h : tableInService t = true) : PlacesLaw (pendingCopy t) := by
  obtain ⟨-, range, -, base⟩ := (tableInService_iff t).1 h
  refine ⟨by simp [pendingCopy], fun e he => ?_, fun e he => ?_⟩
  · rcases List.mem_append.1 (List.mem_of_mem_take he) with mem | mem
    · obtain ⟨x, hx, ⟨⟩⟩ := List.mem_map.1 mem
      exact range e hx
    · cases List.eq_of_mem_replicate mem
  · cases t with
    | nil => cases he
    | cons x rest =>
      cases he
      exact base e rfl

/-- The tables of a reset are lawful with the Active Table they take (R43, R51). -/
theorem lawfulTables_afterReset {t : List Entry} (h : tableInService t = true) (sets : Four (BitVec 16)) :
    LawfulTables false (TableStore.afterReset t sets) :=
  ⟨h, rfl, by simp [TableStore.afterReset], rfl, placesLaw_pendingCopy h⟩

/-! ### The profiles of a carrier -/

/-- A TAC's current profile and order target lie below `n`, and it holds an order exactly while one is open. -/
def Tac.below (n : Nat) (t : Tac) : Prop := t.current < n ∧ (∀ o ∈ t.order, o.target < n) ∧ t.order.isSome = t.isOpen

/-- A RAC's current and armed profiles lie below `n`. -/
def Rac.below (n : Nat) (r : Rac) : Prop := r.current < n ∧ ∀ a ∈ r.armed, a.target < n

theorem profilesBelow_iff (n : Nat) (k : CarrierState) : k.profilesBelow n ↔ k.tac.below n ∧ k.rac.below n :=
  ⟨fun ⟨ht, hr, ho, ha, hi⟩ => ⟨⟨ht, ho, hi⟩, hr, ha⟩, fun ⟨⟨ht, ho, hi⟩, hr, ha⟩ => ⟨ht, hr, ho, ha, hi⟩⟩

/-- A TAC without an order, at a profile below `n`. -/
theorem Tac.below_of_noOrder {n : Nat} {t : Tac} (hc : t.current < n) (ho : t.order = none) (hi : t.isOpen = false) :
    t.below n := ⟨hc, by simp [ho], by simp [ho, hi]⟩

/-- A RAC without an armed order, at a profile below `n`. -/
theorem Rac.below_of_unarmed {n : Nat} {r : Rac} (hc : r.current < n) (ha : r.armed = none) : r.below n :=
  ⟨hc, by simp [ha]⟩

/-- Law 12, with the Store's work due or done. -/
structure Profiled (due : Bool) (s : State) : Prop where
  tables : LawfulTables due s.tables
  tac : ∀ c, (s.car c).tac.below s.nUsed
  rac : ∀ c, (s.car c).rac.below s.nUsed

theorem profileLaw_iff (s : State) : ProfileLaw s ↔ Profiled false s := by
  simp only [ProfileLaw, tableLaw_iff, profilesBelow_iff]
  exact ⟨fun ⟨ht, hc⟩ => ⟨ht, fun c => (hc c).1, fun c => (hc c).2⟩, fun ⟨ht, hc, hr⟩ => ⟨ht, fun c => ⟨hc c, hr c⟩⟩⟩

/-- What becomes of one carrier leaves its profiles below any N_used that they were below. -/
structure ProfilesKept (k k' : CarrierState) : Prop where
  tac : ∀ n, 0 < n → k.tac.below n → k'.tac.below n
  rac : ∀ n, 0 < n → k.rac.below n → k'.rac.below n

theorem ProfilesKept.refl (k : CarrierState) : ProfilesKept k k := ⟨fun _ _ => id, fun _ _ => id⟩

/-- A carrier whose contexts are as they were. -/
theorem ProfilesKept.of_same {k k' : CarrierState} (ht : k'.tac = k.tac) (hr : k'.rac = k.rac) : ProfilesKept k k' :=
  ⟨fun _ _ h => ht ▸ h, fun _ _ h => hr ▸ h⟩

namespace Profiled

variable {due : Bool} {s : State}

theorem pos (h : Profiled due s) : 0 < s.nUsed := ((tableInService_iff _).1 h.tables.active).1.1

theorem of_kept (h : Profiled due s) {t : State} (ht : t.tables = s.tables) (hc : ∀ c, ProfilesKept (s.car c) (t.car c)) :
    Profiled due t := by
  have hn : t.nUsed = s.nUsed := by rw [State.nUsed, ht, State.nUsed]
  exact ⟨ht ▸ h.tables, fun c => hn ▸ (hc c).tac _ h.pos (h.tac c), fun c => hn ▸ (hc c).rac _ h.pos (h.rac c)⟩

theorem of_same (h : Profiled due s) {t : State} (ht : t.tables = s.tables) (hc : t.carriers = s.carriers) :
    Profiled due t :=
  h.of_kept ht fun c => by simpa only [State.car, hc] using ProfilesKept.refl _

theorem of_one (h : Profiled due s) {t : State} {c : Carrier} {k : CarrierState} (ht : t.tables = s.tables)
    (hc : t.carriers = s.carriers.set c k) (hk : ProfilesKept (s.car c) k) : Profiled due t :=
  h.of_kept ht fun d => by
    simp only [State.car, hc, Four.get_set]
    split
    · rename_i e
      rw [e]
      exact hk
    · exact .refl _

theorem ite {p : Prop} [Decidable p] {u : State} (h : p → Profiled due s) (g : ¬p → Profiled due u) :
    Profiled due (if p then s else u) := by
  split
  · exact h ‹_›
  · exact g ‹_›

theorem foldl {α : Type} {f : State → α → State} (hf : ∀ u a, Profiled due u → Profiled due (f u a)) (xs : List α)
    (h : Profiled due s) : Profiled due (xs.foldl f s) := by
  induction xs generalizing s with
  | nil => exact h
  | cons x xs ih => exact ih (hf s x h)

/-! ### One carrier changed -/

theorem modCar (h : Profiled due s) {c : Carrier} {f : CarrierState → CarrierState}
    (ht : (s.car c).tac.below s.nUsed → (f (s.car c)).tac.below s.nUsed := by exact fun below => below)
    (hr : (s.car c).rac.below s.nUsed → (f (s.car c)).rac.below s.nUsed := by exact fun below => below) :
    Profiled due (modCar c f s) := by
  have changed (d : Carrier) : ((Machine.modCar c f s).car d).tac.below s.nUsed ∧
      ((Machine.modCar c f s).car d).rac.below s.nUsed := by
    rw [car_modCar]
    split
    · exact ⟨ht (h.tac c), hr (h.rac c)⟩
    · exact ⟨h.tac d, h.rac d⟩
  exact ⟨h.tables, fun d => (changed d).1, fun d => (changed d).2⟩

theorem modTac (h : Profiled due s) {c : Carrier} {f : Tac → Tac}
    (ht : (s.car c).tac.below s.nUsed → (f (s.car c).tac).below s.nUsed := by exact fun below => below) :
    Profiled due (modTac c f s) :=
  h.modCar ht

theorem modRac (h : Profiled due s) {c : Carrier} {f : Rac → Rac}
    (hr : (s.car c).rac.below s.nUsed → (f (s.car c).rac).below s.nUsed := by exact fun below => below) :
    Profiled due (modRac c f s) :=
  h.modCar id hr

theorem modEst (h : Profiled due s) {c : Carrier} {f : Estimator → Estimator} : Profiled due (modEst c f s) := h.modCar

theorem modLac (h : Profiled due s) {c : Carrier} {f : Lac → Lac} : Profiled due (modLac c f s) := h.modCar

theorem modSup (h : Profiled due s) {c : Carrier} {f : Supervisor → Supervisor} : Profiled due (modSup c f s) := h.modCar

theorem modStats (h : Profiled due s) {c : Carrier} {f : CarrierStats → CarrierStats} : Profiled due (modStats c f s) :=
  h.modCar

theorem modRacStats (h : Profiled due s) {c : Carrier} {f : RacStats → RacStats} : Profiled due (modRacStats c f s) :=
  h.modStats

theorem modTacStats (h : Profiled due s) {c : Carrier} {f : TacStats → TacStats} : Profiled due (modTacStats c f s) :=
  h.modStats

theorem modLacStats (h : Profiled due s) {c : Carrier} {f : LacStats → LacStats} : Profiled due (modLacStats c f s) :=
  h.modStats

theorem modSupStats (h : Profiled due s) {c : Carrier} {f : SupStats → SupStats} : Profiled due (modSupStats c f s) :=
  h.modStats

/-! ### Neither a carrier nor a table changed -/

theorem emit (h : Profiled due s) {d : Directive} : Profiled due (emit d s) := h.of_same rfl rfl

theorem placeMessage (h : Profiled due s) {p : Place} {m : LacMsg} : Profiled due (placeMessage p m s) :=
  h.of_same rfl rfl

theorem clearPlace (h : Profiled due s) {p : Place} : Profiled due (clearPlace p s) := h.of_same rfl rfl

theorem modSender (h : Profiled due s) {f : Sender → Sender} : Profiled due (modSender f s) := h.of_same rfl rfl

theorem modReceiver (h : Profiled due s) {f : Receiver → Receiver} : Profiled due (modReceiver f s) := h.of_same rfl rfl

theorem modPort (h : Profiled due s) {f : Port → Port} : Profiled due (modPort f s) := h.of_same rfl rfl

theorem modTimebase (h : Profiled due s) {f : Timebase → Timebase} : Profiled due (modTimebase f s) := h.of_same rfl rfl

theorem reply (h : Profiled due s) {f : Frame} {body : List Byte} : Profiled due (reply f body s) := h.modPort

theorem placeNotice (h : Profiled due s) {n : Notice} : Profiled due (placeNotice n s) := by
  obtain ⟨p, e, -⟩ := placeNotice_spec n s
  rw [e]
  exact h.of_same rfl rfl

theorem formCollapsed (h : Profiled due s) {k : AlarmKind} : Profiled due (formCollapsed k s) := by
  obtain ⟨a, b, p, e, -⟩ := formCollapsed_spec k s
  rw [e]
  exact h.of_same rfl rfl

theorem setTimebaseWire (h : Profiled due s) {v : Bool} : Profiled due (setTimebaseWire v s) :=
  formCollapsed (s := { s with alarms := { s.alarms with timebaseWire := v } }) (h.of_same rfl rfl)

theorem setStoreWire (h : Profiled due s) {v : Bool} : Profiled due (setStoreWire v s) :=
  formCollapsed (s := { s with alarms := { s.alarms with storeWire := v } }) (h.of_same rfl rfl)

theorem setWire (h : Profiled due s) {k : AlarmKind} {c : Carrier} {v : Bool} : Profiled due (setWire k c v s) :=
  (h.modCar (f := fun x => { x with wires := x.wires.set k v })).formCollapsed

theorem formMismatch (h : Profiled due s) {c : Carrier} : Profiled due (formMismatch c s) := h.modLac.setWire

theorem senderFollowsLinks (h : Profiled due s) : Profiled due (senderFollowsLinks s) := by
  rw [(senderFollowsLinks_spec s).2]
  exact h.of_same rfl rfl

/-! ### The tables changed -/

/-- A change of the tables that leaves the Active Table. -/
theorem modTables (h : Profiled due s) {f : TableStore → TableStore} (hf : LawfulTables due (f s.tables))
    (ha : (f s.tables).active = s.tables.active := by rfl) : Profiled due (modTables f s) := by
  have hn : (Machine.modTables f s).nUsed = s.nUsed := congrArg List.length ha
  exact ⟨hf, fun c => hn ▸ h.tac c, fun c => hn ▸ h.rac c⟩

/-- A change of the Pending Table alone, with its bookkeeping. -/
theorem withPlaces (h : Profiled due s) {p : List (Option Entry)} (hp : PlacesLaw p) (c : Completeness) (o : Owner) :
    Profiled due (Machine.modTables (fun t => { t with pending := p, completeness := c, owner := o }) s) :=
  h.modTables ⟨h.tables.active, h.tables.digest, h.tables.scheduled, h.tables.effectDue, hp⟩

theorem withScheduled (h : Profiled due s) {x : Option (List Entry)} (hx : ∀ t ∈ x, tableInService t = true) :
    Profiled due (Machine.modTables (fun t => { t with scheduled := x }) s) :=
  h.modTables ⟨h.tables.active, h.tables.digest, hx, h.tables.effectDue, h.tables.places⟩

end Profiled

end Sys2Proof.Machine
end

section
/-! SUPPORT. Law 12 over the blocks of a boundary: the Supervisor's entries, the RACs, the TACs, the transfer sender and the
table store. -/

namespace Sys2Proof.Machine

/-! ### Entries -/

theorem TacHalted.below {m n : Nat} {t t' : Tac} (h : TacHalted m t t') (pos : 0 < n) : t'.below n := by
  rw [show t' = _ from h]
  exact Tac.below_of_noOrder pos rfl rfl

theorem RacHalted.below {n : Nat} {r r' : Rac} (h : RacHalted r r') (pos : 0 < n) : r'.below n := by
  rw [show r' = _ from h]
  exact Rac.below_of_unarmed pos rfl

/-- HALTED entry leaves a carrier at base with nothing open and nothing armed (R61, R83). -/
theorem CarrierHalted.profilesKept {tHold : Nat} {upper : Bool} {x : SupStats} {k k' : CarrierState}
    (h : CarrierHalted tHold upper x k k') : ProfilesKept k k' := by
  obtain ⟨-, hr, ht, -⟩ := h
  exact ⟨fun _ pos _ => ht.below pos, fun _ pos _ => hr.below pos⟩

/-- So does DISABLED entry (R131). -/
theorem CarrierDisabled.profilesKept {upper : Bool} {k k' : CarrierState} (h : CarrierDisabled upper k k') :
    ProfilesKept k k' := by
  obtain ⟨-, hr, ht, -⟩ := h
  exact ⟨fun _ pos _ => ht.below pos, fun _ pos _ => hr.below pos⟩

/-- A part whose carrier `c` made an entry, with it perhaps its partner, and no other. -/
theorem Profiled.of_entry {due : Bool} {s t : State} (h : Profiled due s) {c : Carrier} (ht : t.tables = s.tables)
    (own : ProfilesKept (s.car c) (t.car c))
    (pair : TakesPartner s c → ProfilesKept (s.car (partner c)) (t.car (partner c)) ∧
      ∀ d, d ≠ c → d ≠ partner c → t.car d = s.car d)
    (alone : ¬ TakesPartner s c → OthersSame c s t) : Profiled due t := by
  refine h.of_kept ht fun d => ?_
  by_cases hd : d = c
  · rw [hd]
    exact own
  by_cases taken : TakesPartner s c
  · by_cases hp : d = partner c
    · rw [hp]
      exact (pair taken).1
    · rw [(pair taken).2 d hd hp]
      exact .refl _
  · rw [alone taken d hd]
    exact .refl _

/-- The decision changes what the RAC advises, not the profiles it uses (R64 to R67). -/
theorem decideAdvice_profiles (x : DecisionInput) (r : Rac) :
    (decideAdvice x r).current = r.current ∧ (decideAdvice x r).armed = r.armed := by
  unfold decideAdvice
  simp only
  split
  · split <;> exact ⟨rfl, rfl⟩
  · split <;> exact ⟨rfl, rfl⟩

/-- The highest number for which a property holds has it, or is 0. -/
theorem highestUpTo_zero_or (ok : Nat → Bool) (n : Nat) : highestUpTo ok n = 0 ∨ ok (highestUpTo ok n) = true := by
  induction n with
  | zero => exact .inl rfl
  | succ n ih =>
    unfold highestUpTo
    split
    · exact .inr ‹_›
    · exact ih

/-- The target of R85 is a profile of the Active Table. -/
theorem targetOf_lt {s : State} (pos : 0 < s.nUsed) (c : Carrier) : s.targetOf c < s.nUsed := by
  unfold State.targetOf State.highestCandidate
  split
  · exact pos
  · rcases highestUpTo_zero_or (s.candidate c) (s.adviceBound c) with e | ok
    · omega
    · have last := ((candidate_iff s c _).1 ok).2.2
      unfold State.nUsed at pos ⊢
      omega

@[simp] theorem mirrorOrder_tables (c : Carrier) (s : State) : (mirrorOrder c s).tables = s.tables := by
  rw [mirrorOrder_only]

/-- The pair's copies are of the order, not of the target (R86). -/
@[simp] theorem mirrorOrder_target (c d : Carrier) (s : State) :
    ((mirrorOrder c s).car d).tac.target = (s.car d).tac.target := by
  unfold mirrorOrder
  split
  · exact car_modCar_keeps (fun k => k.tac.target) (by intro _; rfl) _ d s
  · rfl

@[simp] theorem closeOrder_tables (c : Carrier) (st : OrderState) (b : Nat) (s : State) :
    (closeOrder c st b s).tables = s.tables := by simp [closeOrder]

@[simp] theorem closeOrder_target (c d : Carrier) (st : OrderState) (b : Nat) (s : State) :
    ((closeOrder c st b s).car d).tac.target = (s.car d).tac.target := by
  rw [closeOrder, mirrorOrder_target]
  exact car_modCar_keeps (fun k => k.tac.target) (by intro _; rfl) _ d s

@[simp] theorem takeTarget_tables (c : Carrier) (t : Nat) (s : State) : (takeTarget c t s).tables = s.tables := by
  simp [takeTarget]

/-- The target is a profile of the Active Table, at the carrier that may open an order to it. -/
def State.targetBelow (s : State) (c : Carrier) : Prop := (s.car c).tac.target < s.nUsed

theorem formTarget_targetBelow {s : State} (pos : 0 < s.nUsed) (c : Carrier) : (formTarget c s).targetBelow c := by
  have target : ((formTarget c s).car c).tac.target = s.targetOf c := by
    unfold formTarget
    simp only
    split
    · simp only [modTac, car_modCar]
      split <;> rfl
    · simp [modTac]
  have tables : (formTarget c s).tables = s.tables := by
    unfold formTarget
    simp only
    split <;> rfl
  rw [State.targetBelow, target, State.nUsed, tables]
  exact targetOf_lt pos c

/-- A reversal leaves the target that it compares (R92). -/
theorem reverseUpshift_targetBelow {s : State} {c : Carrier} (h : s.targetBelow c) :
    (reverseUpshift c s).targetBelow c := by
  unfold reverseUpshift
  simp only
  split
  · exact h
  · split
    · simp only [State.targetBelow, State.nUsed, modTacStats, modStats_car_tac, modStats_tables, closeOrder_target,
        closeOrder_tables]
      exact h
    · exact h

theorem orderAt_eq_some {s : State} {c : Carrier} {st : OrderState} {e : Word32} {o : OpenOrder}
    (h : s.orderAt c st e = some o) : (s.car c).tac.order = some o ∧ (s.car c).tac.state = st := by
  unfold State.orderAt at h
  split at h
  · split at h
    · rename_i x ho hs
      cases h
      exact ⟨ho, hs.1⟩
    · cases h
  · cases h

namespace Profiled

variable {due : Bool} {s : State} {c : Carrier}

theorem haltedEntry (h : Profiled due s) {cause : HaltCause} : Profiled due (haltedEntry c cause s) := by
  obtain ⟨⟨own, device, -, pair, alone⟩, -⟩ := haltedEntry_spec c cause s
  exact h.of_entry device.tables own.profilesKept (fun ht => ⟨(pair ht).1.profilesKept, (pair ht).2.1⟩)
    fun ht => (alone ht).1

theorem disabledEntry (h : Profiled due s) : Profiled due (disabledEntry c s) := by
  obtain ⟨⟨own, device, pair, alone⟩, -⟩ := disabledEntry_spec c s
  exact h.of_entry device.tables own.profilesKept (fun ht => ⟨(pair ht).2.1.profilesKept, (pair ht).2.2.1⟩)
    fun ht => (alone ht).2.1

theorem enterActive (h : Profiled due s) : Profiled due (enterActive c s) :=
  h.modSup.modRac.setWire.senderFollowsLinks

theorem enterQuiet (h : Profiled due s) : Profiled due (enterQuiet c s) :=
  h.modSup.modSupStats.setWire.senderFollowsLinks

theorem enterSeeking (h : Profiled due s) : Profiled due (enterSeeking c s) := h.modSup.setWire.senderFollowsLinks

/-- The Supervisor's turn of a carrier: its counts, and an entry or none. -/
theorem supervise (h : Profiled due s) : Profiled due (supervise c s) := by
  have counted : Profiled due (Machine.modSup c Supervisor.counted s) := h.modSup
  cases halts : (Machine.modSup c Supervisor.counted s).haltsByTest c with
  | true =>
    obtain ⟨cause, e⟩ := (supervise_cases c s).1 halts
    rw [e]
    exact counted.haltedEntry
  | false =>
    rcases (supervise_cases c s).2 halts with e | ⟨-, e⟩ | ⟨-, e⟩ <;> rw [e]
    · exact counted
    · exact counted.enterQuiet
    · exact counted.enterSeeking

theorem superviseOnce {x : State × List Carrier} (h : Profiled due x.1) : Profiled due (superviseOnce c x).1 := by
  unfold Machine.superviseOnce
  split
  · exact h
  · exact h.supervise

/-! ### The estimators, the fades and the RACs -/

theorem judgeBranchLoss (h : Profiled due s) : Profiled due (judgeBranchLoss c s) := h.modEst.setWire

theorem estimatorBoundary (h : Profiled due s) : Profiled due (estimatorBoundary c s) := by
  by_cases off : s.link c = .disabled
  · rw [(estimatorBoundary_spec c s).1 off]
    exact h
  · obtain ⟨_, _, _, _, _, _, e, -⟩ := (estimatorBoundary_spec c s).2 off
    rw [e]
    exact h.of_one rfl rfl (.of_same rfl rfl)

theorem fadeBoundary (h : Profiled due s) {present : Bool} : Profiled due (fadeBoundary present c s) := by
  obtain ⟨_, _, _, _, _, _, e⟩ := (fadeBoundary_spec present c s).2
  rw [e]
  exact h.of_one rfl rfl (.of_same rfl rfl)

theorem qualityWork (h : Profiled due s) {order : AlarmKind → List Carrier} {present : Four Bool} :
    Profiled due (qualityWork order present s) :=
  foldl (fun _ _ g => g.fadeBoundary) _ (foldl (fun _ _ g => g.estimatorBoundary) _ h)

theorem racBoundary (h : Profiled due s) {present : Bool} : Profiled due (racBoundary present c s) := by
  unfold Machine.racBoundary
  cases s.link c with
  | disabled => exact h
  | halted => exact h
  | seeking => exact h
  | quiet => exact h.modRac
  | active =>
    refine ite (fun _ => h.modRac fun below => ?_) fun _ => h.modRac
    obtain ⟨current, armed⟩ := decideAdvice_profiles (s.decisionInput c) (s.car c).rac
    simpa only [Rac.below, Rac.bounded, current, armed] using below

theorem receiveWork (h : Profiled due s) {present : Four Bool} : Profiled due (receiveWork present s) :=
  foldl (fun _ _ g => g.racBoundary) _ h

/-! ### The TACs -/

/-- The upper carrier's copies are those of a lawful order (R86). -/
theorem mirrorOrder (h : Profiled due s) : Profiled due (mirrorOrder c s) := by
  unfold Machine.mirrorOrder
  obtain ⟨-, target, isOpen⟩ := h.tac (lowerOf c)
  exact ite (fun _ => h.modTac fun below => ⟨below.1, target, isOpen⟩) fun _ => h

theorem closeOrder (h : Profiled due s) {st : OrderState} {b : Nat}
    (closed : (st == .ordered || st == .committed) = false := by rfl) : Profiled due (closeOrder c st b s) :=
  mirrorOrder (h.modTac fun below => Tac.below_of_noOrder below.1 rfl closed)

theorem takeTarget (h : Profiled due s) {t : Nat} (below : t < s.nUsed) : Profiled due (takeTarget c t s) :=
  (h.modTac fun held => ⟨below, held.2⟩).placeNotice

theorem closeOnTimebaseLoss (h : Profiled due s) : Profiled due (closeOnTimebaseLoss c s) := by
  unfold Machine.closeOnTimebaseLoss
  split
  · exact h
  · rename_i o _
    have closed : Profiled due (Machine.closeOrder c .steady 0 (placeCancel c o s)) := h.placeMessage.closeOrder
    exact ite (fun _ => modTacStats (ite (fun _ => closed.emit) fun _ => closed)) fun _ => h

theorem countBackoff (h : Profiled due s) : Profiled due (countBackoff c s) := by
  unfold Machine.countBackoff
  have counted : Profiled due (Machine.modTac c (fun t => { t with backoff := t.backoff - 1 }) s) := h.modTac
  exact ite (fun _ => ite (fun _ => counted.closeOrder) fun _ => counted) fun _ => h

/-- A switch makes the target of a lawful order the current profile (R94). -/
theorem switchOrder (h : Profiled due s) {o : OpenOrder} (below : o.target < s.nUsed) :
    Profiled due (switchOrder c o s) := by
  have own : Profiled due (Machine.takeTarget c o.target (Machine.closeOrder c .steady 0 (Machine.clearPlace (.t c) s))) :=
    h.clearPlace.closeOrder.takeTarget (by simpa [State.nUsed] using below)
  unfold Machine.switchOrder
  exact modTacStats (ite (fun _ => own.takeTarget (by simpa [State.nUsed] using below)) fun _ => own)

theorem orderAt_lt (h : Profiled due s) {st : OrderState} {e : Word32} {o : OpenOrder} (ho : s.orderAt c st e = some o) :
    o.target < s.nUsed := (h.tac c).2.1 o (orderAt_eq_some ho).1

theorem switchAtEffect (h : Profiled due s) : Profiled due (switchAtEffect c s) := by
  unfold Machine.switchAtEffect
  split
  · rename_i ho
    exact h.switchOrder (h.orderAt_lt ho)
  · exact h

theorem deadline (h : Profiled due s) : Profiled due (deadline c s) := by
  unfold Machine.deadline
  split
  · exact h.placeMessage.closeOrder.modTacStats.placeNotice
  · exact h

theorem armAtDeadline (h : Profiled due s) : Profiled due (armAtDeadline c s) := by
  unfold Machine.armAtDeadline
  split
  · rename_i o ho
    have held : (s.car c).tac.order = some o := (orderAt_eq_some ho).1
    obtain ⟨current, target, isOpen⟩ := h.tac c
    refine ite (fun _ => h) fun _ => mirrorOrder (h.emit.modTac fun _ => ⟨current, ?_, ?_⟩)
    · rintro _ ⟨⟩
      exact target o held
    · exact (congrArg Option.isSome held).symm.trans isOpen
  · exact h

theorem formTarget (h : Profiled due s) : Profiled due (formTarget c s) := by
  unfold Machine.formTarget
  exact ite (fun _ => h.modTac.modTac) fun _ => h.modTac

theorem reverseUpshift (h : Profiled due s) : Profiled due (reverseUpshift c s) := by
  unfold Machine.reverseUpshift
  simp only
  split
  · exact h
  · exact ite (fun _ => h.placeMessage.closeOrder.modTacStats) fun _ => h

/-- An order opens to a target that the Active Table has (R87, R88). -/
theorem openOrderWork (h : Profiled due s) (below : s.targetBelow c) : Profiled due (openOrderWork c s) := by
  unfold Machine.openOrderWork
  refine ite (fun _ => modTacStats (placeMessage (mirrorOrder (h.modTac fun held => ⟨held.1, ?_, rfl⟩)))) fun _ => h
  rintro _ ⟨⟩
  exact below

/-- The target is formed anew and the opening test follows (R85, R87). -/
theorem formAndOpen (h : Profiled due s) : Profiled due (Machine.openOrderWork c (Machine.formTarget c s)) :=
  h.formTarget.openOrderWork (formTarget_targetBelow h.pos c)

theorem applyPower (h : Profiled due s) : Profiled due (applyPower c s) := by
  unfold Machine.applyPower
  simp only
  split
  · exact h
  · exact ite (fun _ => h.modTac) fun _ => h.modTac.modTacStats.emit

theorem orderBoundary (h : Profiled due s) : Profiled due (orderBoundary c s) := by
  have armed := h.closeOnTimebaseLoss (c := c) |>.countBackoff (c := c) |>.switchAtEffect (c := c) |>.deadline (c := c)
    |>.armAtDeadline (c := c)
  exact armed.formTarget.reverseUpshift.openOrderWork (reverseUpshift_targetBelow (formTarget_targetBelow armed.pos c))

theorem tacBoundary (h : Profiled due s) : Profiled due (tacBoundary c s) := by
  unfold Machine.tacBoundary
  exact ite (fun _ => applyPower (ite (fun _ => h) fun _ => h.orderBoundary)) fun _ => h

theorem transmitWork (h : Profiled due s) : Profiled due (transmitWork s) := foldl (fun _ _ g => g.tacBoundary) _ h

/-! ### The transfer sender and the table store -/

theorem placeAgain (h : Profiled due s) : Profiled due (placeAgain s) := by
  unfold Machine.placeAgain
  split
  · exact h.placeMessage
  · exact h.placeMessage
  · exact h

theorem ackWaitExpired (h : Profiled due s) : Profiled due (ackWaitExpired s) := by
  unfold Machine.ackWaitExpired
  exact ite (fun _ => h.modSender.placeAgain) fun _ => h.modSender.clearPlace.placeNotice

theorem senderBoundary (h : Profiled due s) : Profiled due (senderBoundary s) := by
  unfold Machine.senderBoundary
  simp only
  split
  · exact h
  · exact ite (fun _ => ite (fun _ => h.modSender.ackWaitExpired) fun _ => h.modSender) fun _ => h

/-- With no order open and no profile at or above `n` in use, every profile lies below `n` (R48). -/
theorem below_of_unused (h : Profiled due s) {n : Nat} (closed : s.anyOrderOpen = false) (unused : s.lowestInUse n = none)
    (d : Carrier) : (s.car d).tac.below n ∧ (s.car d).rac.below n := by
  have free : ¬ inUseAt n (s.car d) = true := by simp [(lowestInUse_none_iff s n).1 unused d]
  rw [inUseAt_iff] at free
  push Not at free
  obtain ⟨current, received, armed, -⟩ := free
  have shut : (s.car d).tac.isOpen = false := by
    by_contra opened
    exact absurd ((anyOrderOpen_iff s).2 ⟨d, by simpa using opened⟩) (by simp [closed])
  have noOrder : (s.car d).tac.order = none := by simpa [shut] using (h.tac d).2.2
  exact ⟨Tac.below_of_noOrder current noOrder shut, received, armed⟩

/-- The table of an apply that takes effect: nothing in use lies outside it (R48, R50). -/
theorem takeApply (h : Profiled due s) {entries : List Entry} (lawful : tableInService entries = true)
    (below : ∀ d, (s.car d).tac.below entries.length ∧ (s.car d).rac.below entries.length) {order : List Carrier} :
    Profiled due (takeApply order entries s) := by
  have replaced : Profiled due
      (Machine.modTables (fun t => { t with active := entries, digest := digestOf entries }) s) :=
    ⟨⟨lawful, rfl, h.tables.scheduled, h.tables.effectDue, h.tables.places⟩, fun d => (below d).1, fun d => (below d).2⟩
  exact placeNotice (withScheduled (foldl (fun _ _ g => g.formMismatch) order replaced) (by simp))

theorem judgeApply (h : Profiled due s) {order : List Carrier} : Profiled due (judgeApply order s) := by
  unfold Machine.judgeApply
  split
  · exact h
  · rename_i entries scheduled
    refine ite (fun _ => h) fun closed => ite (fun _ => placeNotice (h.withScheduled (by simp))) fun unused => ?_
    exact h.takeApply (h.tables.scheduled entries scheduled)
      (h.below_of_unused (by simpa using closed) (by simpa using unused))

/-- The Store's work at a boundary, done (R50). -/
theorem applyBoundary (h : Profiled due s) {order : List Carrier} : Profiled false (applyBoundary order s) :=
  judgeApply (s := Machine.modTables (fun t => { t with effectDue := false }) s)
    ⟨⟨h.tables.active, h.tables.digest, h.tables.scheduled, rfl, h.tables.places⟩, h.tac, h.rac⟩

end Profiled

/-! ### The boundary -/

/-- The close of a superframe leaves the profiles (R76, R77). -/
theorem closed_profilesKept (k : CarrierState) : ProfilesKept k k.closed := by
  unfold CarrierState.closed
  split <;> exact ⟨fun _ _ => id, fun _ _ => id⟩

/-- At the start of a boundary the Store's work is due (R50). -/
theorem Profiled.startBoundary {s : State} (h : Profiled false s) : Profiled true (startBoundary s) := by
  have kept (c : Carrier) : ProfilesKept (s.car c) ((Machine.startBoundary s).car c) := by
    rw [car_startBoundary]
    exact ⟨(closed_profilesKept (s.car c).startBoundary).tac, (closed_profilesKept (s.car c).startBoundary).rac⟩
  have tables : (Machine.startBoundary s).tables = { s.tables with effectDue := true } := by
    rw [startBoundary_eq]
    rfl
  have used : (Machine.startBoundary s).nUsed = s.nUsed := by rw [State.nUsed, tables, State.nUsed]
  obtain ⟨active, digest, scheduled, -, places⟩ := h.tables
  exact ⟨tables ▸ ⟨active, digest, scheduled, rfl, places⟩, fun c => used ▸ (kept c).tac _ h.pos (h.tac c),
    fun c => used ▸ (kept c).rac _ h.pos (h.rac c)⟩

/-- A boundary keeps law 12, wherever the Supervisor's turns fall: the Store's work is due until its last block. -/
theorem Profiled.boundaryWith {s : State} (h : Profiled false s) (place : Carrier → Nat)
    (order : AlarmKind → List Carrier) : Profiled false (boundaryWith place order s) := by
  obtain ⟨_, done⟩ := boundaryWith_induction place order s (fun n _ x => Profiled (decide (n < 5)) x.1) h.startBoundary
    (fun n T c x _ hx => hx.superviseOnce)
    (fun n T x hn hx => by
      match n, hn with
      | 0, _ => exact hx.qualityWork
      | 1, _ => exact hx.receiveWork
      | 2, _ => exact hx.transmitWork
      | 3, _ => exact hx.senderBoundary
      | 4, _ => exact hx.applyBoundary)
  exact done

theorem Profiled.boundary {s : State} (h : Profiled false s) : Profiled false (boundary s) := h.boundaryWith _ _

end Sys2Proof.Machine
end

section
/-! SUPPORT. Law 12 over the timebase, the resets, orders, the transfer and received slots. -/

namespace Sys2Proof.Machine

/-! ### The checks of an apply -/

/-- The entries that pass the checks of R47 make a table that may be in service. -/
theorem tableInService_of_applyChecks {s : State} {n : Nat} {entries : List Entry} (places : PlacesLaw s.tables.pending)
    (ok : s.applyChecks n = .ok entries) : tableInService entries = true := by
  unfold State.applyChecks at ok
  split at ok
  · cases ok
  · rename_i found present
    split at ok
    · rename_i shape
      obtain ⟨low, high, -, length⟩ := shape
      split at ok
      · cases ok
      · rename_i valid
        split at ok
        · cases ok
        · split at ok <;> cases ok
          have taken : s.tables.pending.take n = entries.map some := allPresent_eq_some.1 present
          refine (tableInService_iff _).2 ⟨⟨length ▸ low, length ▸ high⟩, fun e he => ?_, valid, fun e he => ?_⟩
          · exact places.2.1 e (List.mem_of_mem_take (taken ▸ List.mem_map_of_mem he))
          · refine places.2.2 e ?_
            have first : (s.tables.pending.take n).head? = some (some e) := by rw [taken, List.head?_map, he]; rfl
            rwa [List.head?_take, if_neg (by omega)] at first
    · cases ok

/-- A TABLE_ENTRY that reaches the receiver has its fields in range (R191). -/
theorem entryInRange_of_slotPart {o : List Byte} {id index : Nat} {e : Entry}
    (h : slotPart o = .message (.tableEntry id index e)) : entryInRange e = true := by
  have targeted_ne (m : Carrier → LacMsg) (hm : ∀ c, m c ≠ .tableEntry id index e) :
      targeted o m ≠ .message (.tableEntry id index e) := by
    unfold targeted
    split
    · exact fun k => hm _ (SlotPart.message.inj k)
    · exact SlotPart.noConfusion
  unfold slotPart at h
  simp only at h
  split at h
  case h_7 =>
    split at h
    · cases h
      assumption
    · cases h
  case h_2 | h_3 | h_4 | h_6 => exact absurd h (targeted_ne _ fun _ => LacMsg.noConfusion)
  all_goals cases h

/-- An order that no check refuses names a profile of the Active Table (R70 check 3). -/
theorem target_of_accepted {s : State} {c : Carrier} {target : Nat} {pair : Bool}
    (h : s.orderRefusal c target pair = none) : target < s.nUsed := by
  unfold State.orderRefusal at h
  split_ifs at h
  omega

theorem part_of_decodeSlot {c : Carrier} {o : List Byte} {slot : Slot} (h : decodeSlot c o = some slot) :
    slot.part = slotPart o := by
  unfold decodeSlot at h
  split at h
  · cases h
  · split at h <;> cases h
    rfl

namespace Profiled

variable {due : Bool} {s : State} {c : Carrier}

/-! ### The timebase -/

/-- A boundary at which the timebase has changed its state and its wire (R3, R4). -/
theorem boundaryAfterState (h : Profiled false s) {f : Timebase → Timebase} {v : Bool} :
    Profiled false (Machine.boundary (Machine.setTimebaseWire v (Machine.modTimebase f s))) :=
  h.modTimebase.setTimebaseWire.boundary

theorem internalBoundary (h : Profiled false s) : Profiled false (internalBoundary s) := by
  unfold Machine.internalBoundary
  exact ite (fun _ => h.modTimebase) fun _ => h.boundary

theorem actWhenDue (h : Profiled false s) : Profiled false (actWhenDue s) := by
  unfold Machine.actWhenDue
  refine ite (fun _ => ?_) fun _ => h
  split
  · exact h.boundaryAfterState
  · exact h.internalBoundary

theorem tick (h : Profiled false s) : Profiled false (tick s) := by
  obtain ⟨f, e, -⟩ := tick_eq s
  rw [e]
  exact h.modTimebase.actWhenDue

theorem takeStrobe (h : Profiled false s) : Profiled false (takeStrobe s) := by
  unfold Machine.takeStrobe
  split
  · exact h.boundaryAfterState
  · exact ite (fun _ => h.modTimebase) fun _ => h.boundary

/-! ### Resets and the start-up -/

/-- A part all of whose carriers have just been reset, with a table that may be in service. -/
theorem of_reset {t : State} {table : List Entry} {sets : Four (BitVec 16)} {r : Carrier → CarrierRecord}
    {x : Carrier → CarrierStats} (valid : tableInService table = true) (ht : t.tables = TableStore.afterReset table sets)
    (hc : ∀ d, t.car d = CarrierState.afterReset (r d) (x d)) : Profiled false t := by
  have lawful := lawfulTables_afterReset valid sets
  have pos : 0 < t.nUsed := by
    rw [State.nUsed, ht]
    exact ((tableInService_iff _).1 valid).1.1
  refine ⟨ht ▸ lawful, fun d => ?_, fun d => ?_⟩
  · rw [hc]
    exact Tac.below_of_noOrder pos rfl rfl
  · rw [hc]
    exact Rac.below_of_unarmed pos rfl

theorem resetBlocks (h : Profiled due s) : Profiled false (resetBlocks s) := by
  refine of_reset h.tables.active (sets := s.tables.enableSets) ?_ (car_resetBlocks s)
  unfold Machine.resetBlocks
  rw [closeFadesAtReset_eq]
  rfl

theorem startUp (h : Profiled due s) : Profiled due (startUp s) := by
  have wires : Profiled due (if (Machine.setTimebaseWire true s).settings.storeValid then Machine.setTimebaseWire true s
      else Machine.setStoreWire true (Machine.setTimebaseWire true s)) :=
    ite (fun _ => h.setTimebaseWire) fun _ => h.setTimebaseWire.setStoreWire
  exact foldl (fun _ _ g => ite (fun _ => g.haltedEntry) fun _ => g) _ wires

theorem restartEffect (h : Profiled due s) : Profiled false (restartEffect s) := h.resetBlocks.startUp

end Profiled

/-- The table of a valid image may be in service (R184). -/
theorem readImage_table {b : List Byte} {i : Image} (h : readImage b = some i) : tableInService i.active = true := by
  unfold readImage at h
  simp only at h
  split at h
  · rename_i valid
    split at h
    · split at h <;> cases h
      simp only [Bool.and_eq_true] at valid
      exact valid.2
    · cases h
  · cases h

/-- After a power-on reset law 12 holds whatever came before (R187). -/
theorem powerOn_profiled (s : State) : Profiled false (powerOn s) := by
  have taken {i : Image} (table : tableInService i.active = true) (valid : Bool) :
      Profiled false (startUp (powerOnWith i valid s.nvmAtReset s)) :=
    (Profiled.of_reset (t := powerOnWith i valid s.nvmAtReset s) (r := i.records.get) (x := fun _ => CarrierStats.zero)
      table rfl fun d => Four.get_map _ _ d).startUp
  unfold powerOn
  split
  · exact taken (readImage_table ‹_›) true
  · exact taken (by decide) false

namespace Profiled

variable {due : Bool} {s : State} {c : Carrier}

/-! ### Orders and reports -/

theorem setArmed (h : Profiled due s) {pair : Bool} {a : Option ArmedOrder} (below : ∀ x ∈ a, x.target < s.nUsed) :
    Profiled due (setArmed c pair a s) := by
  have own : Profiled due (Machine.modRac c (fun r => { r with armed := a }) s) := h.modRac fun held => ⟨held.1, below⟩
  unfold Machine.setArmed
  exact ite (fun _ => own.modRac fun held => ⟨held.1, below⟩) fun _ => own

theorem acceptOrder (h : Profiled due s) {id target : Nat} {pair : Bool} (below : target < s.nUsed) :
    Profiled due (acceptOrder c id target pair s) := by
  have fresh {u : State} (g : Profiled due u) (lt : target < u.nUsed) : Profiled due
      (Machine.placeMessage (.v c) (.confirm c id target) (Machine.setArmed c pair (some ⟨id, target, pair⟩)
        (Machine.emit (.armRx (orderMask c pair) (u.entry target).modulation (u.entry target).code)
          (Machine.modRacStats (u.gov c) (fun x => { x with accepted := count32 x.accepted }) u)))) := by
    refine placeMessage (setArmed g.modRacStats.emit ?_)
    rintro _ ⟨⟩
    exact lt
  unfold Machine.acceptOrder
  simp only
  split
  · exact fresh h below
  · exact ite (fun _ => h.modRacStats.placeMessage) fun _ => fresh h.modRacStats below

theorem takeOrder (h : Profiled due s) {id target : Nat} {pair : Bool} : Profiled due (takeOrder c id target pair s) := by
  have forgotten : Profiled due (if s.isUpper c then s
      else Machine.modRac c (fun r => { r with lastCancelled := none, lastSwitched := none }) s) :=
    ite (fun _ => h) fun _ => h.modRac
  unfold Machine.takeOrder
  refine ite (fun _ => h.modRacStats) fun _ => ?_
  revert forgotten
  generalize (if s.isUpper c then s
    else Machine.modRac c (fun r => { r with lastCancelled := none, lastSwitched := none }) s) = u
  intro g
  simp only
  split
  · exact g.modRacStats.placeMessage
  · exact g.acceptOrder (target_of_accepted ‹_›)

theorem takeCancel (h : Profiled due s) {id : Nat} {pair : Bool} : Profiled due (takeCancel c id pair s) := by
  unfold Machine.takeCancel
  refine ite (fun _ => h) fun _ => ?_
  simp only
  split
  · exact h.modRac
  · exact ite (fun _ => modRac (setArmed h.modRacStats.emit (by simp))) fun _ => h.modRac

theorem lateResponse (h : Profiled due s) : Profiled due (lateResponse c s) := h.modTacStats

theorem takeConfirm (h : Profiled due s) {id target : Nat} : Profiled due (takeConfirm c id target s) := by
  unfold Machine.takeConfirm
  refine ite (fun _ => h) fun _ => ite (fun _ => h.lateResponse) fun _ => ?_
  split
  · exact h.lateResponse
  · rename_i o held
    refine ite (fun _ => ite (fun ordered => mirrorOrder (h.modTac fun below => ?_)) fun _ => h.modTacStats)
      fun _ => h.lateResponse
    obtain ⟨current, target, isOpen⟩ := below
    exact ⟨current, target, isOpen.trans (by simp [Tac.isOpen, ordered])⟩

theorem takeRefuse (h : Profiled due s) {id reason : Nat} : Profiled due (takeRefuse c id reason s) := by
  unfold Machine.takeRefuse
  refine ite (fun _ => h) fun _ => ite (fun _ => h.lateResponse) fun _ => ?_
  split
  · exact h.lateResponse
  · exact ite (fun _ => h.clearPlace.closeOrder.placeNotice.modTacStats) fun _ => h.lateResponse

/-- A toggle makes the armed profile the current one (R74). -/
theorem takeToggle (h : Profiled due s) : Profiled due (takeToggle c s) := by
  unfold Machine.takeToggle
  split
  · exact h.modRacStats
  · rename_i a armed
    have switched : Profiled due
        (Machine.modRac c (fun r => { r with current := a.target, armed := none, advice := a.target, hold := 0 }) s) :=
      h.modRac fun below => Rac.below_of_unarmed (below.2 a armed) rfl
    exact switched.modRac.modCar.placeNotice

theorem takeReport (h : Profiled due s) {r : Report} : Profiled due (takeReport c r s) := by
  unfold Machine.takeReport
  exact ite (fun _ => h.modEst.modRac.takeToggle) fun _ => h.modEst.modRac

theorem discardRecord (h : Profiled due s) : Profiled due (discardRecord s) := h.of_same rfl rfl

theorem takeFrameReport (h : Profiled due s) {carrier frameIndex flags snrA snrB rslA rslB : Byte} :
    Profiled due (takeFrameReport carrier frameIndex flags snrA snrB rslA rslB s) := by
  unfold Machine.takeFrameReport
  split
  · exact h.discardRecord
  · refine ite (fun _ => ?_) fun _ => h.discardRecord
    unfold attributeReport acceptReport
    exact ite (fun _ => h) fun _ => ite (fun _ => h.modStats) fun _ => h.modCar.takeReport

/-! ### The transfer -/

theorem claimPending (h : Profiled due s) : Profiled due (claimPending s) :=
  h.withPlaces placesLaw_absent .incomplete .transfer

/-- A received entry is in range, and the entry of place 0 is a base entry (R39, R46). -/
theorem writeReceived (h : Profiled due s) (i : Nat) {e : Entry} (range : entryInRange e = true) :
    Profiled due (writeReceived i e s) := by
  obtain ⟨active, digest, scheduled, work, places⟩ := h.tables
  refine h.modTables ⟨active, digest, scheduled, work, places.set ?_ fun first => ?_⟩
  · split
    · obtain ⟨-, -, thr, hyst⟩ := (entryInRange_iff e).1 range
      exact (entryInRange_iff _).2 ⟨by simp, by simp, thr, hyst⟩
    · exact range
  · rw [if_pos first]
    exact ⟨rfl, rfl⟩

theorem releasePending (h : Profiled due s) {x : Completeness} : Profiled due (releasePending x s) :=
  h.withPlaces h.tables.places x .host

theorem concludeReception (h : Profiled due s) {id result : Nat} : Profiled due (concludeReception id result s) :=
  h.placeMessage.modReceiver.placeNotice

theorem startReception (h : Profiled due s) {id : Nat} {e : Entry} (range : entryInRange e = true) :
    Profiled due (startReception id e s) :=
  placeMessage (modReceiver (h.claimPending.writeReceived 0 range))

theorem refuseReception (h : Profiled due s) {id : Nat} : Profiled due (refuseReception id s) :=
  h.releasePending.concludeReception

theorem staleAtReceiver (h : Profiled due s) : Profiled due (staleAtReceiver s) := h.modReceiver

theorem takeEntry (h : Profiled due s) {id index : Nat} {e : Entry} (range : entryInRange e = true) :
    Profiled due (takeEntry id index e s) := by
  unfold Machine.takeEntry
  split
  · exact ite (fun _ => ite (fun _ => (h.writeReceived index range).modReceiver.placeMessage) fun _ => h.placeMessage)
      fun _ => ite (fun _ => h.staleAtReceiver) fun _ => ite (fun _ => h.startReception range)
        fun _ => h.refuseReception.concludeReception
  · exact ite (fun _ => ite (fun _ => h.startReception range) fun _ => h.concludeReception) fun _ => h.staleAtReceiver

/-- An apply is scheduled only after the checks of R47 (R52). -/
theorem scheduleApply (h : Profiled due s) {n : Nat} {entries : List Entry} (ok : s.applyChecks n = .ok entries) :
    Profiled due (scheduleApply entries s) :=
  h.withScheduled (by
    rintro _ ⟨⟩
    exact tableInService_of_applyChecks h.tables.places ok)

theorem wholeTableResult (h : Profiled due s) {count : Nat} : Profiled due (wholeTableResult count s).2 := by
  unfold Machine.wholeTableResult
  split
  · split
    · exact h.scheduleApply ‹_›
    all_goals exact h
  · exact h

theorem takeEnd (h : Profiled due s) {id count : Nat} {check : Word16} : Profiled due (takeEnd id count check s) := by
  unfold Machine.takeEnd
  split
  · exact ite (fun _ => ite (fun _ => h.releasePending.wholeTableResult.concludeReception)
      fun _ => h.releasePending.concludeReception) fun _ => h.staleAtReceiver
  · split
    · exact ite (fun _ => h.placeMessage) fun _ => h.staleAtReceiver
    · exact h.staleAtReceiver

theorem takeAbort (h : Profiled due s) {id : Nat} : Profiled due (takeAbort id s) := by
  unfold Machine.takeAbort
  exact ite (fun _ => h.releasePending.clearPlace.modReceiver.placeNotice) fun _ => h.staleAtReceiver

theorem takeAck (h : Profiled due s) {id k : Nat} : Profiled due (takeAck id k s) := by
  unfold Machine.takeAck
  split
  · exact h
  · exact ite (fun _ => ite (fun _ => h.modSender.placeMessage) fun _ => h.modSender.placeMessage) fun _ => h.modSender
  · exact h.modSender

theorem takeResult (h : Profiled due s) {id outcome : Nat} : Profiled due (takeResult id outcome s) := by
  unfold Machine.takeResult
  exact ite (fun _ => h) fun _ => ite (fun _ => h.modSender.clearPlace.placeNotice) fun _ => h.modSender

/-! ### Slots -/

theorem dispatch (h : Profiled due s) {part : SlotPart}
    (range : ∀ id index e, part = .message (.tableEntry id index e) → entryInRange e = true) :
    Profiled due (dispatch c part s) := by
  match part with
  | .empty => exact h
  | .badEntry => exact h.staleAtReceiver
  | .unknown => exact h.modLacStats (f := fun x => { x with unknown := count32 x.unknown })
  | .message (.order _ _ _ _) => exact h.takeOrder
  | .message (.cancel _ _ _) => exact h.takeCancel
  | .message (.confirm _ _ _) => exact h.takeConfirm
  | .message (.refuse _ _ _) => exact h.takeRefuse
  | .message (.tableEntry id index e) => exact h.takeEntry (range id index e rfl)
  | .message (.tableEnd _ _ _) => exact h.takeEnd
  | .message (.tableAbort _) => exact h.takeAbort
  | .message (.tableAck _ _) => exact h.takeAck
  | .message (.tableResult _ _) => exact h.takeResult

theorem takeReceipt (h : Profiled due s) {peer : LinkState} : Profiled due (takeReceipt c peer s) := by
  unfold Machine.takeReceipt
  have heard : Profiled due (Machine.modSup c (fun x => { x with miss := 0 }) s) := h.modSup
  simp only
  split
  · exact heard
  · exact heard
  · exact heard.modSupStats.enterActive
  · exact ite (fun _ => heard.haltedEntry) fun _ => heard
  · exact ite (fun _ => heard.haltedEntry) fun _ => heard.enterActive

theorem takeHeader (h : Profiled due s) {slot : Slot} : Profiled due (takeHeader c slot s) := by
  unfold Machine.takeHeader
  exact h.modLac.formMismatch.modRac.modTac

theorem takeSlotStages (h : Profiled due s) {slot : Slot}
    (range : ∀ id index e, slot.part = .message (.tableEntry id index e) → entryInRange e = true) :
    Profiled due (takeSlotStages c slot s) := by
  have received : Profiled due (Machine.takeReceipt c slot.link (takePeerRecords c slot s)) :=
    h.modLacStats.modLac.takeReceipt
  unfold Machine.takeSlotStages
  exact ite (fun _ => received.modLacStats) fun _ => received.takeHeader.dispatch range

theorem takeSlot (h : Profiled due s) {octets : List Byte} : Profiled due (takeSlot c octets s) := by
  unfold Machine.takeSlot
  simp only
  split
  · exact h.modLacStats
  · rename_i slot decoded
    have stages : Profiled due (Machine.takeSlotStages c slot s) := h.takeSlotStages fun _ _ _ part =>
      entryInRange_of_slotPart ((part_of_decodeSlot decoded).symm.trans part)
    split
    · exact h.modLacStats
    · exact h.modLacStats
    all_goals exact stages

theorem serveSlotRequest (h : Profiled due s) : Profiled due (serveSlotRequest c s) := by
  have rides (m : Placed) {u : State} (g : Profiled due u) : Profiled due (ride m u) := by
    rw [ride_eq]
    exact g.of_same rfl rfl
  have sent (m : Option LacMsg) : Profiled due (sendSlot c m s) := h.modLacStats.emit
  unfold Machine.serveSlotRequest
  split
  · exact h.modLacStats.emit
  · exact h.modLacStats.emit
  · exact sent none
  all_goals
    split
    · exact sent none
    · exact rides _ (sent _).modLacStats

theorem takeSlotIn (h : Profiled due s) {carrier : Byte} {octets : List Byte} :
    Profiled due (takeSlotIn carrier octets s) := by
  unfold Machine.takeSlotIn
  split
  · exact h.discardRecord
  · exact h.takeSlot

theorem takeSlotRequest (h : Profiled due s) {carrier : Byte} : Profiled due (takeSlotRequest carrier s) := by
  unfold Machine.takeSlotRequest
  split
  · exact h.discardRecord
  · exact h.serveSlotRequest

theorem takeRecord (h : Profiled due s) {record : List Byte} : Profiled due (takeRecord record s) := by
  unfold Machine.takeRecord
  simp only
  split
  · exact h.takeFrameReport
  · exact h.takeSlotIn
  · exact h.takeSlotRequest
  · exact h.discardRecord

end Profiled

end Sys2Proof.Machine
end

section
/-! SUPPORT. Law 12 over the requests, and over every command and step. -/

namespace Sys2Proof.Machine

/-- The entries of WRITE_PROFILES that pass its checks leave lawful places (R44). -/
theorem placesLaw_writePlaces {given : List (Nat × Entry)} {p : List (Option Entry)} {i : Nat} (h : PlacesLaw p)
    (fit : entriesFit i given = true) : PlacesLaw (writePlaces p i (given.map Prod.snd)) := by
  induction given generalizing p i with
  | nil => exact h
  | cons x rest ih =>
    obtain ⟨j, e⟩ := x
    simp only [entriesFit, Bool.and_eq_true, Bool.or_eq_true, bne_iff_ne, beq_iff_eq] at fit
    obtain ⟨⟨⟨-, range⟩, base⟩, fit⟩ := fit
    exact ih (h.set range fun first => base.resolve_left (not_not.2 first)) fit

namespace Profiled

variable {due : Bool} {s : State} {c : Carrier}

/-! ### SET_CARRIER, RESTART_CARRIER and SET_TIMEBASE -/

theorem changePairing (h : Profiled due s) {paired : Bool} : Profiled due (changePairing c paired s) := by
  rw [changePairing_spec]
  exact h.of_same rfl rfl

theorem recordPut (h : Profiled due s) {r : CarrierRecord} : Profiled due (raiseFloor c (putRecord c r s)) := by
  rw [recordPut_eq]
  exact h.of_one rfl rfl ⟨fun _ _ below => below, fun _ _ below => below⟩

theorem followEnabled (h : Profiled due s) : Profiled due (followEnabled c s) := by
  unfold Machine.followEnabled
  exact ite (fun _ => h.haltedEntry) fun _ => ite (fun _ => h.disabledEntry) fun _ => h

theorem takeSetCarrier (h : Profiled due s) {f : Frame} : Profiled due (takeSetCarrier f s) := by
  unfold Machine.takeSetCarrier
  split
  · exact ite (fun _ => ite (fun _ => h.reply) fun _ => h.changePairing.recordPut.followEnabled.reply) fun _ => h.reply
  · exact h.reply

theorem takeRestartCarrier (h : Profiled due s) {f : Frame} : Profiled due (takeRestartCarrier f s) := by
  unfold Machine.takeRestartCarrier
  split
  · exact h.reply
  · exact ite (fun _ => h.haltedEntry.reply) fun _ => h.reply

theorem takeSetTimebase (h : Profiled false s) {f : Frame} : Profiled false (takeSetTimebase f s) := by
  unfold Machine.takeSetTimebase
  exact ite (fun _ => h.reply.modTimebase.actWhenDue) fun _ => h.reply

/-! ### The requests that touch no carrier -/

theorem changeEnables (h : Profiled due s) {mask : Nat} {change : BitVec 16 → BitVec 16} :
    Profiled due (changeEnables mask change s) := by
  obtain ⟨active, digest, scheduled, work, places⟩ := h.tables
  exact h.modTables ⟨active, digest, scheduled, work, places⟩

theorem takeEnableProfiles (h : Profiled due s) {f : Frame} : Profiled due (takeEnableProfiles f s) :=
  ite (fun _ => h.changeEnables.reply) fun _ => h.reply

theorem takeDisableProfiles (h : Profiled due s) {f : Frame} : Profiled due (takeDisableProfiles f s) :=
  ite (fun _ => h.changeEnables.reply) fun _ => h.reply

theorem takeWriteProfiles (h : Profiled due s) {f : Frame} : Profiled due (takeWriteProfiles f s) := by
  unfold Machine.takeWriteProfiles
  refine ite (fun fits => ite (fun _ => h.reply) fun _ => reply (h.modTables ?_)) fun _ => h.reply
  simp only [Bool.and_eq_true] at fits
  obtain ⟨active, digest, scheduled, work, places⟩ := h.tables
  exact ⟨active, digest, scheduled, work, placesLaw_writePlaces places fits.2⟩

theorem takeApplyTable (h : Profiled due s) {f : Frame} : Profiled due (takeApplyTable f s) := by
  unfold Machine.takeApplyTable
  split
  case h_5 ok => exact (h.scheduleApply ok).reply
  all_goals exact h.reply

theorem takePushTable (h : Profiled due s) {f : Frame} : Profiled due (takePushTable f s) := by
  unfold Machine.takePushTable
  split
  · exact h.reply
  · refine ite (fun _ => ite (fun _ => ?_) fun _ => h.reply) fun _ => h.reply
    split
    · exact h.reply
    · exact h.modSender.placeMessage.reply

theorem takeAbortPush (h : Profiled due s) {f : Frame} : Profiled due (takeAbortPush f s) := by
  unfold Machine.takeAbortPush
  exact ite (fun _ => h.reply) fun _ => h.placeMessage.modSender.reply

theorem setRemote (h : Profiled due s) {write apply : Bool} : Profiled due (setRemote write apply s) := by
  unfold Machine.setRemote
  simp only
  split
  · exact ite (fun _ => h.modReceiver) fun _ => h.modReceiver.refuseReception
  · exact h.modReceiver

theorem takeSetRemote (h : Profiled due s) {f : Frame} : Profiled due (takeSetRemote f s) := by
  unfold Machine.takeSetRemote
  split
  · exact h.setRemote.reply
  · exact h.reply

theorem takeGetStats (h : Profiled due s) {f : Frame} : Profiled due (takeGetStats f s) := by
  unfold Machine.takeGetStats
  split
  · unfold giveStats
    exact ite (fun _ => h.reply.modStats) fun _ => h.reply
  · exact h.reply

theorem takeGetCarrier (h : Profiled due s) {f : Frame} : Profiled due (takeGetCarrier f s) := by
  unfold Machine.takeGetCarrier
  split
  · exact h.reply
  · exact h.reply.modEst

theorem takeReadProfiles (h : Profiled due s) {f : Frame} : Profiled due (takeReadProfiles f s) := by
  unfold Machine.takeReadProfiles
  split
  · exact h.reply
  · exact ite (fun _ => h.reply) fun _ => h.reply

theorem takeReadFades (h : Profiled due s) {f : Frame} : Profiled due (takeReadFades f s) := by
  unfold Machine.takeReadFades
  exact ite (fun _ => h.of_same rfl rfl) fun _ => h.reply

theorem takeSetNotices (h : Profiled due s) {f : Frame} : Profiled due (takeSetNotices f s) := by
  unfold Machine.takeSetNotices
  exact ite (fun _ => h.of_same rfl rfl) fun _ => h.reply

theorem takeSaveSettings (h : Profiled due s) {f : Frame} : Profiled due (takeSaveSettings f s) := by
  unfold Machine.takeSaveSettings
  exact ite (fun _ => h.of_same rfl rfl) fun _ => h.reply

theorem endWrite (h : Profiled due s) {readBack : List Byte} {tag : Byte} : Profiled due (endWrite readBack tag s) := by
  have written (f : Settings → Settings) : Profiled due (modSettings f s) := h.of_same rfl rfl
  unfold Machine.endWrite
  exact (written _).setStoreWire.modPort

theorem startNext (h : Profiled due s) : Profiled due (startNext s) := by
  unfold Machine.startNext
  split
  · exact h.modPort
  · split
    · exact ite (fun _ => h.of_same rfl rfl) fun _ => h.modPort
    · exact h.modPort
    · exact h.of_same rfl rfl
    · split <;> exact h.modPort

/-! ### Every command -/

/-- What `running` guards keeps the law when its effect does. -/
theorem running (h : Profiled due s) {g : State → State} {t : State} (e : running g s = .next t)
    (kept : Profiled due s → Profiled due (g s)) : Profiled due t := by
  unfold Machine.running at e
  split at e <;> cases e
  · exact h
  · exact kept h

/-- A request served by a rule that keeps the law. -/
theorem served (h : Profiled due s) {kind : Byte} {take : Frame → State → State} {t : State}
    (e : Machine.running (serve kind take) s = .next t) (kept : ∀ f u, Profiled due u → Profiled due (take f u)) :
    Profiled due t := by
  refine h.running e fun h => ?_
  have taken : Profiled due (dequeue s) := h.modPort
  unfold serve
  split
  · exact h
  · exact ite (fun _ => ite (fun _ => kept _ _ taken) fun _ => taken.reply) fun _ => h

end Profiled

/-- Every command keeps law 12. -/
theorem exec_profiled (i : Instr) {s t : State} (h : Profiled false s) (e : exec i s = .next t) : Profiled false t := by
  have recordTaken : Profiled false (recordTaken s) := h.of_same rfl rfl
  cases i with
  | powerOnReset =>
    cases e
    exact powerOn_profiled s
  | lineReset =>
    change execLineReset s = _ at e
    exact h.running e fun h => h.resetBlocks.of_same rfl rfl
  | resetRelease =>
    cases e
    have released : Profiled false { s with resetHeld := false } := h.of_same rfl rfl
    exact .ite (fun _ => released.startUp) fun _ => h
  | restartTakesEffect =>
    change execRestartTakesEffect s = _ at e
    exact h.running e fun h => .ite (fun _ => h.restartEffect) fun _ => h
  | sfsStrobe elapsed => exact h.modTimebase.running e Profiled.takeStrobe
  | supervisionExpiry =>
    change execSupervisionExpiry s = _ at e
    exact h.running e fun h => .ite (fun _ => h.boundaryAfterState) fun _ => h
  | internalBoundary =>
    cases e
    exact .ite (fun _ => h.internalBoundary) fun _ => h
  | branchLoss c =>
    change execBranchLoss c s = _ at e
    exact h.running e fun h => .ite (fun _ => h.judgeBranchLoss) fun _ => h
  | backoffExpiry c =>
    change execBackoffExpiry c s = _ at e
    exact h.running e fun h => .ite (fun _ => h.closeOrder.formAndOpen) fun _ => h
  | orderDeadline c =>
    change execOrderDeadline c s = _ at e
    exact h.running e fun h => .ite (fun _ => h.deadline) fun _ => h
  | armTx c =>
    change execArmTx c s = _ at e
    exact h.running e fun h => .ite (fun _ => h.armAtDeadline) fun _ => h
  | orderSwitch c =>
    change execOrderSwitch c s = _ at e
    refine h.running e fun h => ?_
    split
    · rename_i o _ committed
      exact (h.switchOrder (h.orderAt_lt committed)).formAndOpen
    · exact h
  | applyEffect =>
    change execApplyEffect s = _ at e
    exact h.running e fun h => .ite (fun _ => h.applyBoundary.of_same rfl rfl) fun _ => h
  | quietEntry c =>
    change execQuietEntry c s = _ at e
    exact h.running e fun h => .ite (fun _ => h.enterQuiet) fun _ => h
  | lockLossHalt c =>
    change execLockLossHalt c s = _ at e
    exact h.running e fun h => .ite (fun _ => h.haltedEntry) fun _ => h
  | silenceHalt c =>
    change execSilenceHalt c s = _ at e
    exact h.running e fun h => .ite (fun _ => h.haltedEntry) fun _ => h
  | holdoffExpiry c =>
    change execHoldoffExpiry c s = _ at e
    exact h.running e fun h => .ite (fun _ => h.enterSeeking) fun _ => h
  | seekTimeout c =>
    change execSeekTimeout c s = _ at e
    exact h.running e fun h => .ite (fun _ => h.haltedEntry) fun _ => h
  | ackWaitExpiry =>
    change execAckWaitExpiry s = _ at e
    exact h.running e fun h => .ite (fun _ => h.ackWaitExpired) fun _ => h
  | recordCutShort newOctets =>
    change execRecordCutShort newOctets s = _ at e
    unfold execRecordCutShort at e
    split at e
    · exact h.running e fun h => h.of_same rfl rfl
    · cases e
  | inboundRecordDiscarded record =>
    change execInboundRecordDiscarded record s = _ at e
    unfold execInboundRecordDiscarded at e
    split at e
    · exact h.running e fun _ => recordTaken.takeRecord
    · cases e
  | frameReport carrier frameIndex flags snrA snrB rslA rslB =>
    change execFrameReport carrier frameIndex flags snrA snrB rslA rslB s = _ at e
    exact h.running e fun _ => recordTaken.takeFrameReport
  | slotIn carrier octets =>
    change execSlotIn carrier octets s = _ at e
    unfold execSlotIn at e
    split at e
    · exact h.running e fun _ => recordTaken.takeSlotIn
    · cases e
  | slotRequest carrier =>
    change execSlotRequest carrier s = _ at e
    exact h.running e fun _ => recordTaken.takeSlotRequest
  | frameGapTimeout => exact h.running e fun h => h.modPort
  | badFrame octets => exact h.running e fun h => h.modPort
  | requestFrame octets => exact h.running e fun h => h.modPort
  | unknownKind =>
    change execUnknownKind s = _ at e
    refine h.running e fun h => ?_
    split
    · exact h
    · exact .ite (fun _ => h) fun _ => h.modPort.reply
  | frameTransmit =>
    change execFrameTransmit s = _ at e
    exact h.running e fun h => .ite (fun _ => h.restartEffect) fun _ => h.startNext
  | identify => exact h.served e fun _ _ g => g.reply
  | getStatus => exact h.served e fun _ _ g => g.of_same rfl rfl
  | getStats => exact h.served e fun _ _ g => g.takeGetStats
  | setTimebase elapsed => exact h.modTimebase.served e fun _ _ g => g.takeSetTimebase
  | getCarrier => exact h.served e fun _ _ g => g.takeGetCarrier
  | setCarrier => exact h.served e fun _ _ g => g.takeSetCarrier
  | restartCarrier => exact h.served e fun _ _ g => g.takeRestartCarrier
  | enableProfiles => exact h.served e fun _ _ g => g.takeEnableProfiles
  | disableProfiles => exact h.served e fun _ _ g => g.takeDisableProfiles
  | writeProfiles => exact h.served e fun _ _ g => g.takeWriteProfiles
  | readProfiles => exact h.served e fun _ _ g => g.takeReadProfiles
  | applyTable => exact h.served e fun _ _ g => g.takeApplyTable
  | pushTable => exact h.served e fun _ _ g => g.takePushTable
  | abortPush => exact h.served e fun _ _ g => g.takeAbortPush
  | setRemote => exact h.served e fun _ _ g => g.takeSetRemote
  | readFades => exact h.served e fun _ _ g => g.takeReadFades
  | setNotices => exact h.served e fun _ _ g => g.takeSetNotices
  | saveSettings => exact h.served e fun _ _ g => g.takeSaveSettings
  | saveWriteEnd readBack =>
    change execSaveWriteEnd readBack s = _ at e
    refine h.running e fun h => ?_
    split
    · exact h.endWrite
    · exact h
  | restart => exact h.served e fun _ _ g => g.reply.modPort

/-- Settles O11: each command keeps law 12, and so does the microsecond that passes when none waits. -/
theorem stepKeepsProfileLaw : Obligations.StepKeepsProfileLaw := by
  intro s t law e
  rw [profileLaw_iff] at law ⊢
  cases waiting : s.pending with
  | nil =>
    rw [step_idle waiting] at e
    cases e
    exact law.tick
  | cons i rest =>
    unfold step at e
    rw [waiting] at e
    exact exec_profiled i (s := { s with pending := rest }) (law.of_same rfl rfl) e

end Sys2Proof.Machine
end

section
/-! SUPPORT. The settings image (R184): what its octets hold, and which images are read. -/

namespace Sys2Proof.Machine

/-! ### Booleans and enumerations as octets -/

theorem octet_of_natAt {b : List Byte} {i : Nat} {x : Byte} (h : natAt b i = x.toNat) : b.getD i 0 = x :=
  BitVec.eq_of_toNat_eq h

theorem boolAt_eq_some_iff {b : List Byte} {i : Nat} {x : Bool} : boolAt b i = some x ↔ b.getD i 0 = boolByte x := by
  refine ⟨fun h => octet_of_natAt ?_, fun h => boolAt_of_octet (by rw [natAt, h])⟩
  unfold boolAt at h
  split_ifs at h with h0 h1 <;> cases h
  · exact h0
  · exact h1

theorem exists_boolAt_iff {b : List Byte} {i : Nat} : (∃ x, boolAt b i = some x) ↔ (b.getD i 0).toNat ≤ 1 := by
  change _ ↔ natAt b i ≤ 1
  unfold boolAt
  split_ifs with h0 h1
  · simp [h0]
  · simp [h1]
  · simp
    omega

theorem diversityAt_octet {b : List Byte} {i : Nat} {x : DiversityMode} (h : diversityAt b i = some x) :
    x.toByte = b.getD i 0 := by
  refine (octet_of_natAt ?_).symm
  unfold diversityAt at h
  split_ifs at h <;> cases h <;> assumption

theorem adaptAt_octet {b : List Byte} {i : Nat} {x : AdaptMode} (h : adaptAt b i = some x) : x.toByte = b.getD i 0 := by
  refine (octet_of_natAt ?_).symm
  unfold adaptAt at h
  split_ifs at h <;> cases h <;> assumption

theorem byteOf_natAt (b : List Byte) (i : Nat) : byteOf (natAt b i) = b.getD i 0 := BitVec.eq_of_toNat_eq (by
  simp [byteOf, natAt])

theorem byteOfInt_intAt (b : List Byte) (i : Nat) : byteOfInt (intAt b i) = b.getD i 0 := BitVec.ofInt_toInt

theorem nat16_nat16At (b : List Byte) (i : Nat) : nat16 (nat16At b i) = [b.getD i 0, b.getD (i + 1) 0] := by
  have low := (b.getD (i + 1) 0).isLt
  have high : byteOf (nat16At b i / 256) = byteOf (natAt b i) := congrArg byteOf (by simp only [nat16At, natAt]; omega)
  have rest : byteOf (nat16At b i) = byteOf (natAt b (i + 1)) := BitVec.eq_of_toNat_eq (by
    simp [byteOf, nat16At, Nat.add_mod])
  rw [nat16_eq, high, rest, byteOf_natAt, byteOf_natAt]

/-! ### The octets of a record in an image -/

/-- The `n` octets from octet `k`. -/
def octetsFrom (b : List Byte) (k n : Nat) : List Byte := (List.range n).map fun j => b.getD (k + j) 0

theorem octetsFrom_eq {b : List Byte} {k n : Nat} (h : k + n ≤ b.length) : octetsFrom b k n = (b.drop k).take n := by
  refine List.ext_getElem (by simp [octetsFrom]; omega) fun j hj hj' => ?_
  simp only [octetsFrom, List.length_map, List.length_range] at hj
  simp [octetsFrom, List.getElem?_eq_getElem (show k + j < b.length by omega)]

theorem getD_octetsFrom (b : List Byte) (k : Nat) {n j : Nat} (h : j < n) :
    (octetsFrom b k n).getD j 0 = b.getD (k + j) 0 := by
  simp [octetsFrom, h]

/-- A record's octets are those it is read from. -/
theorem recordOctets_of_recordAt {b : List Byte} {k : Nat} {paired : Bool} {r : CarrierRecord}
    (h : recordAt b k = some (paired, r)) : recordOctets paired r = octetsFrom b k 26 := by
  unfold recordAt at h
  split at h
  · rename_i enabled pairing diversity adapt
    cases h
    have range : octetsFrom b k 26 = [0, 1, 2, 3, 4, 5, 6, 7, 8, 9, 10, 11, 12, 13, 14, 15, 16, 17, 18, 19, 20, 21, 22, 23,
      24, 25].map fun j => b.getD (k + j) 0 := rfl
    rw [range, recordOctets, ← boolAt_eq_some_iff.1 enabled, ← boolAt_eq_some_iff.1 pairing, diversityAt_octet diversity,
      adaptAt_octet adapt]
    simp only [byteOf_natAt, byteOfInt_intAt, nat16_nat16At]
    rfl
  · cases h

/-- A record is read from twenty-six octets alone. -/
theorem recordAt_congr {b b' : List Byte} {k k' : Nat} (h : ∀ j, j < 26 → b.getD (k + j) 0 = b'.getD (k' + j) 0) :
    recordAt b k = recordAt b' k' := by
  have nat (j : Nat) (hj : j < 26) : natAt b (k + j) = natAt b' (k' + j) := congrArg BitVec.toNat (h j hj)
  have int (j : Nat) (hj : j < 26) : intAt b (k + j) = intAt b' (k' + j) := congrArg BitVec.toInt (h j hj)
  have first := nat 0 (by decide)
  simp only [Nat.add_zero] at first
  simp only [recordAt, boolAt, diversityAt, adaptAt, nat16At, Nat.add_assoc, Nat.reduceAdd, nat, int, Nat.reduceLT, first]

/-- A record in range is read where its octets stand, and nowhere else. -/
theorem recordAt_iff {b : List Byte} {k : Nat} {paired : Bool} {r : CarrierRecord} (range : recordInRange r = true) :
    recordAt b k = some (paired, r) ↔ octetsFrom b k 26 = recordOctets paired r := by
  refine ⟨fun h => (recordOctets_of_recordAt h).symm, fun h => ?_⟩
  rw [← recordAt_recordOctets (fitsOctets_of_inRange range) 0 paired]
  refine recordAt_congr fun j hj => ?_
  rw [← getD_octetsFrom b k hj, h, Nat.add_comm, List.getD_cons_succ]

theorem boolByte_injective {x y : Bool} (h : boolByte x = boolByte y) : x = y := by
  revert x y
  decide

theorem recordOctets_paired (paired : Bool) (r : CarrierRecord) : (recordOctets paired r).getD 1 0 = boolByte paired := rfl

/-! ### The table of an image -/

theorem imageEntries_eq (b : List Byte) (k n : Nat) : imageEntries b k n = (List.range n).map fun j =>
    ⟨natAt b (k + 5 * j), natAt b (k + 1 + 5 * j), nat16At b (k + 2 + 5 * j), natAt b (k + 4 + 5 * j)⟩ := by
  induction n generalizing k with
  | zero => rfl
  | succ n ih =>
    rw [imageEntries, ih, List.range_succ_eq_map, List.map_cons, List.map_map]
    refine congrArg₂ _ rfl (List.map_congr_left fun j _ => ?_)
    simp only [Function.comp, Nat.mul_succ, Nat.add_assoc, Nat.add_comm, Nat.add_left_comm]

/-- Of a table whose hyst fields are octets: when it may be in service. -/
theorem tableInService_octets {t : List Entry} (hyst : ∀ e ∈ t, e.hyst ≤ 255) : tableInService t = true ↔
    (1 ≤ t.length ∧ t.length ≤ 16) ∧ (∀ e, t[0]? = some e → e.modulation = 0 ∧ e.code = 0) ∧
    (∀ j x y, t[j]? = some x → t[j + 1]? = some y →
      x.thr < y.thr ∧ y.hyst ≤ y.thr - x.thr ∧ y.modulation ≤ 10 ∧ y.code ≤ 7) ∧ ∀ e ∈ t, e.thr ≤ 1020 := by
  rw [tableInService_iff, firstOffending_none_iff, List.head?_eq_getElem?]
  refine and_congr_right fun size => ⟨fun ⟨range, follows, base⟩ => ⟨base, fun j x y hx hy => ?_, fun e he => ?_⟩,
    fun ⟨base, follows, thr⟩ => ⟨fun e he => ?_, fun j ⟨x, y, hx, hy, offends⟩ => ?_, base⟩⟩
  · have ok : entryFollows x y = true := by
      by_contra h
      exact follows j ⟨x, y, hx, hy, by simpa using h⟩
    rw [entryFollows_iff] at ok
    omega
  · exact ((entryInRange_iff e).1 (range e he)).2.2.1
  · obtain ⟨j, hj⟩ := List.getElem?_of_mem he
    rw [entryInRange_iff]
    refine and_assoc.1 ⟨?_, thr e he, hyst e he⟩
    cases j with
    | zero => simp [base e hj]
    | succ j =>
      have before : j < t.length := by
        have := (List.getElem?_eq_some_iff.1 hj).1
        omega
      exact (follows j _ e (List.getElem?_eq_getElem before) hj).2.2
  · refine absurd ((entryFollows_iff x y).2 ?_) (by simp [offends])
    have := follows j x y hx hy
    omega

/-! ### What is read -/

/-- The octets of an image hold the settings `x`, their records from octet `i`: a length that fits, a table that may be in
service, records in range and booleans (R184). -/
structure ImageHeld (b : List Byte) (i : Nat) (x : Image) : Prop where
  length : b.length = i + 119
  active : x.active = imageEntries b 2 (natAt b 1)
  table : tableInService x.active = true
  records : ∀ c : Carrier, recordAt b (i + 26 * c.val) =
    some (if c.val < 2 then x.pairedA else x.pairedB, x.records.get c)
  range : ∀ c : Carrier, recordInRange (x.records.get c) = true
  enableSets : ∀ c : Carrier, x.enableSets.get c = word16At b (i + 104 + 2 * c.val) ||| 1
  noticeEnable : x.noticeEnable = (word16At b (i + 112)).setWidth 10
  alertEnable : x.alertEnable = (b.getD (i + 114) 0).setWidth 6
  remoteWrite : boolAt b (i + 115) = some x.remoteWrite
  remoteApply : boolAt b (i + 116) = some x.remoteApply

theorem four_eq {α : Type} {v w : Four α} (h : ∀ c, v.get c = w.get c) : v = w := by
  obtain ⟨v0, v1, v2, v3⟩ := v
  obtain ⟨w0, w1, w2, w3⟩ := w
  rw [show v0 = w0 from h 0, show v1 = w1 from h 1, show v2 = w2 from h 2, show v3 = w3 from h 3]

theorem readImage_eq_some_iff {b : List Byte} {i : Nat} (hi : i = 2 + 5 * natAt b 1) (x : Image) :
    readImage b = some x ↔ imageIntact b = true ∧ ImageHeld b i x := by
  subst hi
  constructor
  · intro h
    unfold readImage at h
    simp only at h
    split at h
    · rename_i good
      simp only [Bool.and_eq_true, beq_iff_eq] at good
      obtain ⟨⟨intact, length⟩, table⟩ := good
      split at h
      · rename_i h0 h1 h2 h3 hw ha
        split at h
        · rename_i ranges
          simp only [Bool.and_eq_true, beq_iff_eq] at ranges
          obtain ⟨⟨⟨⟨⟨r0, r1⟩, r2⟩, r3⟩, rfl⟩, rfl⟩ := ranges
          cases h
          refine ⟨intact, length, rfl, table, fun c => ?_, fun c => ?_, fun c => ?_, rfl, rfl, hw, ha⟩
          · match c with
            | 0 => exact h0
            | 1 => exact h1
            | 2 => exact h2
            | 3 => exact h3
          · match c with
            | 0 => exact r0
            | 1 => exact r1
            | 2 => exact r2
            | 3 => exact r3
          · match c with
            | 0 => rfl
            | 1 => rfl
            | 2 => rfl
            | 3 => rfl
        · cases h
      · cases h
    · cases h
  · rintro ⟨intact, length, active, table, records, range, sets, notice, alert, write, apply⟩
    have sets : x.enableSets = ⟨word16At b (2 + 5 * natAt b 1 + 104) ||| 1, word16At b (2 + 5 * natAt b 1 + 106) ||| 1,
        word16At b (2 + 5 * natAt b 1 + 108) ||| 1, word16At b (2 + 5 * natAt b 1 + 110) ||| 1⟩ := four_eq fun c => by
      match c with
      | 0 => exact sets 0
      | 1 => exact sets 1
      | 2 => exact sets 2
      | 3 => exact sets 3
    have first : recordAt b (2 + 5 * natAt b 1) = some (x.pairedA, x.records.c0) := records 0
    have second : recordAt b (2 + 5 * natAt b 1 + 26) = some (x.pairedA, x.records.c1) := records 1
    have third : recordAt b (2 + 5 * natAt b 1 + 52) = some (x.pairedB, x.records.c2) := records 2
    have fourth : recordAt b (2 + 5 * natAt b 1 + 78) = some (x.pairedB, x.records.c3) := records 3
    have ranges : (recordInRange x.records.c0 = true ∧ recordInRange x.records.c1 = true) ∧
        recordInRange x.records.c2 = true ∧ recordInRange x.records.c3 = true :=
      ⟨⟨range 0, range 1⟩, range 2, range 3⟩
    have valid : imageTableValid (imageEntries b 2 (natAt b 1)) = true := active ▸ table
    unfold readImage
    simp only [first, second, third, fourth, write, apply, intact, length, valid, ranges, beq_self_eq_true, Bool.and_self,
      if_true]
    rw [← active, ← sets, ← notice, ← alert]

end Sys2Proof.Machine
end

section
/-! SUPPORT. POWER_ON_RESET (R184, R187): the part with the factory settings and with those of an image, and which images
are valid. -/

namespace Sys2Proof.Machine

/-! ### The part after power-on -/

/-- A mask of alarm kinds is known by the bits of the kinds (R190). -/
theorem bits_of_kinds {x y : BitVec 6} (h : ∀ k : AlarmKind, x.getLsbD k.index = y.getLsbD k.index) : x = y := by
  refine BitVec.eq_of_getLsbD_eq fun i hi => ?_
  match i, hi with
  | 0, _ => exact h .fade
  | 1, _ => exact h .link
  | 2, _ => exact h .diversity
  | 3, _ => exact h .mismatch
  | 4, _ => exact h .timebase
  | 5, _ => exact h .store

/-- The tables of the factory settings, their digest 0x3E2D among them (R42, R43, R53). -/
theorem factory_tables : TableStore.afterReset factoryImage.active factoryImage.enableSets = State.reset.tables := by
  decide +kernel

theorem powerOnWith_unstarted (i : Image) (valid : Bool) (nvm : List Byte) (s : State) :
    Unstarted (powerOnWith i valid nvm s) where
  carriers d := by
    rw [show (powerOnWith i valid nvm s).car d = .powerOn (i.records.get d) from Four.get_map _ _ d]
    rfl
  queue := rfl
  sender := rfl

/-- The part with the factory settings, started up, is the reset state but for what nonvolatile memory, the straps and the
queue hold (R187, R188). -/
theorem startUp_factory (nvm : List Byte) (s : State) : startUp (powerOnWith factoryImage false nvm s) = { State.reset with
    settings := { State.reset.settings with nvm }
    port := { State.reset.port with lineRate := s.straps.rate }
    straps := s.straps, choices := s.choices, pending := s.pending } := by
  obtain ⟨⟨device, enables, -⟩, started, outbound, announced, wires, lit⟩ :=
    startUp_reset (powerOnWith_unstarted factoryImage false nvm s) rfl rfl rfl
  have tables : (powerOnWith factoryImage false nvm s).tables = State.reset.tables := factory_tables
  generalize startUp (powerOnWith factoryImage false nvm s) = u at *
  have carriers : u.carriers = State.reset.carriers := four_eq fun d => (started d).trans (by
    match d with
    | 0 => rfl
    | 1 => rfl
    | 2 => rfl
    | 3 => rfl)
  have records : u.modem.outbound = State.reset.modem.outbound := outbound.trans rfl
  have collapsed : u.alarms.collapsed = State.reset.alarms.collapsed := bits_of_kinds fun k => (lit k).trans (by
    have on : ∃ c, (powerOnWith factoryImage false nvm s).enabled c = true := ⟨0, rfl⟩
    simp only [on, and_true]
    cases k <;> rfl)
  have alarms : u.alarms = State.reset.alarms := by
    obtain ⟨notice, alerts⟩ := enables
    have alert : u.alarms.alert = true := by
      rw [announced.alert, collapsed, alerts]
      exact (by decide : (0b110010#6 &&& 0b111010#6 != 0) = true)
    have fields : u.alarms = ⟨u.alarms.timebaseWire, u.alarms.storeWire, u.alarms.collapsed, u.alarms.alert,
      u.alarms.noticeEnable, u.alarms.alertEnable⟩ := rfl
    rw [fields, wires.1, wires.2, collapsed, alert, notice, alerts]
    rfl
  have port : u.port = { State.reset.port with lineRate := s.straps.rate } := by
    rw [announced.port]
    simp only [State.collapsedWire, alarms]
    rfl
  rw [device, carriers, records, alarms, port, announced.high]
  simp only [powerOnWith] at tables ⊢
  rw [tables]
  rfl
/-- The part with the settings of a valid image, started up (R187, R188). -/
theorem startUp_image (i : Image) (nvm : List Byte) (s : State) :
    ∃ u, startUp (powerOnWith i true nvm s) = u ∧ ResetPart (powerOnWith i true nvm s) u ∧
      u.alarms.timebaseWire = true ∧ u.alarms.storeWire = false ∧ u.resetHeld = false := by
  obtain ⟨part, -, -, announced, ⟨timebase, store⟩, -⟩ :=
    startUp_reset (powerOnWith_unstarted i true nvm s) rfl rfl rfl
  exact ⟨_, rfl, part, timebase, store, announced.high⟩

/-! ### Which images are valid -/

theorem imageIntact_iff (b : List Byte) : imageIntact b = true ↔
    2 ≤ b.length ∧ b.drop (b.length - 2) = bytes16 (crc16 (b.take (b.length - 2))) ∧ b.getD 0 0 = 1 := by
  simp only [imageIntact, Bool.and_eq_true, decide_eq_true_eq, beq_iff_eq, and_assoc]
  exact and_congr_right fun _ => and_congr eq_comm ⟨fun one => octet_of_natAt one, fun one => congrArg BitVec.toNat one⟩

/-- The table that an image's octets spell, entry by entry. -/
theorem imageTable_eq (b : List Byte) (n : Nat) : (List.range n).map (fun j =>
    (⟨(b.getD (2 + 5 * j) 0).toNat, (b.getD (3 + 5 * j) 0).toNat,
      256 * (b.getD (4 + 5 * j) 0).toNat + (b.getD (5 + 5 * j) 0).toNat, (b.getD (6 + 5 * j) 0).toNat⟩ : Entry)) =
    imageEntries b 2 n := by
  rw [imageEntries_eq]
  refine List.map_congr_left fun j _ => ?_
  have low : 2 + 2 + 5 * j + 1 = 5 + 5 * j := by omega
  rw [nat16At, low]
  rfl

theorem hyst_imageEntries (b : List Byte) (k n : Nat) : ∀ e ∈ imageEntries b k n, e.hyst ≤ 255 := by
  rw [imageEntries_eq]
  intro e he
  obtain ⟨j, -, rfl⟩ := List.mem_map.1 he
  exact Nat.le_of_lt_succ (b.getD (k + 4 + 5 * j) 0).isLt

/-- The octets of record `j` of an image whose records begin at octet `i`. -/
def recordWindow (b : List Byte) (i j : Nat) : List Byte := (b.drop (i + 26 * j)).take 26

/-- The records of R184 that an image may hold: in range, and the two of each position alike in paired. -/
def RecordsValid (b : List Byte) (i : Nat) : Prop :=
  (∀ j, j < 4 → ∃ paired r, recordWindow b i j = recordOctets paired r ∧ recordInRange r = true) ∧
    (recordWindow b i 0).getD 1 0 = (recordWindow b i 1).getD 1 0 ∧
    (recordWindow b i 2).getD 1 0 = (recordWindow b i 3).getD 1 0

theorem recordWindow_eq {b : List Byte} {i : Nat} (length : b.length = i + 119) {j : Nat} (hj : j < 4) :
    recordWindow b i j = octetsFrom b (i + 26 * j) 26 := (octetsFrom_eq (by omega)).symm

theorem ImageHeld.recordWindow_eq {b : List Byte} {i : Nat} {x : Image} (h : ImageHeld b i x) (c : Carrier) :
    recordWindow b i c.val = recordOctets (if c.val < 2 then x.pairedA else x.pairedB) (x.records.get c) :=
  (Machine.recordWindow_eq h.length c.isLt).trans (recordOctets_of_recordAt (h.records c)).symm

theorem ImageHeld.recordsValid {b : List Byte} {i : Nat} {x : Image} (h : ImageHeld b i x) : RecordsValid b i := by
  refine ⟨fun j hj => ⟨_, _, h.recordWindow_eq ⟨j, hj⟩, h.range _⟩, ?_, ?_⟩
  · rw [show recordWindow b i 0 = _ from h.recordWindow_eq 0, show recordWindow b i 1 = _ from h.recordWindow_eq 1]
    rfl
  · rw [show recordWindow b i 2 = _ from h.recordWindow_eq 2, show recordWindow b i 3 = _ from h.recordWindow_eq 3]
    rfl

/-- Valid records are read, the two of a position with one paired field. -/
theorem RecordsValid.read {b : List Byte} {i : Nat} (length : b.length = i + 119) (h : RecordsValid b i) :
    ∃ (pairedA pairedB : Bool) (v : Four CarrierRecord), ∀ c : Carrier,
      recordAt b (i + 26 * c.val) = some (if c.val < 2 then pairedA else pairedB, v.get c) ∧
        recordInRange (v.get c) = true := by
  obtain ⟨records, alikeA, alikeB⟩ := h
  obtain ⟨p0, r0, e0, g0⟩ := records 0 (by decide)
  obtain ⟨p1, r1, e1, g1⟩ := records 1 (by decide)
  obtain ⟨p2, r2, e2, g2⟩ := records 2 (by decide)
  obtain ⟨p3, r3, e3, g3⟩ := records 3 (by decide)
  have read {j : Nat} (hj : j < 4) {paired : Bool} {r : CarrierRecord} (e : recordWindow b i j = recordOctets paired r)
      (g : recordInRange r = true) : recordAt b (i + 26 * j) = some (paired, r) ∧ recordInRange r = true :=
    ⟨(recordAt_iff g).2 ((recordWindow_eq length hj).symm.trans e), g⟩
  rw [e0, e1, recordOctets_paired, recordOctets_paired] at alikeA
  rw [e2, e3, recordOctets_paired, recordOctets_paired] at alikeB
  obtain rfl := boolByte_injective alikeA
  obtain rfl := boolByte_injective alikeB
  refine ⟨p0, p2, ⟨r0, r1, r2, r3⟩, fun c => ?_⟩
  match c with
  | 0 => exact read (by decide) e0 g0
  | 1 => exact read (by decide) e1 g1
  | 2 => exact read (by decide) e2 g2
  | 3 => exact read (by decide) e3 g3

/-- The images that are read, as R184 judges them (log 41 for the length, the thr and the permission octets). -/
theorem exists_imageHeld_iff {b : List Byte} {i : Nat} {table : List Entry} (ht : table = imageEntries b 2 (natAt b 1)) :
    (∃ x, ImageHeld b i x) ↔ b.length = i + 119 ∧ tableInService table = true ∧ RecordsValid b i ∧
      (b.getD (i + 115) 0).toNat ≤ 1 ∧ (b.getD (i + 116) 0).toNat ≤ 1 := by
  constructor
  · rintro ⟨x, h⟩
    exact ⟨h.length, ht ▸ h.active ▸ h.table, h.recordsValid, exists_boolAt_iff.1 ⟨_, h.remoteWrite⟩,
      exists_boolAt_iff.1 ⟨_, h.remoteApply⟩⟩
  · rintro ⟨length, valid, records, write, apply⟩
    obtain ⟨pairedA, pairedB, v, read⟩ := records.read length
    obtain ⟨remoteWrite, hw⟩ := exists_boolAt_iff.2 write
    obtain ⟨remoteApply, ha⟩ := exists_boolAt_iff.2 apply
    refine ⟨{ active := table, records := v, pairedA, pairedB
              enableSets := ⟨word16At b (i + 104) ||| 1, word16At b (i + 106) ||| 1, word16At b (i + 108) ||| 1,
                             word16At b (i + 110) ||| 1⟩
              noticeEnable := _, alertEnable := _, remoteWrite, remoteApply },
      ⟨length, ht, valid, fun c => (read c).1, fun c => (read c).2, fun c => ?_, rfl, rfl, hw, ha⟩⟩
    match c with
    | 0 => rfl
    | 1 => rfl
    | 2 => rfl
    | 3 => rfl

/-- The enable sets of an image that is read: profile 0, and the members its octets name (R56). -/
theorem ImageHeld.getLsbD_enableSets {b : List Byte} {i : Nat} {x : Image} (h : ImageHeld b i x) (c : Carrier) (p : Nat) :
    (x.enableSets.get c).getLsbD p = (decide (p = 0) ||
      (b.getD (i + 104 + 2 * c.val) 0 ++ b.getD (i + 105 + 2 * c.val) 0).getLsbD p) := by
  have next : i + 104 + 2 * c.val + 1 = i + 105 + 2 * c.val := by omega
  have one : (1 : BitVec 16).getLsbD p = decide (p = 0) := by
    change (1#16).getLsbD p = _
    simp [BitVec.getLsbD_one]
  rw [h.enableSets, word16At_eq, next, BitVec.getLsbD_or, one, Bool.or_comm]

/-- Settles O59: the start-up of the reset part for the first half, the judgement of an image for the second. -/
theorem powerOnLoadsTheSettings : Obligations.PowerOnLoadsTheSettings := by
  refine ⟨fun s nvm held => ⟨fun invalid => ?_, fun i valid => ?_⟩,
    fun b n i table record intact valid formed hn hi hr ht hintact hvalid hformed => ?_⟩
  · have loaded : powerOn s = startUp (powerOnWith factoryImage false nvm s) := by
      rw [powerOn, State.nvmAtReset, ← held, invalid]
    exact congrArg Host.Outcome.next (loaded.trans (startUp_factory nvm s))
  · obtain ⟨u, e, part, timebase, store, high⟩ := startUp_image i nvm s
    have loaded : powerOn s = u := by
      rw [powerOn, State.nvmAtReset, ← held, valid]
      exact e
    have field {α : Type} (f : State → α) : f u = f _ := congrArg f part.device
    have own (c : Carrier) : (u.car c).sup.record = i.records.get c ∧ (u.car c).sup.inForce = i.records.get c ∧
        (u.car c).sup.link = (if (i.records.get c).enabled then .halted else .disabled) := by
      rw [part.carriers c, show (powerOnWith i true nvm s).car c = .powerOn (i.records.get c) from Four.get_map _ _ c]
      exact ⟨rfl, rfl, rfl⟩
    exact ⟨u, congrArg Host.Outcome.next loaded, field (·.tables.active), field (·.tables.digest),
      field (·.tables.enableSets), own, field State.pairedA, field State.pairedB, part.enables.1, part.enables.2,
      field (·.receiver.remoteWrite), field (·.receiver.remoteApply), field State.settings, timebase, store, high⟩
  · subst hn
    have tableIs : table = imageEntries b 2 (natAt b 1) := ht.trans (imageTable_eq b _)
    have intactIff : intact ↔ imageIntact b = true := hintact.trans (imageIntact_iff b).symm
    obtain rfl : record = recordWindow b i := funext hr
    have heldIff : valid ∧ formed ↔ ∃ x, ImageHeld b i x := by
      have size : table.length = natAt b 1 := by rw [tableIs, imageEntries_eq, List.length_map, List.length_range]
      rw [exists_imageHeld_iff tableIs, tableInService_octets (tableIs ▸ hyst_imageEntries b 2 _), hvalid, hformed, size]
      unfold RecordsValid natAt
      tauto
    have read (x : Image) : readImage b = some x ↔ intact ∧ ImageHeld b i x := by
      rw [intactIff]
      exact readImage_eq_some_iff hi x
    have unread (h : ¬ (intact ∧ valid ∧ formed)) : readImage b = none := by
      refine Option.eq_none_iff_forall_ne_some.2 fun x hx => h ?_
      obtain ⟨whole, holds⟩ := (read x).1 hx
      exact ⟨whole, heldIff.2 ⟨x, holds⟩⟩
    refine ⟨fun h => unread fun k => h k.1, fun _ h => unread fun k => h k.2.1, fun _ _ h => unread fun k => h k.2.2,
      fun whole good fits => ?_⟩
    obtain ⟨x, holds⟩ := heldIff.1 ⟨good, fits⟩
    exact ⟨x, (read x).2 ⟨whole, holds⟩, holds.active.trans tableIs.symm, fun c => (holds.recordWindow_eq c).symm,
      fun c p _ => holds.getLsbD_enableSets c p, by rw [holds.noticeEnable, word16At_eq], holds.alertEnable,
      boolAt_eq_some_iff.1 holds.remoteWrite, boolAt_eq_some_iff.1 holds.remoteApply⟩

end Sys2Proof.Machine
end

section
/-! SUPPORT. The moves of the Out Queue: what each block and each shared operation can make of it, apart from the CONFIRM
that answers an accepted ORDER. -/

namespace Sys2Proof.Machine

/-! ### The relation -/

/-- Whether a message is a CONFIRM. -/
def LacMsg.isConfirm : LacMsg → Bool
  | .confirm _ _ _ => true
  | _ => false

/-- What the Out Queue becomes from `q` without a CONFIRM: messages leave it, their ridden flags change, and messages of
the other kinds take the places of their roles (R110 to R112). -/
inductive QueueMoves (q : List Placed) : List Placed → Prop
  | same : QueueMoves q q
  | drop {r : List Placed} (moved : QueueMoves q r) (keep : Placed → Bool) : QueueMoves q (r.filter keep)
  | mark {r : List Placed} (moved : QueueMoves q r) (ridden : Placed → Bool) :
      QueueMoves q (r.map fun m => { m with ridden := ridden m })
  | place {r : List Placed} (moved : QueueMoves q r) {p : Place} {m : LacMsg} (role : p.holds m = true)
      (other : m.isConfirm = false) : QueueMoves q (queueWith p m r)

/-- A CONFIRM that stands in the queue after such moves stood in its place before. -/
theorem QueueMoves.confirm_old {q r : List Placed} (h : QueueMoves q r) {m : Placed} (hm : m ∈ r)
    (confirm : m.msg.isConfirm = true) : ∃ y ∈ q, y.place = m.place ∧ y.msg = m.msg := by
  induction h generalizing m with
  | same => exact ⟨m, hm, rfl, rfl⟩
  | drop _ _ ih => exact ih (List.mem_filter.1 hm).1 confirm
  | mark _ _ ih =>
    obtain ⟨x, hx, rfl⟩ := List.mem_map.1 hm
    exact ih (m := x) hx confirm
  | place _ _ other ih =>
    rcases List.mem_append.1 hm with old | new
    · exact ih (List.mem_filter.1 old).1 confirm
    · rw [List.mem_singleton.1 new, other] at confirm
      cases confirm

theorem QueueMoves.empty {q r : List Placed} (h : QueueMoves q r) : QueueMoves q [] := by
  simpa using h.drop fun _ => false

/-- The Out Queue of `s` has come from `q` by such moves. -/
def QueueFrom (q : List Placed) (s : State) : Prop := QueueMoves q s.outQueue

/-! ### Operations that leave the Out Queue alone -/

@[simp] theorem placeNotice_outQueue (n : Notice) (s : State) : (placeNotice n s).outQueue = s.outQueue := by
  obtain ⟨p, e, -⟩ := placeNotice_spec n s
  rw [e]

@[simp] theorem formCollapsed_outQueue (k : AlarmKind) (s : State) : (formCollapsed k s).outQueue = s.outQueue := by
  obtain ⟨_, _, _, e, -⟩ := formCollapsed_spec k s
  rw [e]

@[simp] theorem setWire_outQueue (k : AlarmKind) (c : Carrier) (v : Bool) (s : State) :
    (setWire k c v s).outQueue = s.outQueue := formCollapsed_outQueue k _

@[simp] theorem setTimebaseWire_outQueue (v : Bool) (s : State) : (setTimebaseWire v s).outQueue = s.outQueue :=
  formCollapsed_outQueue .timebase _

@[simp] theorem setStoreWire_outQueue (v : Bool) (s : State) : (setStoreWire v s).outQueue = s.outQueue :=
  formCollapsed_outQueue .store _

@[simp] theorem formMismatch_outQueue (c : Carrier) (s : State) : (formMismatch c s).outQueue = s.outQueue :=
  setWire_outQueue _ _ _ _

@[simp] theorem estimatorBoundary_outQueue (c : Carrier) (s : State) : (estimatorBoundary c s).outQueue = s.outQueue := by
  by_cases off : s.link c = .disabled
  · rw [(estimatorBoundary_spec c s).1 off]
  · obtain ⟨_, _, _, _, _, _, e, -⟩ := (estimatorBoundary_spec c s).2 off
    rw [e]

@[simp] theorem fadeBoundary_outQueue (present : Bool) (c : Carrier) (s : State) :
    (fadeBoundary present c s).outQueue = s.outQueue := by
  obtain ⟨_, _, _, _, _, _, e⟩ := (fadeBoundary_spec present c s).2
  rw [e]

@[simp] theorem racBoundary_outQueue (present : Bool) (c : Carrier) (s : State) :
    (racBoundary present c s).outQueue = s.outQueue := by
  obtain ⟨_, e, -⟩ := racBoundary_spec present c s
  rw [e]

@[simp] theorem mirrorOrder_outQueue (c : Carrier) (s : State) : (mirrorOrder c s).outQueue = s.outQueue := by
  rw [mirrorOrder_only]

@[simp] theorem closeOrder_outQueue (c : Carrier) (st : OrderState) (b : Nat) (s : State) :
    (closeOrder c st b s).outQueue = s.outQueue := mirrorOrder_outQueue c _

@[simp] theorem takeTarget_outQueue (c : Carrier) (t : Nat) (s : State) : (takeTarget c t s).outQueue = s.outQueue :=
  placeNotice_outQueue _ _

@[simp] theorem formTarget_outQueue (c : Carrier) (s : State) : (formTarget c s).outQueue = s.outQueue := by
  unfold formTarget
  simp only
  split <;> rfl

@[simp] theorem countBackoff_outQueue (c : Carrier) (s : State) : (countBackoff c s).outQueue = s.outQueue := by
  unfold countBackoff
  simp only
  split
  · split
    · exact closeOrder_outQueue c _ _ _
    · rfl
  · rfl

@[simp] theorem armAtDeadline_outQueue (c : Carrier) (s : State) : (armAtDeadline c s).outQueue = s.outQueue := by
  unfold armAtDeadline
  split
  · split
    · rfl
    · exact mirrorOrder_outQueue c _
  · rfl

@[simp] theorem applyPower_outQueue (c : Carrier) (s : State) : (applyPower c s).outQueue = s.outQueue := by
  unfold applyPower
  simp only
  split
  · rfl
  · split <;> rfl

/-- A list of turns, none of which touches the Out Queue. -/
theorem foldl_outQueue {α : Type} {f : State → α → State} (h : ∀ u a, (f u a).outQueue = u.outQueue) (xs : List α)
    (s : State) : (xs.foldl f s).outQueue = s.outQueue := by
  induction xs generalizing s with
  | nil => rfl
  | cons x xs ih => rw [List.foldl_cons, ih, h]

@[simp] theorem qualityWork_outQueue (order : AlarmKind → List Carrier) (present : Four Bool) (s : State) :
    (qualityWork order present s).outQueue = s.outQueue :=
  (foldl_outQueue (fun u c => fadeBoundary_outQueue _ c u) _ _).trans
    (foldl_outQueue (fun u c => estimatorBoundary_outQueue c u) _ s)

@[simp] theorem receiveWork_outQueue (present : Four Bool) (s : State) : (receiveWork present s).outQueue = s.outQueue :=
  foldl_outQueue (fun u c => racBoundary_outQueue _ c u) _ s

@[simp] theorem applyBoundary_outQueue (order : List Carrier) (s : State) :
    (applyBoundary order s).outQueue = s.outQueue := by
  unfold applyBoundary judgeApply
  split
  · rfl
  · split
    · rfl
    · split
      · exact placeNotice_outQueue _ _
      · exact (placeNotice_outQueue _ _).trans (foldl_outQueue (fun u c => formMismatch_outQueue c u) order _)

@[simp] theorem setArmed_outQueue (c : Carrier) (pair : Bool) (a : Option ArmedOrder) (s : State) :
    (setArmed c pair a s).outQueue = s.outQueue := by
  unfold setArmed
  split <;> rfl

@[simp] theorem takeToggle_outQueue (c : Carrier) (s : State) : (takeToggle c s).outQueue = s.outQueue := by
  unfold takeToggle
  split
  · rfl
  · exact placeNotice_outQueue _ _

@[simp] theorem takeFrameReport_outQueue (carrier frameIndex flags snrA snrB rslA rslB : Byte) (s : State) :
    (takeFrameReport carrier frameIndex flags snrA snrB rslA rslB s).outQueue = s.outQueue := by
  unfold takeFrameReport attributeReport
  split
  · rfl
  · split
    · split
      · rfl
      · split
        · rfl
        · rw [acceptReport_eq]
          split
          · exact takeToggle_outQueue _ _
          · rfl
    · rfl

/-! ### Operations that move it -/

namespace QueueFrom

variable {q : List Placed} {s : State} {c : Carrier}

theorem of_same (h : QueueFrom q s) {t : State} (e : t.outQueue = s.outQueue) : QueueFrom q t := by
  unfold QueueFrom
  rw [e]
  exact h

theorem ite {p : Prop} [Decidable p] {u : State} (h : p → QueueFrom q s) (g : ¬p → QueueFrom q u) :
    QueueFrom q (if p then s else u) := by
  split
  · exact h ‹_›
  · exact g ‹_›

theorem foldl {α : Type} {f : State → α → State} (hf : ∀ u a, QueueFrom q u → QueueFrom q (f u a)) (xs : List α)
    (h : QueueFrom q s) : QueueFrom q (xs.foldl f s) := by
  induction xs generalizing s with
  | nil => exact h
  | cons x xs ih => exact ih (hf s x h)

theorem placeMessage (h : QueueFrom q s) {p : Place} {m : LacMsg} (role : p.holds m = true := by simp [Place.holds])
    (other : m.isConfirm = false := by rfl) : QueueFrom q (placeMessage p m s) := QueueMoves.place h role other

theorem clearPlace (h : QueueFrom q s) {p : Place} : QueueFrom q (clearPlace p s) := QueueMoves.drop h _

theorem modTacStats (h : QueueFrom q s) {f : TacStats → TacStats} : QueueFrom q (modTacStats c f s) := h

theorem emit (h : QueueFrom q s) {d : Directive} : QueueFrom q (emit d s) := h

/-- The sender follows a change of link state: its S place alone moves (R164). -/
theorem of_senderFollows {r : List Placed} {t : State} (moved : QueueMoves q r) (h : SenderFollows r s t) :
    QueueFrom q t := by
  unfold QueueFrom
  obtain ⟨pauses, stays, resumes⟩ := h
  by_cases active : ∃ c : Carrier, t.link c = .active
  · obtain ⟨same, sending, awaiting⟩ := resumes active
    by_cases paused : s.sender.state = .paused
    · cases phase : s.sender.resume with
      | none => exact (same (.inr phase)).2 ▸ moved
      | some x =>
        cases x with
        | sending => exact (sending paused phase).2 ▸ moved.place rfl rfl
        | awaitingResult => exact (awaiting paused phase).2 ▸ moved.place rfl rfl
    · exact (same (.inl paused)).2 ▸ moved
  · have none (c : Carrier) : t.link c ≠ .active := fun hc => active ⟨c, hc⟩
    by_cases runs : s.sender.state = .sending ∨ s.sender.state = .awaitingResult
    · exact (pauses none runs).2 ▸ moved.drop _
    · exact (stays none (fun e => runs (.inl e)) fun e => runs (.inr e)).2 ▸ moved

theorem senderFollowsLinks (h : QueueFrom q s) : QueueFrom q (senderFollowsLinks s) :=
  of_senderFollows h (senderFollowsLinks_spec s).1

theorem withoutCarrier {r : List Placed} (moved : QueueMoves q r) (c : Carrier) : QueueMoves q (withoutCarrier c r) :=
  moved.drop _

theorem haltedEntry (h : QueueFrom q s) {cause : HaltCause} : QueueFrom q (haltedEntry c cause s) := by
  obtain ⟨⟨-, -, follows, -, -⟩, -⟩ := haltedEntry_spec c cause s
  refine of_senderFollows ?_ follows
  split
  · exact withoutCarrier (withoutCarrier h c) _
  · exact withoutCarrier h c

theorem disabledEntry (h : QueueFrom q s) : QueueFrom q (disabledEntry c s) := by
  obtain ⟨⟨-, -, pair, alone⟩, -⟩ := disabledEntry_spec c s
  by_cases takes : TakesPartner s c
  · exact of_senderFollows (withoutCarrier (withoutCarrier h c) _) (pair takes).1
  · exact of_senderFollows (withoutCarrier h c) (alone takes).1

theorem enterActive (h : QueueFrom q s) : QueueFrom q (enterActive c s) :=
  senderFollowsLinks (h.of_same (setWire_outQueue _ _ _ _))

theorem enterQuiet (h : QueueFrom q s) : QueueFrom q (enterQuiet c s) :=
  senderFollowsLinks (h.of_same (setWire_outQueue _ _ _ _))

theorem enterSeeking (h : QueueFrom q s) : QueueFrom q (enterSeeking c s) :=
  senderFollowsLinks (h.of_same (setWire_outQueue _ _ _ _))

/-- The Supervisor's turn of a carrier: an entry or none. -/
theorem supervise (h : QueueFrom q s) : QueueFrom q (supervise c s) := by
  have counted : QueueFrom q (modSup c Supervisor.counted s) := h
  cases halts : (modSup c Supervisor.counted s).haltsByTest c with
  | true =>
    obtain ⟨cause, e⟩ := (supervise_cases c s).1 halts
    rw [e]
    exact counted.haltedEntry
  | false =>
    rcases (supervise_cases c s).2 halts with e | ⟨-, e⟩ | ⟨-, e⟩ <;> rw [e]
    · exact counted
    · exact counted.enterQuiet
    · exact counted.enterSeeking

theorem superviseOnce {x : State × List Carrier} (h : QueueFrom q x.1) : QueueFrom q (superviseOnce c x).1 := by
  unfold Machine.superviseOnce
  split
  · exact h
  · exact h.supervise

/-! ### The TACs -/

/-- An order is closed with a CANCEL in its T place (R97). -/
theorem cancelOrder (h : QueueFrom q s) {o : OpenOrder} {st : OrderState} {b : Nat} :
    QueueFrom q (closeOrder c st b (placeCancel c o s)) :=
  of_same (h.placeMessage (p := .t c) (m := .cancel c o.id o.pair)) (closeOrder_outQueue _ _ _ _)

theorem closeOnTimebaseLoss (h : QueueFrom q s) : QueueFrom q (closeOnTimebaseLoss c s) := by
  unfold Machine.closeOnTimebaseLoss
  split
  · exact h
  · refine ite (fun _ => ?_) fun _ => h
    exact modTacStats (ite (fun _ => h.cancelOrder.emit) fun _ => h.cancelOrder)

theorem switchOrder (h : QueueFrom q s) {o : OpenOrder} : QueueFrom q (switchOrder c o s) := by
  have own : QueueFrom q (takeTarget c o.target (closeOrder c .steady 0 (Machine.clearPlace (.t c) s))) :=
    of_same (h.clearPlace (p := .t c)) (by simp)
  unfold Machine.switchOrder
  exact modTacStats (ite (fun _ => own.of_same (takeTarget_outQueue _ _ _)) fun _ => own)

theorem switchAtEffect (h : QueueFrom q s) : QueueFrom q (switchAtEffect c s) := by
  unfold Machine.switchAtEffect
  split
  · exact h.switchOrder
  · exact h

theorem deadline (h : QueueFrom q s) : QueueFrom q (deadline c s) := by
  unfold Machine.deadline
  split
  · exact h.cancelOrder.of_same (placeNotice_outQueue _ _)
  · exact h

theorem reverseUpshift (h : QueueFrom q s) : QueueFrom q (reverseUpshift c s) := by
  unfold Machine.reverseUpshift
  simp only
  split
  · exact h
  · exact ite (fun _ => h.cancelOrder.modTacStats) fun _ => h

theorem openOrderWork (h : QueueFrom q s) : QueueFrom q (openOrderWork c s) := by
  unfold Machine.openOrderWork
  exact ite (fun _ => modTacStats (placeMessage (h.of_same (mirrorOrder_outQueue c (modTac c _ s))))) fun _ => h

/-- The target is formed anew and the opening test follows (R85, R87). -/
theorem formAndOpen (h : QueueFrom q s) : QueueFrom q (Machine.openOrderWork c (formTarget c s)) :=
  openOrderWork (h.of_same (formTarget_outQueue c s))

theorem orderBoundary (h : QueueFrom q s) : QueueFrom q (orderBoundary c s) := by
  have switched : QueueFrom q (Machine.switchAtEffect c (countBackoff c (Machine.closeOnTimebaseLoss c s))) :=
    switchAtEffect (h.closeOnTimebaseLoss.of_same (countBackoff_outQueue c _))
  exact openOrderWork (reverseUpshift (of_same (switched.deadline (c := c)) (by simp)))

theorem tacBoundary (h : QueueFrom q s) : QueueFrom q (tacBoundary c s) := by
  unfold Machine.tacBoundary
  exact ite (fun _ => of_same (ite (fun _ => h) fun _ => h.orderBoundary) (applyPower_outQueue c _)) fun _ => h

theorem transmitWork (h : QueueFrom q s) : QueueFrom q (transmitWork s) := foldl (fun _ _ g => g.tacBoundary) _ h

/-! ### The transfer sender -/

theorem placeAgain (h : QueueFrom q s) : QueueFrom q (placeAgain s) := by
  unfold Machine.placeAgain
  split
  · exact h.placeMessage
  · exact h.placeMessage
  · exact h

theorem ackWaitExpired (h : QueueFrom q s) : QueueFrom q (ackWaitExpired s) := by
  have counted (f : Sender → Sender) : QueueFrom q (modSender f s) := h
  unfold Machine.ackWaitExpired
  exact ite (fun _ => (counted _).placeAgain) fun _ => of_same (counted _).clearPlace (placeNotice_outQueue _ _)

theorem senderBoundary (h : QueueFrom q s) : QueueFrom q (senderBoundary s) := by
  have counted (f : Sender → Sender) : QueueFrom q (modSender f s) := h
  unfold Machine.senderBoundary
  simp only
  split
  · exact h
  · exact ite (fun _ => ite (fun _ => (counted _).ackWaitExpired) fun _ => counted _) fun _ => h

/-! ### The boundary and the timebase -/

theorem startBoundary (h : QueueFrom q s) : QueueFrom q (startBoundary s) := by
  rw [startBoundary_eq]
  exact QueueMoves.mark h fun _ => false

theorem boundaryWith (h : QueueFrom q s) (place : Carrier → Nat) (order : AlarmKind → List Carrier) :
    QueueFrom q (boundaryWith place order s) := by
  obtain ⟨_, done⟩ := boundaryWith_induction place order s (fun _ _ x => QueueFrom q x.1) h.startBoundary
    (fun _ _ _ _ _ hx => hx.superviseOnce)
    (fun n _ _ hn hx => by
      match n, hn with
      | 0, _ => exact hx.of_same (qualityWork_outQueue _ _ _)
      | 1, _ => exact hx.of_same (receiveWork_outQueue _ _)
      | 2, _ => exact hx.transmitWork
      | 3, _ => exact hx.senderBoundary
      | 4, _ => exact hx.of_same (applyBoundary_outQueue _ _))
  exact done

theorem boundary (h : QueueFrom q s) : QueueFrom q (boundary s) := h.boundaryWith _ _

/-- A boundary at which the timebase has changed its state and its wire (R3, R4). -/
theorem boundaryAfterState (h : QueueFrom q s) {f : Timebase → Timebase} {v : Bool} :
    QueueFrom q (Machine.boundary (setTimebaseWire v (modTimebase f s))) :=
  (h.of_same (setTimebaseWire_outQueue v (modTimebase f s))).boundary

theorem internalBoundary (h : QueueFrom q s) : QueueFrom q (internalBoundary s) := by
  unfold Machine.internalBoundary
  exact ite (fun _ => of_same h rfl) fun _ => h.boundary

theorem actWhenDue (h : QueueFrom q s) : QueueFrom q (actWhenDue s) := by
  unfold Machine.actWhenDue
  refine ite (fun _ => ?_) fun _ => h
  split
  · exact h.boundaryAfterState
  · exact h.internalBoundary

theorem tick (h : QueueFrom q s) : QueueFrom q (tick s) := by
  obtain ⟨f, e, -⟩ := tick_eq s
  rw [e]
  exact actWhenDue (h.of_same (modTimebase_outQueue f s))

theorem takeStrobe (h : QueueFrom q s) : QueueFrom q (takeStrobe s) := by
  unfold Machine.takeStrobe
  split
  · exact h.boundaryAfterState
  · exact ite (fun _ => of_same h rfl) fun _ => h.boundary

/-! ### Resets and the start-up -/

theorem resetBlocks (h : QueueFrom q s) : QueueFrom q (resetBlocks s) := QueueMoves.empty h

theorem startUp (h : QueueFrom q s) : QueueFrom q (startUp s) := by
  have wires : QueueFrom q (if (setTimebaseWire true s).settings.storeValid then setTimebaseWire true s
      else setStoreWire true (setTimebaseWire true s)) :=
    ite (fun _ => h.of_same (by simp)) fun _ => h.of_same (by simp)
  exact foldl (fun _ _ g => ite (fun _ => g.haltedEntry) fun _ => g) _ wires

theorem restartEffect (h : QueueFrom q s) : QueueFrom q (restartEffect s) := h.resetBlocks.startUp

theorem powerOn (h : QueueFrom q s) : QueueFrom q (powerOn s) := by
  have taken (i : Image) (valid : Bool) : QueueFrom q (Machine.startUp (powerOnWith i valid s.nvmAtReset s)) :=
    startUp (s := powerOnWith i valid s.nvmAtReset s) (QueueMoves.empty h)
  unfold Machine.powerOn
  split
  · exact taken _ _
  · exact taken _ _

end QueueFrom

end Sys2Proof.Machine
end

section
/-! SUPPORT. The moves of the Out Queue over the transfer and received slots: an accepted ORDER alone places a CONFIRM
(R71). -/

namespace Sys2Proof.Machine

/-- An ORDER has been accepted at the RAC of its named carrier: its CONFIRM has joined the Out Queue, and it is the armed
order (R71). -/
structure OrderAnswered (q : List Placed) (c : Carrier) (id target : Nat) (t : State) : Prop where
  confirmed : ∃ r, QueueMoves q r ∧ t.outQueue = queueWith (.v c) (.confirm c id target) r
  armed : ∃ a, (t.car c).rac.armed = some a ∧ a.id = id ∧ a.target = target

/-- The optional part of a slot of carrier `d` was an ORDER that has been accepted. -/
def AnswersSlot (q : List Placed) (d : Carrier) (octets : List Byte) (t : State) : Prop :=
  ∃ (x : Slot) (c : Carrier) (id target : Nat) (pair : Bool), decodeSlot d octets = some x ∧
    x.part = .message (.order c id target pair) ∧ OrderAnswered q c id target t

@[simp] theorem car_placeMessage (p : Place) (m : LacMsg) (s : State) (d : Carrier) :
    (placeMessage p m s).car d = s.car d := rfl

/-- Setting the armed order of a carrier, with or without its copy at the partner (R71). -/
theorem armed_setArmed (c : Carrier) (pair : Bool) (a : Option ArmedOrder) (s : State) :
    ((setArmed c pair a s).car c).rac.armed = a := by
  unfold setArmed
  simp only
  split
  · rw [modRac, car_modCar_other _ _ (partner_ne c).symm, modRac_car_rac]
  · rw [modRac_car_rac]

namespace QueueFrom

variable {q : List Placed} {s : State} {c : Carrier}

/-! ### Orders and reports -/

/-- An ORDER that passed the checks is answered: as a repeat it is armed already, else it is armed now (R71). -/
theorem acceptOrder (h : QueueFrom q s) (id target : Nat) (pair : Bool) :
    OrderAnswered q c id target (acceptOrder c id target pair s) := by
  have fresh {u : State} (g : QueueFrom q u) : OrderAnswered q c id target
      (Machine.placeMessage (.v c) (.confirm c id target) (setArmed c pair (some ⟨id, target, pair⟩)
        (Machine.emit (.armRx (orderMask c pair) (u.entry target).modulation (u.entry target).code)
          (modRacStats (u.gov c) (fun x => { x with accepted := count32 x.accepted }) u)))) :=
    ⟨⟨_, g.of_same (setArmed_outQueue c pair _ (Machine.emit _ (modRacStats _ _ u))), rfl⟩, _, armed_setArmed _ _ _ _,
      rfl, rfl⟩
  unfold Machine.acceptOrder
  simp only
  split
  · exact fresh h
  · rename_i a held
    split
    · rename_i same
      refine ⟨⟨_, h, rfl⟩, a, ?_, same⟩
      simpa [modRacStats] using held
    · exact fresh h

theorem takeOrder (h : QueueFrom q s) (id target : Nat) (pair : Bool) :
    QueueFrom q (takeOrder c id target pair s) ∨ OrderAnswered q c id target (takeOrder c id target pair s) := by
  have forgotten : QueueFrom q (if s.isUpper c then s
      else modRac c (fun r => { r with lastCancelled := none, lastSwitched := none }) s) := ite (fun _ => h) fun _ => h
  unfold Machine.takeOrder
  simp only
  split
  · exact .inl h
  · split
    · refine .inl (placeMessage (p := .v c) ?_)
      exact forgotten
    · exact .inr (forgotten.acceptOrder id target pair)

theorem takeCancel (h : QueueFrom q s) {id : Nat} {pair : Bool} : QueueFrom q (takeCancel c id pair s) := by
  unfold Machine.takeCancel
  refine ite (fun _ => h) fun _ => ?_
  simp only
  split
  · exact h
  · exact ite (fun _ => of_same h (setArmed_outQueue _ _ _ _)) fun _ => h

theorem takeConfirm (h : QueueFrom q s) {id target : Nat} : QueueFrom q (takeConfirm c id target s) := by
  unfold Machine.takeConfirm
  refine ite (fun _ => h) fun _ => ite (fun _ => h) fun _ => ?_
  split
  · exact h
  · exact ite (fun _ => ite (fun _ => of_same h (mirrorOrder_outQueue _ _)) fun _ => h) fun _ => h

theorem takeRefuse (h : QueueFrom q s) {id reason : Nat} : QueueFrom q (takeRefuse c id reason s) := by
  unfold Machine.takeRefuse
  refine ite (fun _ => h) fun _ => ite (fun _ => h) fun _ => ?_
  split
  · exact h
  · exact ite (fun _ => of_same (h.clearPlace (p := .t c)) (by simp [Machine.modTacStats])) fun _ => h

/-! ### The transfer -/

theorem concludeReception (h : QueueFrom q s) {id result : Nat} : QueueFrom q (concludeReception id result s) :=
  of_same (h.placeMessage (p := .q) (m := .tableResult id result)) (placeNotice_outQueue _ _)

theorem startReception (h : QueueFrom q s) {id : Nat} {e : Entry} : QueueFrom q (startReception id e s) :=
  QueueMoves.place h rfl rfl

theorem refuseReception (h : QueueFrom q s) {id : Nat} : QueueFrom q (refuseReception id s) :=
  concludeReception (s := releasePending .incomplete s) h

theorem takeEntry (h : QueueFrom q s) {id index : Nat} {e : Entry} : QueueFrom q (takeEntry id index e s) := by
  have acknowledged (i k : Nat) : QueueMoves q (queueWith .q (.tableAck i k) s.outQueue) := QueueMoves.place h rfl rfl
  unfold Machine.takeEntry
  split
  · exact ite (fun _ => ite (fun _ => acknowledged _ _) fun _ => acknowledged _ _) fun _ => ite (fun _ => h) fun _ =>
      ite (fun _ => h.startReception) fun _ => h.refuseReception.concludeReception
  · exact ite (fun _ => ite (fun _ => h.startReception) fun _ => h.concludeReception) fun _ => h

theorem wholeTableResult (h : QueueFrom q s) {count : Nat} : QueueFrom q (wholeTableResult count s).2 := by
  unfold Machine.wholeTableResult
  split
  · split <;> exact h
  · exact h

theorem takeEnd (h : QueueFrom q s) {id count : Nat} {check : Word16} : QueueFrom q (takeEnd id count check s) := by
  have released (x : Completeness) : QueueFrom q (releasePending x s) := h
  unfold Machine.takeEnd
  split
  · exact ite (fun _ => ite (fun _ => (released _).wholeTableResult.concludeReception)
      fun _ => (released _).concludeReception) fun _ => h
  · split
    · exact ite (fun _ => h.placeMessage) fun _ => h
    · exact h

theorem takeAbort (h : QueueFrom q s) {id : Nat} : QueueFrom q (takeAbort id s) := by
  unfold Machine.takeAbort
  exact ite (fun _ => of_same (h.clearPlace (p := .q)) (placeNotice_outQueue _ _)) fun _ => h

theorem takeAck (h : QueueFrom q s) {id k : Nat} : QueueFrom q (takeAck id k s) := by
  have counted (f : Sender → Sender) : QueueFrom q (modSender f s) := h
  unfold Machine.takeAck
  split
  · exact h
  · exact ite (fun _ => ite (fun _ => (counted _).placeMessage) fun _ => (counted _).placeMessage) fun _ => h
  · exact h

theorem takeResult (h : QueueFrom q s) {id outcome : Nat} : QueueFrom q (takeResult id outcome s) := by
  unfold Machine.takeResult
  exact ite (fun _ => h) fun _ => ite (fun _ => of_same (h.clearPlace (p := .s)) (placeNotice_outQueue _ _)) fun _ => h

/-! ### Slots -/

/-- Of the optional parts an ORDER alone can be answered by a CONFIRM (R120). -/
theorem dispatch (h : QueueFrom q s) (part : SlotPart) : QueueFrom q (dispatch c part s) ∨
    ∃ d id target pair, part = .message (.order d id target pair) ∧ OrderAnswered q d id target (dispatch c part s) := by
  match part with
  | .message (.order d id target pair) =>
    exact (h.takeOrder id target pair).imp_right fun answered => ⟨d, id, target, pair, rfl, answered⟩
  | .empty => exact .inl h
  | .badEntry => exact .inl h
  | .unknown => exact .inl h
  | .message (.cancel _ _ _) => exact .inl h.takeCancel
  | .message (.confirm _ _ _) => exact .inl h.takeConfirm
  | .message (.refuse _ _ _) => exact .inl h.takeRefuse
  | .message (.tableEntry _ _ _) => exact .inl h.takeEntry
  | .message (.tableEnd _ _ _) => exact .inl h.takeEnd
  | .message (.tableAbort _) => exact .inl h.takeAbort
  | .message (.tableAck _ _) => exact .inl h.takeAck
  | .message (.tableResult _ _) => exact .inl h.takeResult

theorem takeReceipt (h : QueueFrom q s) {peer : LinkState} : QueueFrom q (takeReceipt c peer s) := by
  have heard : QueueFrom q (modSup c (fun x => { x with miss := 0 }) s) := h
  unfold Machine.takeReceipt
  simp only
  split
  · exact heard
  · exact heard
  · exact enterActive (s := modSupStats c _ (modSup c _ s)) h
  · exact ite (fun _ => heard.haltedEntry) fun _ => heard
  · exact ite (fun _ => heard.haltedEntry) fun _ => heard.enterActive

theorem takeSlot (h : QueueFrom q s) (octets : List Byte) :
    QueueFrom q (takeSlot c octets s) ∨ AnswersSlot q c octets (takeSlot c octets s) := by
  unfold Machine.takeSlot
  simp only
  split
  · exact .inl h
  · rename_i slot decoded
    have stages : QueueFrom q (takeSlotStages c slot s) ∨ AnswersSlot q c octets (takeSlotStages c slot s) := by
      have received : QueueFrom q (Machine.takeReceipt c slot.link (takePeerRecords c slot s)) :=
        takeReceipt (s := takePeerRecords c slot s) h
      unfold takeSlotStages
      simp only
      split
      · exact .inl received
      · refine (dispatch (received.of_same ?_) slot.part).imp_right ?_
        · exact formMismatch_outQueue _ _
        · rintro ⟨d, id, target, pair, part, answered⟩
          exact ⟨slot, d, id, target, pair, decoded, part, answered⟩
    split
    · exact .inl h
    · exact .inl h
    all_goals exact stages

theorem serveSlotRequest (h : QueueFrom q s) : QueueFrom q (serveSlotRequest c s) := by
  have rides (m : Placed) {u : State} (g : QueueFrom q u) : QueueFrom q (ride m u) := by
    have marked := QueueMoves.mark g fun y => y.ridden || y.place == m.place
    rw [ride_eq]
    show QueueMoves q (if _ then _ else _)
    split
    · convert marked using 3 with y
      by_cases here : y.place = m.place
      · simp [here]
      · rw [if_neg here, beq_false_of_ne here, Bool.or_false]
    · exact QueueMoves.drop g _
  unfold Machine.serveSlotRequest
  split
  · exact h
  · exact h
  · exact h
  all_goals
    split
    · exact h
    · exact rides _ h

end QueueFrom

/-- A carrier number that names a carrier is that carrier's octet. -/
theorem carrierByte_of_carrierOf {b : Byte} {c : Carrier} (h : carrierOf b.toNat = some c) : b = carrierByte c := by
  unfold carrierOf at h
  split at h
  · cases h
    exact BitVec.eq_of_toNat_eq (by simp [carrierByte, byteOf])
  · cases h

theorem takeSlotIn_queue {q : List Placed} {s : State} (h : QueueFrom q s) (carrier : Byte) (octets : List Byte) :
    QueueFrom q (takeSlotIn carrier octets s) ∨
      ∃ d, carrier = carrierByte d ∧ AnswersSlot q d octets (takeSlotIn carrier octets s) := by
  unfold takeSlotIn
  split
  · exact .inl h
  · rename_i d named
    exact (h.takeSlot octets).imp_right fun answers => ⟨d, carrierByte_of_carrierOf named, answers⟩

end Sys2Proof.Machine
end

section
/-! SUPPORT. The moves of the Out Queue over the requests, and over every command and step. -/

namespace Sys2Proof.Machine

namespace QueueFrom

variable {q : List Placed} {s : State} {c : Carrier}

/-! ### The requests -/

theorem reply (h : QueueFrom q s) {f : Frame} {body : List Byte} : QueueFrom q (reply f body s) := h

theorem applyRecord (h : QueueFrom q s) {paired : Bool} {r : CarrierRecord} :
    QueueFrom q (followEnabled c (raiseFloor c (putRecord c r (changePairing c paired s)))) := by
  have pairing : QueueFrom q (changePairing c paired s) := by
    rw [changePairing_spec]
    show QueueMoves q (if _ then _ else _)
    split
    · exact h
    · exact withoutCarrier (withoutCarrier h c) _
  have put : QueueFrom q (raiseFloor c (putRecord c r (changePairing c paired s))) := by
    rw [recordPut_eq]
    exact pairing
  unfold followEnabled
  exact ite (fun _ => put.haltedEntry) fun _ => ite (fun _ => put.disabledEntry) fun _ => put

theorem takeSetCarrier (h : QueueFrom q s) {f : Frame} : QueueFrom q (takeSetCarrier f s) := by
  unfold Machine.takeSetCarrier
  split
  · exact ite (fun _ => ite (fun _ => h) fun _ => h.applyRecord.reply) fun _ => h
  · exact h

theorem takeRestartCarrier (h : QueueFrom q s) {f : Frame} : QueueFrom q (takeRestartCarrier f s) := by
  unfold Machine.takeRestartCarrier
  split
  · exact h
  · exact ite (fun _ => h.haltedEntry.reply) fun _ => h

theorem takeSetTimebase (h : QueueFrom q s) {f : Frame} : QueueFrom q (takeSetTimebase f s) := by
  unfold Machine.takeSetTimebase
  exact ite (fun _ => actWhenDue (s := modTimebase _ (Machine.reply f _ s)) h) fun _ => h

theorem takeWriteProfiles (h : QueueFrom q s) {f : Frame} : QueueFrom q (takeWriteProfiles f s) := by
  unfold Machine.takeWriteProfiles
  exact ite (fun _ => ite (fun _ => h) fun _ => h) fun _ => h

theorem takeApplyTable (h : QueueFrom q s) {f : Frame} : QueueFrom q (takeApplyTable f s) := by
  unfold Machine.takeApplyTable
  split <;> exact h

theorem takePushTable (h : QueueFrom q s) {f : Frame} : QueueFrom q (takePushTable f s) := by
  unfold Machine.takePushTable
  split
  · exact h
  · refine ite (fun _ => ite (fun _ => ?_) fun _ => h) fun _ => h
    split
    · exact h
    · exact QueueMoves.place h rfl rfl

theorem takeAbortPush (h : QueueFrom q s) {f : Frame} : QueueFrom q (takeAbortPush f s) := by
  unfold Machine.takeAbortPush
  exact ite (fun _ => h) fun _ => QueueMoves.place h rfl rfl

theorem takeSetRemote (h : QueueFrom q s) {f : Frame} : QueueFrom q (takeSetRemote f s) := by
  unfold Machine.takeSetRemote
  split
  · rename_i write apply _ _
    show QueueFrom q (setRemote write apply s)
    unfold setRemote
    simp only
    split
    · exact ite (fun _ => h) fun _ => refuseReception (s := modReceiver _ s) h
    · exact h
  · exact h

/-! A request that reads leaves the queue as it is. -/

theorem takeGetStats (h : QueueFrom q s) (f : Frame) : QueueFrom q (takeGetStats f s) := by
  unfold Machine.takeGetStats
  split
  · exact ite (fun _ => h) fun _ => h
  · exact h

theorem takeGetCarrier (h : QueueFrom q s) (f : Frame) : QueueFrom q (takeGetCarrier f s) := by
  unfold Machine.takeGetCarrier
  split <;> exact h

theorem takeReadProfiles (h : QueueFrom q s) (f : Frame) : QueueFrom q (takeReadProfiles f s) := by
  unfold Machine.takeReadProfiles
  split
  · exact h
  · exact ite (fun _ => h) fun _ => h

theorem takeReadFades (h : QueueFrom q s) (f : Frame) : QueueFrom q (takeReadFades f s) :=
  ite (fun _ => h) fun _ => h

theorem endWrite (h : QueueFrom q s) {readBack : List Byte} {tag : Byte} : QueueFrom q (endWrite readBack tag s) :=
  h.of_same (setStoreWire_outQueue _ _)

theorem startNext (h : QueueFrom q s) : QueueFrom q (startNext s) := by
  unfold Machine.startNext
  split
  · exact h
  · split
    · exact ite (fun _ => h) fun _ => h
    · exact h
    · exact h
    · split <;> exact h

theorem takeSlotRequest (h : QueueFrom q s) {carrier : Byte} : QueueFrom q (takeSlotRequest carrier s) := by
  unfold Machine.takeSlotRequest
  split
  · exact h
  · exact h.serveSlotRequest

/-! ### Every command -/

/-- What `running` guards moves the queue as its effect does. -/
theorem running (h : QueueFrom q s) {g : State → State} {t : State} (e : running g s = .next t)
    (kept : QueueFrom q s → QueueFrom q (g s)) : QueueFrom q t := by
  unfold Machine.running at e
  split at e <;> cases e
  · exact h
  · exact kept h

/-- A request served by a rule that moves the queue so. -/
theorem served (h : QueueFrom q s) {kind : Byte} {take : Frame → State → State} {t : State}
    (e : Machine.running (serve kind take) s = .next t) (kept : ∀ f u, QueueFrom q u → QueueFrom q (take f u)) :
    QueueFrom q t := by
  refine h.running e fun h => ?_
  have taken : QueueFrom q (dequeue s) := h
  unfold serve
  split
  · exact h
  · exact ite (fun _ => ite (fun _ => kept _ _ taken) fun _ => taken) fun _ => h

end QueueFrom

/-- The command brings a slot of carrier `d`, as a SLOT_IN or as a whole inbound record (R7). -/
def Instr.bringsSlot (i : Instr) (d : Carrier) (octets : List Byte) : Prop :=
  ∃ pad, i = .slotIn (carrierByte d) octets ∨ i = .inboundRecordDiscarded (0x02 :: carrierByte d :: octets ++ pad)

/-- A record of twenty octets with the record kind of SLOT_IN, taken apart. -/
theorem record_eq_of_kind {record : List Byte} (length : record.length = 20) (kind : natAt record 0 = 2) :
    record = 0x02 :: record.getD 1 0 :: (record.drop 2).take 16 ++ record.drop 18 := by
  obtain _ | ⟨a, _ | ⟨b, rest⟩⟩ := record
  · cases length
  · cases length
  · have first : a = 0x02 := BitVec.eq_of_toNat_eq kind
    simp [first]

/-- Every command moves the Out Queue without a CONFIRM, but a slot whose optional part is an ORDER that is accepted
(R71). -/
theorem exec_queue (i : Instr) {s t : State} (e : exec i s = .next t) : QueueFrom s.outQueue t ∨
    ∃ d octets, Instr.bringsSlot i d octets ∧ AnswersSlot s.outQueue d octets t := by
  have h : QueueFrom s.outQueue s := .same
  have recordTaken : QueueFrom s.outQueue (recordTaken s) := h
  cases i with
  | slotIn carrier octets =>
    change execSlotIn carrier octets s = _ at e
    unfold execSlotIn running at e
    split at e
    · split at e <;> cases e
      · exact .inl h
      · refine (takeSlotIn_queue recordTaken carrier octets).imp_right ?_
        rintro ⟨d, rfl, answers⟩
        exact ⟨d, octets, ⟨[], .inl rfl⟩, answers⟩
    · cases e
  | inboundRecordDiscarded record =>
    change execInboundRecordDiscarded record s = _ at e
    unfold execInboundRecordDiscarded running at e
    split at e
    · rename_i length
      split at e <;> cases e
      · exact .inl h
      · unfold takeRecord
        simp only
        split
        · exact .inl (recordTaken.of_same (takeFrameReport_outQueue _ _ _ _ _ _ _ _))
        · rename_i kind
          refine (takeSlotIn_queue recordTaken (record.getD 1 0) ((record.drop 2).take 16)).imp_right ?_
          rintro ⟨d, named, answers⟩
          exact ⟨d, _, ⟨record.drop 18, .inr (by rw [← named, ← record_eq_of_kind length kind])⟩, answers⟩
        · exact .inl recordTaken.takeSlotRequest
        · exact .inl recordTaken
    · cases e
  | powerOnReset =>
    cases e
    exact .inl h.powerOn
  | lineReset =>
    change execLineReset s = _ at e
    exact .inl (h.running e fun h => h.resetBlocks)
  | resetRelease =>
    cases e
    exact .inl (.ite (fun _ => QueueFrom.startUp (s := { s with resetHeld := false }) h) fun _ => h)
  | restartTakesEffect =>
    change execRestartTakesEffect s = _ at e
    exact .inl (h.running e fun h => .ite (fun _ => h.restartEffect) fun _ => h)
  | sfsStrobe elapsed =>
    exact .inl (QueueFrom.running (s := modTimebase (Timebase.advance elapsed) s) h e QueueFrom.takeStrobe)
  | supervisionExpiry =>
    change execSupervisionExpiry s = _ at e
    exact .inl (h.running e fun h => .ite (fun _ => h.boundaryAfterState) fun _ => h)
  | internalBoundary =>
    cases e
    exact .inl (.ite (fun _ => h.internalBoundary) fun _ => h)
  | branchLoss c =>
    change execBranchLoss c s = _ at e
    exact .inl (h.running e fun h => .ite (fun _ => h.of_same (setWire_outQueue _ _ _ _)) fun _ => h)
  | backoffExpiry c =>
    change execBackoffExpiry c s = _ at e
    exact .inl (h.running e fun h =>
      .ite (fun _ => (h.of_same (closeOrder_outQueue c .steady 0 s)).formAndOpen) fun _ => h)
  | orderDeadline c =>
    change execOrderDeadline c s = _ at e
    exact .inl (h.running e fun h => .ite (fun _ => h.deadline) fun _ => h)
  | armTx c =>
    change execArmTx c s = _ at e
    exact .inl (h.running e fun h => .ite (fun _ => h.of_same (armAtDeadline_outQueue c s)) fun _ => h)
  | orderSwitch c =>
    change execOrderSwitch c s = _ at e
    refine .inl (h.running e fun h => ?_)
    split
    · exact h.switchOrder.formAndOpen
    · exact h
  | applyEffect =>
    change execApplyEffect s = _ at e
    exact .inl (h.running e fun h => .ite (fun _ => h.of_same (applyBoundary_outQueue _ s)) fun _ => h)
  | quietEntry c =>
    change execQuietEntry c s = _ at e
    exact .inl (h.running e fun h => .ite (fun _ => h.enterQuiet) fun _ => h)
  | lockLossHalt c =>
    change execLockLossHalt c s = _ at e
    exact .inl (h.running e fun h => .ite (fun _ => h.haltedEntry) fun _ => h)
  | silenceHalt c =>
    change execSilenceHalt c s = _ at e
    exact .inl (h.running e fun h => .ite (fun _ => h.haltedEntry) fun _ => h)
  | holdoffExpiry c =>
    change execHoldoffExpiry c s = _ at e
    exact .inl (h.running e fun h => .ite (fun _ => h.enterSeeking) fun _ => h)
  | seekTimeout c =>
    change execSeekTimeout c s = _ at e
    exact .inl (h.running e fun h => .ite (fun _ => h.haltedEntry) fun _ => h)
  | ackWaitExpiry =>
    change execAckWaitExpiry s = _ at e
    exact .inl (h.running e fun h => .ite (fun _ => h.ackWaitExpired) fun _ => h)
  | recordCutShort newOctets =>
    change execRecordCutShort newOctets s = _ at e
    unfold execRecordCutShort at e
    split at e
    · exact .inl (h.running e fun h => h)
    · cases e
  | frameReport carrier frameIndex flags snrA snrB rslA rslB =>
    change execFrameReport carrier frameIndex flags snrA snrB rslA rslB s = _ at e
    exact .inl (h.running e fun _ => recordTaken.of_same (takeFrameReport_outQueue _ _ _ _ _ _ _ _))
  | slotRequest carrier =>
    change execSlotRequest carrier s = _ at e
    exact .inl (h.running e fun _ => recordTaken.takeSlotRequest)
  | frameGapTimeout => exact .inl (h.running e fun h => h)
  | badFrame octets => exact .inl (h.running e fun h => h)
  | requestFrame octets => exact .inl (h.running e fun h => h)
  | unknownKind =>
    change execUnknownKind s = _ at e
    refine .inl (h.running e fun h => ?_)
    split
    · exact h
    · exact .ite (fun _ => h) fun _ => h
  | frameTransmit =>
    change execFrameTransmit s = _ at e
    exact .inl (h.running e fun h => .ite (fun _ => h.restartEffect) fun _ => h.startNext)
  | setTimebase elapsed =>
    exact .inl (QueueFrom.served (s := modTimebase (Timebase.advance elapsed) s) h e fun _ _ g => g.takeSetTimebase)
  | identify => exact .inl (h.served e fun _ _ g => g)
  | getStatus => exact .inl (h.served e fun _ _ g => g)
  | getStats => exact .inl (h.served e fun f _ g => g.takeGetStats f)
  | getCarrier => exact .inl (h.served e fun f _ g => g.takeGetCarrier f)
  | setCarrier => exact .inl (h.served e fun _ _ g => g.takeSetCarrier)
  | restartCarrier => exact .inl (h.served e fun _ _ g => g.takeRestartCarrier)
  | enableProfiles => exact .inl (h.served e fun _ _ g => .ite (fun _ => g) fun _ => g)
  | disableProfiles => exact .inl (h.served e fun _ _ g => .ite (fun _ => g) fun _ => g)
  | writeProfiles => exact .inl (h.served e fun _ _ g => g.takeWriteProfiles)
  | readProfiles => exact .inl (h.served e fun f _ g => g.takeReadProfiles f)
  | applyTable => exact .inl (h.served e fun _ _ g => g.takeApplyTable)
  | pushTable => exact .inl (h.served e fun _ _ g => g.takePushTable)
  | abortPush => exact .inl (h.served e fun _ _ g => g.takeAbortPush)
  | setRemote => exact .inl (h.served e fun _ _ g => g.takeSetRemote)
  | readFades => exact .inl (h.served e fun f _ g => g.takeReadFades f)
  | setNotices => exact .inl (h.served e fun _ _ g => .ite (fun _ => g) fun _ => g)
  | saveSettings => exact .inl (h.served e fun _ _ g => .ite (fun _ => g) fun _ => g)
  | saveWriteEnd readBack =>
    change execSaveWriteEnd readBack s = _ at e
    refine .inl (h.running e fun h => ?_)
    split
    · exact h.endWrite
    · exact h
  | restart => exact .inl (h.served e fun _ _ g => g)

/-- Settles O10: a new CONFIRM is no move of the other kinds, so the command is a slot whose ORDER was accepted. -/
theorem confirmAnswersAnAcceptedOrder : Obligations.ConfirmAnswersAnAcceptedOrder := by
  intro s t m c id target e hm confirm new
  have entered {q : List Placed} (moved : QueueMoves s.outQueue q) : m ∉ q := fun old => by
    obtain ⟨y, hy, place, msg⟩ := moved.confirm_old old (by rw [confirm]; rfl)
    exact new y hy place msg
  cases waiting : s.pending with
  | nil =>
    rw [step_idle waiting] at e
    cases e
    exact absurd hm (entered (QueueFrom.tick .same))
  | cons i rest =>
    unfold step at e
    rw [waiting] at e
    rcases exec_queue i (s := { s with pending := rest }) e with moved | ⟨d, octets, ⟨pad, brought⟩, answers⟩
    · exact absurd hm (entered moved)
    · obtain ⟨x, c', id', target', pair, decoded, part, ⟨q, moved, queue⟩, armed⟩ := answers
      rw [queue, queueWith, List.mem_append, List.mem_singleton] at hm
      have placed : m = ⟨.v c', .confirm c' id' target', false⟩ :=
        hm.resolve_left fun old => entered moved (List.mem_filter.1 old).1
      subst placed
      obtain ⟨rfl, rfl, rfl⟩ : c' = c ∧ id' = id ∧ target' = target := by simpa using confirm
      exact ⟨i, rest, d, octets, pad, x, pair, rfl, brought, decoded, part, armed, rfl⟩

end Sys2Proof.Machine
end

section
/-! SUPPORT. Orders and cancels from the peer (R69 to R72): the armed order and its copy, the checks of R70, and what a RAC
makes of an ORDER and of a CANCEL. -/

namespace Sys2Proof.Machine

/-! ### The armed order -/

/-- A carrier whose RAC holds a given armed order, or none. -/
def CarrierState.withArmed (a : Option ArmedOrder) (k : CarrierState) : CarrierState :=
  { k with rac := { k.rac with armed := a } }

/-- Setting the armed order of a carrier changes its RAC, and with the pair flag its partner's (R71, R72). -/
theorem setArmed_spec (c : Carrier) (pair : Bool) (a : Option ArmedOrder) (s : State) :
    setArmed c pair a s = { s with carriers := (setArmed c pair a s).carriers } ∧
    ∀ d, (setArmed c pair a s).car d =
      if d = c ∨ (pair = true ∧ d = partner c) then (s.car d).withArmed a else s.car d := by
  have ne := partner_ne c
  unfold setArmed
  cases pair with
  | false =>
    refine ⟨rfl, fun d => ?_⟩
    by_cases h : d = c <;> simp [modRac, car_modCar, h, CarrierState.withArmed]
  | true =>
    refine ⟨rfl, fun d => ?_⟩
    by_cases h : d = c
    · subst h
      simp [modRac, car_modCar, ne.symm, CarrierState.withArmed]
    · by_cases h' : d = partner c
      · subst h'
        simp [modRac, car_modCar, ne, CarrierState.withArmed]
      · simp [modRac, car_modCar, h, h']

theorem modRac_eq (c : Carrier) (f : Rac → Rac) (s : State) :
    modRac c f s = { s with carriers := s.carriers.set c { s.car c with rac := f (s.car c).rac } } := rfl

theorem modRacStats_eq (c : Carrier) (f : RacStats → RacStats) (s : State) :
    modRacStats c f s = { s with carriers := s.carriers.set c { s.car c with
      stats := { (s.car c).stats with rac := f (s.car c).stats.rac } } } := rfl

/-- What a carrier holds after one of its RAC's counts has moved. -/
theorem car_modRacStats (c d : Carrier) (f : RacStats → RacStats) (s : State) :
    (modRacStats c f s).car d = if d = c then { s.car c with
      stats := { (s.car c).stats with rac := f (s.car c).stats.rac } } else s.car d := car_modCar c d _ s

theorem car_modRac (c d : Carrier) (f : Rac → Rac) (s : State) :
    (modRac c f s).car d = if d = c then { s.car c with rac := f (s.car c).rac } else s.car d := car_modCar c d _ s

@[simp] theorem car_emit (x : Directive) (s : State) (d : Carrier) : (emit x s).car d = s.car d := rfl

/-! ### A CANCEL -/

theorem takeCancel_discarded {c : Carrier} {id : Nat} {pair : Bool} {s : State}
    (h : s.link c = .disabled ∨ pair ≠ s.paired c) : takeCancel c id pair s = s := if_pos h

/-- A CANCEL whose id is not that of an armed order (R72). -/
theorem takeCancel_unarmed {c : Carrier} {id : Nat} {pair : Bool} {s : State} (on : s.link c ≠ .disabled)
    (same : pair = s.paired c) (other : ∀ a, (s.car c).rac.armed = some a → a.id ≠ id) :
    takeCancel c id pair s = modRac (s.gov c) (fun r => { r with lastCancelled := some id }) s := by
  unfold takeCancel
  rw [if_neg (by simp [on, same])]
  simp only
  split
  · rfl
  · rename_i a held
    rw [if_neg (other a held)]

/-- A CANCEL with the id of the armed order (R72). -/
theorem takeCancel_armed {c : Carrier} {id : Nat} {pair : Bool} {s : State} {a : ArmedOrder} (on : s.link c ≠ .disabled)
    (same : pair = s.paired c) (held : (s.car c).rac.armed = some a) (ids : a.id = id) :
    takeCancel c id pair s = modRac (s.gov c) (fun r => { r with lastCancelled := some id })
      (setArmed c a.pair none (emit (.disarmRx (orderMask c a.pair))
        (modRacStats (s.gov c) (fun x => { x with disarming := count32 x.disarming }) s))) := by
  unfold takeCancel
  rw [if_neg (by simp [on, same])]
  simp only [held, ids, if_true]

/-- Settles O31, by whether the CANCEL is discarded, finds no armed order of its id, or disarms one. -/
theorem cancelFromThePeer : Obligations.CancelFromThePeer := by
  rintro s t c id pair rfl
  refine ⟨takeCancel_discarded, fun on same => ⟨fun other => ?_, fun a held ids => ?_⟩⟩
  · rw [takeCancel_unarmed on same other, modRac_eq]
  · rw [takeCancel_armed on same held ids]
    generalize disarmed : setArmed c a.pair none (emit (.disarmRx (orderMask c a.pair))
      (modRacStats (s.gov c) (fun x => { x with disarming := count32 x.disarming }) s)) = u
    obtain ⟨only, cars⟩ := setArmed_spec c a.pair none (emit (.disarmRx (orderMask c a.pair))
      (modRacStats (s.gov c) (fun x => { x with disarming := count32 x.disarming }) s))
    rw [disarmed] at only cars
    refine ⟨?_, fun d => ?_⟩
    · rw [only]
      rfl
    · rw [car_modRac]
      obtain rfl | other := eq_or_ne d (s.gov c)
      · rw [if_pos rfl, cars]
        by_cases unarmed : s.gov c = c ∨ (a.pair = true ∧ s.gov c = partner c) <;>
          simp [car_modRacStats, CarrierState.withArmed, unarmed, count32]
      · rw [if_neg other, cars]
        by_cases unarmed : d = c ∨ (a.pair = true ∧ d = partner c) <;>
          simp [car_modRacStats, CarrierState.withArmed, unarmed, other]

/-! ### An ORDER -/

/-- The RAC of a carrier after an ORDER that is not ignored has cleared its ids; an upper carrier's are kept (R69). -/
def Rac.idsCleared (upper : Bool) (r : Rac) : Rac :=
  if upper then r else { r with lastCancelled := none, lastSwitched := none }

/-- The ids are cleared at the governing carrier, or kept at the lower carrier of a pair for an ORDER that names the
upper one (R69). -/
theorem idsCleared_eq (c : Carrier) (s : State) :
    (if s.isUpper c then s else modRac c (fun r => { r with lastCancelled := none, lastSwitched := none }) s) =
      modRac (s.gov c) (Rac.idsCleared (s.isUpper c)) s := by
  cases upper : s.isUpper c with
  | true => exact (set_car_self s (s.gov c)).symm
  | false =>
    rw [gov_of_not_upper upper, if_neg (by decide)]
    rfl

@[simp] theorem orderRefusal_modRac (g c : Carrier) (f : Rac → Rac) (s : State) (target : Nat) (pair : Bool) :
    (modRac g f s).orderRefusal c target pair = s.orderRefusal c target pair := by
  simp only [State.orderRefusal, State.link, State.inMismatch, modRac_car_sup, modRac_car_lac]
  rfl

/-- An ORDER that is not ignored: refused by the first check that fails, or accepted (R69 to R71). -/
theorem takeOrder_checked {c : Carrier} {id target : Nat} {pair : Bool} {s : State}
    (fresh : ¬ ((s.car (s.gov c)).rac.lastCancelled = some id ∨ (s.car (s.gov c)).rac.lastSwitched = some id)) :
    takeOrder c id target pair s = match s.orderRefusal c target pair with
      | some reason => placeMessage (.v c) (.refuse c id reason) (modRacStats (s.gov c) (RacStats.countRefusal reason)
          (modRac (s.gov c) (Rac.idsCleared (s.isUpper c)) s))
      | none => acceptOrder c id target pair (modRac (s.gov c) (Rac.idsCleared (s.isUpper c)) s) := by
  unfold takeOrder
  simp only [if_neg fresh, idsCleared_eq, orderRefusal_modRac]
  rfl

/-- An ORDER whose check fails: its REFUSE, and its count at the governing RAC (R70, R79). -/
theorem takeOrder_refused {c : Carrier} {id target : Nat} {pair : Bool} {s : State} {reason : Nat}
    (fresh : ¬ ((s.car (s.gov c)).rac.lastCancelled = some id ∨ (s.car (s.gov c)).rac.lastSwitched = some id))
    (refused : s.orderRefusal c target pair = some reason) :
    takeOrder c id target pair s = { s with
      carriers := s.carriers.set (s.gov c) { s.car (s.gov c) with
        rac := (s.car (s.gov c)).rac.idsCleared (s.isUpper c)
        stats := { (s.car (s.gov c)).stats with rac := (s.car (s.gov c)).stats.rac.countRefusal reason } }
      outQueue := queueWith (.v c) (.refuse c id reason) s.outQueue } := by
  rw [takeOrder_checked fresh, refused]
  simp [placeMessage, queueWith, modRacStats_eq, modRac_eq, State.car]

/-- A new arming at carrier `c`, which governs itself: the count, ARM_RX, the armed order with its copy, and the
CONFIRM (R71). -/
theorem freshArming_spec {c : Carrier} {u : State} (own : u.gov c = c) (id target : Nat) (pair : Bool) {t : State}
    (e : t = placeMessage (.v c) (.confirm c id target) (setArmed c pair (some ⟨id, target, pair⟩)
      (emit (.armRx (orderMask c pair) (u.entry target).modulation (u.entry target).code)
        (modRacStats (u.gov c) (fun x => { x with accepted := count32 x.accepted }) u)))) :
    t = { u with
      carriers := t.carriers
      modem := { u.modem with outbound := u.modem.outbound ++
        [.armRx (orderMask c pair) (u.entry target).modulation (u.entry target).code] }
      outQueue := queueWith (.v c) (.confirm c id target) u.outQueue } ∧
    ∀ d, t.car d = if d = c then { (u.car c).withArmed (some ⟨id, target, pair⟩) with
        stats := { (u.car c).stats with rac := { (u.car c).stats.rac with
          accepted := count32 (u.car c).stats.rac.accepted } } }
      else if pair = true ∧ d = partner c then (u.car d).withArmed (some ⟨id, target, pair⟩) else u.car d := by
  rw [own] at e
  generalize counted : emit (.armRx (orderMask c pair) (u.entry target).modulation (u.entry target).code)
    (modRacStats c (fun x => { x with accepted := count32 x.accepted }) u) = v at e
  obtain ⟨only, cars⟩ := setArmed_spec c pair (some ⟨id, target, pair⟩) v
  subst counted
  refine ⟨?_, fun d => ?_⟩
  · rw [e, only]
    rfl
  · rw [e, car_placeMessage, cars, car_emit, car_modRacStats]
    obtain rfl | other := eq_or_ne d c
    · simp [CarrierState.withArmed]
    · simp [other]

/-- An ORDER with the id and target of the armed order is a repeat: it is counted and confirmed again (R71). -/
theorem acceptOrder_repeat {c : Carrier} {id target : Nat} {pair : Bool} {s : State} {a : ArmedOrder}
    (held : (s.car c).rac.armed = some a) (same : a.id = id ∧ a.target = target) :
    acceptOrder c id target pair s = placeMessage (.v c) (.confirm c id target)
      (modRacStats (s.gov c) (fun x => { x with repeated := count32 x.repeated }) s) := by
  simp only [acceptOrder, held, if_pos same]

/-- An ORDER that is no repeat is armed anew at a carrier that governs itself; an order it replaces is counted (R71). -/
theorem acceptOrder_new {c : Carrier} {id target : Nat} {pair : Bool} {s : State} (own : s.gov c = c)
    (new : ∀ a, (s.car c).rac.armed = some a → a.id ≠ id ∨ a.target ≠ target) {t : State}
    (e : t = acceptOrder c id target pair s) :
    t = { s with
      carriers := t.carriers
      modem := { s.modem with outbound := s.modem.outbound ++
        [.armRx (orderMask c pair) (s.entry target).modulation (s.entry target).code] }
      outQueue := queueWith (.v c) (.confirm c id target) s.outQueue } ∧
    ∀ d, t.car d = if d = c then { (s.car c).withArmed (some ⟨id, target, pair⟩) with
        stats := { (s.car c).stats with rac := { (s.car c).stats.rac with
          accepted := count32 (s.car c).stats.rac.accepted
          replaced := if (s.car c).rac.armed = none then (s.car c).stats.rac.replaced
            else count32 (s.car c).stats.rac.replaced } } }
      else if pair = true ∧ d = partner c then (s.car d).withArmed (some ⟨id, target, pair⟩) else s.car d := by
  unfold acceptOrder at e
  cases held : (s.car c).rac.armed with
  | none =>
    simp only [held] at e
    exact freshArming_spec own id target pair e
  | some a =>
    have other : ¬ (a.id = id ∧ a.target = target) := fun h => (new a held).elim (· h.1) (· h.2)
    simp only [held, if_neg other, own] at e
    obtain ⟨only, cars⟩ := freshArming_spec (u := modRacStats c (fun x => { x with replaced := count32 x.replaced }) s)
      own id target pair e
    refine ⟨only, fun d => (cars d).trans ?_⟩
    obtain rfl | apart := eq_or_ne d c
    · simp [car_modRacStats, CarrierState.withArmed]
    · simp [car_modRacStats, apart]

/-! ### The checks of R70 -/

section

variable {s : State} {c : Carrier} {target : Nat} {pair : Bool}

theorem orderRefusal_inactive (inactive : s.link c ≠ .active ∨ (pair = true ∧ s.link (partner c) ≠ .active)) :
    s.orderRefusal c target pair = some 1 := if_pos (by simpa using inactive)

variable (active : s.link c = .active) (both : pair = true → s.link (partner c) = .active)

include active both

theorem orderRefusal_mismatch
    (differs : (s.car c).lac.mismatch = true ∨ (pair = true ∧ (s.car (partner c)).lac.mismatch = true)) :
    s.orderRefusal c target pair = some 2 := by
  unfold State.orderRefusal
  rw [if_neg (by simpa [active] using both), if_pos (by simpa [State.inMismatch] using differs)]
  rfl

variable (agrees : (s.car c).lac.mismatch = false) (copies : pair = true → (s.car (partner c)).lac.mismatch = false)

include agrees copies

theorem orderRefusal_noProfile (high : s.tables.active.length ≤ target) : s.orderRefusal c target pair = some 3 := by
  unfold State.orderRefusal
  rw [if_neg (by simpa [active] using both), if_neg (by simpa [State.inMismatch, agrees] using copies),
    if_pos (by exact high)]
  rfl

theorem orderRefusal_pairSplit (low : target < s.tables.active.length) (splits : pair ≠ s.paired c ∨ s.isUpper c = true) :
    s.orderRefusal c target pair = some 4 := by
  unfold State.orderRefusal
  rw [if_neg (by simpa [active] using both), if_neg (by simpa [State.inMismatch, agrees] using copies),
    if_neg (by simpa [State.nUsed] using low), if_pos (by simpa using splits)]
  rfl

theorem orderRefusal_none (low : target < s.tables.active.length) (pairing : pair = s.paired c)
    (lower : s.isUpper c = false) : s.orderRefusal c target pair = none := by
  unfold State.orderRefusal
  rw [if_neg (by simpa [active] using both), if_neg (by simpa [State.inMismatch, agrees] using copies),
    if_neg (by simpa [State.nUsed] using low), if_neg (by simp [pairing, lower])]

end

/-- Settles O30: ignored by its id, else refused by the first check that fails, else a repeat or a new arming. -/
theorem orderFromThePeer : Obligations.OrderFromThePeer := by
  rintro s t c id target pair k x r rfl rfl rfl cleared
  replace cleared : r = (s.car (s.gov c)).rac.idsCleared (s.isUpper c) := cleared
  refine ⟨fun known => if_pos known, fun notCancelled notSwitched => ?_⟩
  have fresh : ¬ ((s.car (s.gov c)).rac.lastCancelled = some id ∨ (s.car (s.gov c)).rac.lastSwitched = some id) :=
    fun h => h.elim notCancelled notSwitched
  refine ⟨fun reason x' fails => ?_, fun active both agrees copies low pairing lower => ?_⟩
  · obtain ⟨refused, counted⟩ : s.orderRefusal c target pair = some reason ∧
        (s.car (s.gov c)).stats.rac.countRefusal reason = x' := by
      rcases fails with ⟨rfl, rfl, h⟩ | ⟨active, both, ⟨rfl, rfl, h⟩ | ⟨agrees, copies, h⟩⟩
      · exact ⟨orderRefusal_inactive h, rfl⟩
      · exact ⟨orderRefusal_mismatch active both h, rfl⟩
      · rcases h with ⟨rfl, rfl, high⟩ | ⟨low, rfl, rfl, splits⟩
        · exact ⟨orderRefusal_noProfile active both agrees copies high, rfl⟩
        · exact ⟨orderRefusal_pairSplit active both agrees copies low splits, rfl⟩
    rw [takeOrder_refused fresh refused, counted, ← cleared]
  · have own : s.gov c = c := gov_of_not_upper lower
    have accepted := takeOrder_checked fresh (target := target) (pair := pair)
    rw [orderRefusal_none active both agrees copies low pairing lower] at accepted
    rw [own, lower] at accepted cleared
    rw [own]
    subst cleared
    generalize taken : takeOrder c id target pair s = t at accepted
    change t = acceptOrder c id target pair (modRac c (Rac.idsCleared false) s) at accepted
    have armed : ((modRac c (Rac.idsCleared false) s).car c).rac.armed = (s.car c).rac.armed := by simp [Rac.idsCleared]
    refine ⟨?_, fun new => ?_⟩
    · rintro ⟨a, held, same⟩
      rw [accepted, acceptOrder_repeat (armed.trans held) same]
      have own' : (modRac c (Rac.idsCleared false) s).gov c = c := own
      rw [own']
      simp [placeMessage, queueWith, modRacStats_eq, modRac_eq, State.car, count32]
    · obtain ⟨only, cars⟩ := acceptOrder_new (s := modRac c (Rac.idsCleared false) s) own (by rwa [armed]) accepted
      refine ⟨only, fun d => (cars d).trans ?_⟩
      rw [armed]
      obtain rfl | apart := eq_or_ne d c
      · simp [car_modRac, CarrierState.withArmed, count32]
      · simp [car_modRac, CarrierState.withArmed, apart]

end Sys2Proof.Machine
end

section
/-! SUPPORT. A toggle (R74, R147): what a RAC makes of it, with and without an armed order. -/

namespace Sys2Proof.Machine

/-! ### The toggle -/

/-- A carrier that switches to the target of its armed order; an upper carrier of a pair keeps its last switched id
(R74, R147). -/
def CarrierState.switched (upper : Bool) (o : ArmedOrder) (k : CarrierState) : CarrierState :=
  { k with
    rac := { k.rac with
      current := o.target, armed := none, advice := o.target, hold := 0
      lastSwitched := if upper then k.rac.lastSwitched else some o.id }
    fade := k.fade.map (lowerFade o.target) }

theorem takeToggle_unarmed {c : Carrier} {s : State} (h : (s.car c).rac.armed = none) :
    takeToggle c s = modRacStats c (fun x => { x with unexpected := count32 x.unexpected }) s := by
  simp only [takeToggle, h]

theorem gov_ne_of_upper {s : State} {c : Carrier} (h : s.isUpper c = true) : s.gov c ≠ c := by
  simp only [State.isUpper, Bool.and_eq_true, bne_iff_ne] at h
  rw [State.gov, if_pos h.1]
  exact h.2.symm

/-- A toggle with an armed order: the carrier switches, the governing carrier has the last switched id, and
PROFILE_CHANGED is placed (R74). -/
theorem takeToggle_armed {c : Carrier} {s t : State} {o : ArmedOrder} (h : (s.car c).rac.armed = some o)
    (e : t = takeToggle c s) :
    t = { s with carriers := t.carriers, port := t.port } ∧
    Noticed (.profileChanged c true (s.car c).rac.current o.target) s t.port ∧
    t.car c = (s.car c).switched (s.isUpper c) o ∧
    ∀ d, d ≠ c → t.car d = { s.car d with rac := { (s.car d).rac with
      lastSwitched := if d = s.gov c then some o.id else (s.car d).rac.lastSwitched } } := by
  simp only [takeToggle, h] at e
  generalize moved : modCar c (fun k => { k with fade := k.fade.map (lowerFade o.target) })
    (modRac (s.gov c) (fun r => { r with lastSwitched := some o.id })
      (modRac c (fun r => { r with current := o.target, armed := none, advice := o.target, hold := 0 }) s)) = v
  have placed : t = placeNotice (.profileChanged c true (s.car c).rac.current o.target) v := by
    rw [e, ← moved]
    rfl
  have car (d : Carrier) : t.car d = v.car d := by rw [placed, car_placeNotice]
  obtain ⟨p, port, noticed⟩ := placeNotice_spec (.profileChanged c true (s.car c).rac.current o.target) v
  rw [port] at placed
  subst placed
  refine ⟨?_, ?_, (car c).trans ?_, fun d apart => (car d).trans ?_⟩
  · rw [← moved]
    rfl
  · rw [← moved] at noticed
    exact noticed
  · rw [← moved, car_modCar_same]
    cases upper : s.isUpper c with
    | true => simp [car_modRac, (gov_ne_of_upper upper).symm, CarrierState.switched]
    | false => simp [car_modRac, gov_of_not_upper upper, CarrierState.switched]
  · rw [← moved, car_modCar_other _ _ apart]
    obtain rfl | other := eq_or_ne d (s.gov c)
    · simp [car_modRac, apart]
    · simp [car_modRac, apart, other]

/-! ### A report with its toggle taken away -/

/-- Without flag 4 a report is conditioned as before, its toggle apart (R8). -/
theorem conditionReport_untoggled (i fl a b x y : Byte) :
    conditionReport i (fl &&& 0xEF) a b x y = { conditionReport i fl a b x y with toggle := false } := by
  have kept (j : Nat) (h : (0xEF : Byte).getLsbD j = true) : (fl &&& 0xEF).getLsbD j = fl.getLsbD j := by
    rw [BitVec.getLsbD_and, h, Bool.and_true]
  have bit4 : (fl &&& 0xEF).getLsbD 4 = false := by
    rw [BitVec.getLsbD_and, show (0xEF : Byte).getLsbD 4 = false from rfl, Bool.and_false]
  simp only [conditionReport, kept 0 rfl, kept 1 rfl, kept 3 rfl, bit4, Bool.false_and]

/-- Settles O28: the report without its toggle, and then the toggle, by whether an order is armed. -/
theorem toggleMovesTheProfile : Obligations.ToggleMovesTheProfile := by
  intro s c i fl snrA snrB rslA rslB high on index new bit4 bit2
  have accepted (f : Byte) := (exec_frameReport high c index f snrA snrB rslA rslB).trans
    (congrArg Host.Outcome.next (attributeReport_unseen (s := recordTaken s)
      (r := conditionReport i f snrA snrB rslA rslB) on new))
  generalize taken : takeToggle c ((recordTaken s).setCar c
    (((recordTaken s).car c).reported (conditionReport i fl snrA snrB rslA rslB))) = t
  generalize reported : (recordTaken s).setCar c
    (((recordTaken s).car c).reported (conditionReport i fl snrA snrB rslA rslB)) = u at taken
  have toggled : (conditionReport i fl snrA snrB rslA rslB).toggle = true := by simp [conditionReport, bit4, bit2]
  have car : u.car c = (s.car c).reported (conditionReport i fl snrA snrB rslA rslB) := by
    rw [← reported, State.car_setCar_same]
    rfl
  refine ⟨t, u, ?_, ?_, fun unarmed => ?_, fun o armed => ?_⟩
  · rw [accepted, acceptReport_eq, if_pos toggled, reported, taken]
  · rw [accepted, acceptReport_eq, conditionReport_untoggled, if_neg (by simp), ← reported]
    rfl
  · have held : (u.car c).rac.armed = none := by
      rw [car]
      exact unarmed
    rw [← taken, takeToggle_unarmed held]
    rfl
  · have held : (u.car c).rac.armed = some o := by
      rw [car]
      exact armed
    obtain ⟨only, noticed, own, others⟩ := takeToggle_armed held taken.symm
    have upper : u.isUpper c = s.isUpper c := by rw [← reported]; rfl
    have gov : u.gov c = s.gov c := by rw [← reported]; rfl
    rw [upper] at own
    rw [gov] at others
    refine ⟨by rw [own]; rfl, ?_, by rw [own, car]; rfl, by rw [own]; rfl, others, only, ?_⟩
    · cases lower : s.isUpper c with
      | true => rw [others _ (gov_ne_of_upper lower), if_pos rfl]
      | false => rw [gov_of_not_upper lower, own, CarrierState.switched, lower, if_neg (by decide)]
    · rw [car, ← reported] at noticed
      exact noticed

end Sys2Proof.Machine
end

section
/-! SUPPORT. The advice and power decision (R62 to R67), case by case, and the RAC's work at a boundary (R63). -/

namespace Sys2Proof.Machine

/-! ### The decision of R64 -/

section

variable {x : DecisionInput} {r : Rac}

/-- A deficit that the peer's headroom covers asks for power (R65). -/
theorem decideAdvice_power (short : 0 < deficit x r.current)
    (covered : deficit x r.current ≤ 16 * (min (r.peerHeadroom.getD 0) 3 : Nat)) :
    decideAdvice x r = { r with power := (deficit x r.current + 15) / 16, advice := r.current, hold := 0 } := by
  simp only [decideAdvice, if_pos short, if_pos covered]

/-- A deficit that it does not cover asks for a downshift too (R65). -/
theorem decideAdvice_down (short : 0 < deficit x r.current)
    (uncovered : 16 * ((min (r.peerHeadroom.getD 0) 3 : Nat) : Int) < deficit x r.current) :
    decideAdvice x r = { r with
      advice := downshiftTo x r.current, power := (min (r.peerHeadroom.getD 0) 3 : Nat), hold := 0 } := by
  simp only [decideAdvice, if_pos short, if_neg (Int.not_le.2 uncovered)]

/-- The ceiling of an upshift: the Active Table's last index and the peer's cap, none taken as 0 (R62, R66). -/
def upshiftCeiling (x : DecisionInput) (r : Rac) : Nat := min (x.table.length - 1) (r.peerCap.getD 0)

/-- Without a deficit and without a candidate the profile stays (R66, R67). -/
theorem decideAdvice_stay (enough : deficit x r.current ≤ 0)
    (none : upshiftCandidate x r.current (upshiftCeiling x r) = none) :
    decideAdvice x r = { r with
      hold := 0, advice := r.current
      power := if x.rslMin < x.rslLo ∧ 0 < r.peerHeadroom.getD 0 then 1
        else if x.rslHi < x.rslMin ∧ r.peerAtten.getD 30 < 30 then -1 else 0 } := by
  unfold upshiftCeiling at none
  simp only [decideAdvice, if_neg (Int.not_lt.2 enough), none, true_and]

/-- Without a deficit and with a candidate the hold counts, and from up_hold on an upshift is advised (R66, R67). -/
theorem decideAdvice_up {u : Nat} (enough : deficit x r.current ≤ 0)
    (some : upshiftCandidate x r.current (upshiftCeiling x r) = some u) :
    decideAdvice x r = { r with
      hold := count8 r.hold
      advice := if x.upHold ≤ count8 r.hold then min u (r.current + x.upStep) else r.current
      power := if x.rslMin < x.rslLo ∧ 0 < r.peerHeadroom.getD 0 then 1 else 0 } := by
  unfold upshiftCeiling at some
  simp only [decideAdvice, if_neg (Int.not_lt.2 enough), some, reduceCtorEq, false_and, and_false, if_false]

/-- The downshift goes to the highest lower profile whose threshold p clears, or to 0 (R65). -/
theorem downshiftTo_spec (x : DecisionInput) (cur : Nat) :
    ((downshiftTo x cur < cur ∧ (x.at (downshiftTo x cur)).thr ≤ x.p) ∨ downshiftTo x cur = 0) ∧
    ∀ i, downshiftTo x cur < i → i < cur → x.p < (x.at i).thr := by
  have le : downshiftTo x cur ≤ cur - 1 := highestUpTo_le _ _
  refine ⟨?_, fun i above below => ?_⟩
  · rcases highestUpTo_zero_or (fun i => decide ((x.at i).thr ≤ x.p)) (cur - 1) with zero | clears
    · exact .inr zero
    · by_cases base : downshiftTo x cur = 0
      · exact .inr base
      · exact .inl ⟨by omega, by simpa [downshiftTo] using clears⟩
  · by_contra clears
    have reached : i ≤ downshiftTo x cur :=
      le_highestUpTo (by omega) (by simpa using Nat.le_of_not_lt clears)
    omega

/-- No candidate: no profile above the current one up to the ceiling clears its threshold and the margin (R66). -/
theorem upshiftCandidate_none {cur ceilP : Nat}
    (unclear : ∀ i, cur < i → i ≤ ceilP → x.p < (x.at i).thr + x.margin) : upshiftCandidate x cur ceilP = none := by
  refine if_neg fun above => ?_
  rcases highestUpTo_zero_or (fun i => decide (cur < i ∧ (x.at i).thr + x.margin ≤ x.p)) ceilP with zero | clears
  · omega
  · have := unclear _ above (highestUpTo_le _ _)
    simp only [decide_eq_true_eq] at clears
    omega

/-- The candidate is the highest profile up to the ceiling that clears its threshold and the margin (R66). -/
theorem upshiftCandidate_some {cur ceilP u : Nat} (above : cur < u) (le : u ≤ ceilP)
    (clears : (x.at u).thr + x.margin ≤ x.p) (highest : ∀ i, u < i → i ≤ ceilP → x.p < (x.at i).thr + x.margin) :
    upshiftCandidate x cur ceilP = some u := by
  have found : highestUpTo (fun i => decide (cur < i ∧ (x.at i).thr + x.margin ≤ x.p)) ceilP = u := by
    refine Nat.le_antisymm ?_ (le_highestUpTo le (by simpa using ⟨above, clears⟩))
    by_contra higher
    rcases highestUpTo_zero_or (fun i => decide (cur < i ∧ (x.at i).thr + x.margin ≤ x.p)) ceilP with zero | ok
    · omega
    · have := highest _ (by omega) (highestUpTo_le (fun i => decide (cur < i ∧ (x.at i).thr + x.margin ≤ x.p)) ceilP)
      simp only [decide_eq_true_eq] at ok
      omega
  simp only [upshiftCandidate, found, if_pos above]

end

/-! ### The RAC's work at a boundary -/

/-- The bound of R63 on a decision, which leaves the RX current profile as it is. -/
theorem bounded_decideAdvice (upStep : Nat) (x : DecisionInput) (r : Rac) : (decideAdvice x r).bounded upStep =
    { decideAdvice x r with advice := min (decideAdvice x r).advice (r.current + upStep) } :=
  congrArg (fun cur => { decideAdvice x r with advice := min (decideAdvice x r).advice (cur + upStep) })
    (decideAdvice_profiles x r).1

/-- Settles O29: the decision by the deficit and the candidate, and the work at a boundary by the link state. -/
theorem adviceDecision : Obligations.AdviceDecision := by
  refine ⟨?_, ?_⟩
  · rintro x r t d h a ceilP rfl deficitIs rfl rfl rfl
    replace deficitIs : deficit x r.current = d := deficitIs.symm
    refine ⟨?_, fun short covered => ?_, fun short uncovered => ?_, fun enough unclear => ?_,
      fun u enough above le clears highest => ?_⟩
    · unfold decideAdvice
      simp only
      split
      · split <;> rfl
      · split <;> rfl
    · rw [decideAdvice_power (by rwa [deficitIs]) (by rwa [deficitIs]), deficitIs]
      exact ⟨rfl, rfl, by simp only; omega, by simp only; omega⟩
    · rw [decideAdvice_down (by rwa [deficitIs]) (by rwa [deficitIs])]
      exact ⟨rfl, rfl, downshiftTo_spec x r.current⟩
    · rw [decideAdvice_stay (by rwa [deficitIs]) (upshiftCandidate_none unclear)]
      exact ⟨rfl, rfl, rfl⟩
    · rw [decideAdvice_up (by rwa [deficitIs]) (upshiftCandidate_some above le clears highest)]
      exact ⟨rfl, rfl, rfl⟩
  · rintro s t c present k g rfl rfl rfl
    refine ⟨fun off => ?_, fun held => ?_, fun active here => ⟨_, rfl, ?_⟩⟩
    · rcases off with off | off | off <;> simp only [racBoundary, State.link, off]
    · rcases held with quiet | ⟨active, rfl⟩
      · simp only [racBoundary, State.link, quiet, modRac_eq, Rac.bounded]
      · simp only [racBoundary, State.link, active, modRac_eq, Rac.bounded, Bool.false_eq_true, if_false]
    · simp only [racBoundary, State.link, active, here, modRac_eq, bounded_decideAdvice, if_true]
      rfl

end Sys2Proof.Machine
end

section
/-! SUPPORT. A valid slot taken in its stages (R119): the peer records, the receipt, and the header, each as what it makes
of the carrier and of the device. -/

namespace Sys2Proof.Machine

/-! ### The stages at the carrier -/

/-- A carrier after stage 1: its peer records, and the counts of the slot (R119, R121, R125). -/
def CarrierState.recorded (x : Slot) (paired : Bool) (k : CarrierState) : CarrierState :=
  { k with
    lac := { k.lac with peerState := some x.link, peerSeq := some x.seq, peerPair := some x.pair }
    stats := { k.stats with lac := { k.stats.lac with
      valid := count32 k.stats.lac.valid
      breaks := if sequenceBreaks k.lac.peerSeq x.seq then count32 k.stats.lac.breaks else k.stats.lac.breaks
      pairDisagreements := if x.pair != paired then count32 k.stats.lac.pairDisagreements
        else k.stats.lac.pairDisagreements } } }

/-- A carrier whose miss counter the receipt of a slot has cleared, a link-up counted when it was SEEKING (R133, R140). -/
def CarrierState.heard (k : CarrierState) : CarrierState :=
  { k with
    sup := { k.sup with miss := 0 }
    stats := { k.stats with sup := { k.stats.sup with
      linkUps := if k.sup.link = .seeking then count32 k.stats.sup.linkUps else k.stats.sup.linkUps } } }

/-- A carrier that has entered ACTIVE (R61, R141). -/
def CarrierState.activated (k : CarrierState) : CarrierState :=
  { k with
    sup := { k.sup with link := .active, seek := 0 }, rac := { k.rac with unlocked := 0 }
    wires := { k.wires with link := false } }

/-- A carrier after stages 4 to 6, with the own digest (R62, R84, R122). -/
def CarrierState.headed (x : Slot) (own : Word16) (k : CarrierState) : CarrierState :=
  { k with
    rac := { k.rac with
      peerHeadroom := some (min x.headroom 30), peerAtten := some (min x.atten 30), peerCap := some x.cap }
    tac := { k.tac with latestAdvice := some x.advice, pendingPower := some x.power }
    lac := { k.lac with peerDigest := some x.digest, mismatch := x.digest != own }
    wires := { k.wires with mismatch := x.digest != own } }

/-! ### The stages at the device -/

theorem takePeerRecords_eq (c : Carrier) (x : Slot) (s : State) :
    takePeerRecords c x s = s.setCar c ((s.car c).recorded x (s.paired c)) := by
  simp [takePeerRecords, modLac, modLacStats, modStats, modCar, State.setCar, State.car, CarrierState.recorded]

/-- The sender's following speaks of the link states, the sender and the Out Queue after it alone. -/
theorem SenderFollows.congr {q : List Placed} {s t u : State} (h : SenderFollows q s t) (links : ∀ c, u.link c = t.link c)
    (sender : u.sender = t.sender) (queue : u.outQueue = t.outQueue) : SenderFollows q s u := by
  unfold SenderFollows at *
  simpa only [links, sender, queue] using h

/-- A carrier enters ACTIVE: it alone changes, with the collapsed wires, ALERT and the notices, and the sender follows
(R61, R141, R164). -/
theorem enterActive_spec (c : Carrier) (s : State) :
    ∃ (a : BitVec 6) (b : Bool) (p : Port),
      enterActive c s = { s with
        carriers := s.carriers.set c (s.car c).activated, alarms := { s.alarms with collapsed := a, alert := b }, port := p
        sender := (enterActive c s).sender, outQueue := (enterActive c s).outQueue } ∧
      s.port.sameButNotices p ∧ SenderFollows s.outQueue s (enterActive c s) := by
  obtain ⟨a, b, p, wired, same⟩ := setWire_spec .link c false (modRac c (fun r => { r with unlocked := 0 })
    (modSup c (fun x => { x with link := .active, seek := 0 }) s))
  have activated : setWire .link c false (modRac c (fun r => { r with unlocked := 0 })
      (modSup c (fun x => { x with link := .active, seek := 0 }) s)) = { s with
        carriers := s.carriers.set c (s.car c).activated
        alarms := { s.alarms with collapsed := a, alert := b }, port := p } := by
    rw [wired]
    simp [modRac, modSup, modCar, State.setCar, State.car, CarrierState.activated, CarrierWires.set]
  obtain ⟨follows, only⟩ := senderFollowsLinks_spec { s with
    carriers := s.carriers.set c (s.car c).activated, alarms := { s.alarms with collapsed := a, alert := b }, port := p }
  unfold enterActive
  rw [activated]
  exact ⟨a, b, p, only, same, follows⟩

/-- The receipt of a slot at a carrier that it does not halt: the carrier is heard, and enters ACTIVE unless it is
(R133, R135, R136, R140). -/
theorem takeReceipt_stays {c : Carrier} {peer : LinkState} {s : State}
    (stays : s.link c = .seeking ∨
      ((s.link c = .active ∨ s.link c = .quiet) ∧ (peer ≠ .seeking ∨ s.staysInService c = true))) :
    takeReceipt c peer s = if s.link c = .active then s.setCar c (s.car c).heard
      else enterActive c (s.setCar c (s.car c).heard) := by
  have link : (modSup c (fun x => { x with miss := 0 }) s).link c = s.link c := by simp [State.link]
  have base : (modSup c (fun x => { x with miss := 0 }) s).staysInService c = s.staysInService c := by
    simp only [State.staysInService, CarrierState.atBase, modSup_car_tac, modSup_car_rac]
    rfl
  have heard (h : s.link c ≠ .seeking) : modSup c (fun x => { x with miss := 0 }) s = s.setCar c (s.car c).heard := by
    rw [State.link] at h
    simp only [CarrierState.heard, if_neg h]
    rfl
  unfold takeReceipt
  simp only [link, base]
  rcases stays with seeking | ⟨active | quiet, stays⟩
  · have up : modSupStats c (fun x => { x with linkUps := count32 x.linkUps })
        (modSup c (fun x => { x with miss := 0 }) s) = s.setCar c (s.car c).heard := by
      rw [State.link] at seeking
      simp [modSupStats, modStats, modSup, modCar, State.setCar, State.car, CarrierState.heard] at seeking ⊢
      simp [seeking]
    simp only [seeking, up, reduceCtorEq, if_false]
  · have kept : ¬ (peer = .seeking ∧ s.staysInService c = false) := fun h => by simp [h.1, h.2] at stays
    simp only [active, if_neg kept, if_true]
    exact heard (by simp [active])
  · have kept : ¬ (peer = .seeking ∧ s.staysInService c = false) := fun h => by simp [h.1, h.2] at stays
    simp only [quiet, if_neg kept, reduceCtorEq, if_false, heard (by simp [quiet] : s.link c ≠ .seeking)]

/-- Stages 4 to 6 change the carrier, the collapsed wires, ALERT and the notices (R119, R122). -/
theorem takeHeader_spec (c : Carrier) (x : Slot) (s : State) :
    ∃ (a : BitVec 6) (b : Bool) (p : Port),
      takeHeader c x s = { s with
        carriers := s.carriers.set c ((s.car c).headed x s.tables.digest)
        alarms := { s.alarms with collapsed := a, alert := b }, port := p } ∧ s.port.sameButNotices p := by
  obtain ⟨a, b, p, formed, same⟩ := formMismatch_spec c (modLac c (fun l => { l with peerDigest := some x.digest }) s)
  refine ⟨a, b, p, ?_, same⟩
  unfold takeHeader
  rw [formed]
  simp [modTac, modRac, modLac, modCar, State.setCar, State.car, CarrierState.headed, mismatchOf]

/-! ### The whole slot -/

theorem exec_slotIn {s : State} (high : s.resetHeld = false) (c : Carrier) {o : List Byte} (length : o.length = 16) :
    exec (.slotIn (carrierByte c) o) s = .next (takeSlot c o (recordTaken s)) := by
  change execSlotIn (carrierByte c) o s = _
  rw [execSlotIn, if_pos length, running_high _ high]
  simp only [takeSlotIn, carrierOf_carrierByte]

theorem takeSlot_stages {c : Carrier} {o : List Byte} {x : Slot} {s : State} (decoded : decodeSlot c o = some x)
    (up : s.link c = .seeking ∨ s.link c = .active ∨ s.link c = .quiet) : takeSlot c o s = takeSlotStages c x s := by
  unfold takeSlot
  rcases up with up | up | up <;> simp only [decoded, up]

/-- The sequence of a carrier breaks at a header that does not follow the last one (R121). -/
theorem ite_sequenceBreaks {α : Type} (last : Option Byte) (seq : Byte) (a b : α) :
    (if sequenceBreaks last seq then a else b) = if last = none ∨ last.map (· + 1) = some seq then b else a := by
  cases last with
  | none => rfl
  | some y =>
    by_cases follows : y + 1#8 = seq
    · simp [sequenceBreaks, follows]
    · simp [sequenceBreaks, follows, Ne.symm follows]

/-- A carrier after stages 1 to 3 of a slot that its receipt does not halt, with the pairing. -/
def CarrierState.received (x : Slot) (paired : Bool) (k : CarrierState) : CarrierState :=
  if k.sup.link = .active then (k.recorded x paired).heard else (k.recorded x paired).heard.activated

theorem CarrierState.received_link (x : Slot) (paired : Bool) (k : CarrierState) :
    (k.received x paired).sup.link = .active := by
  unfold received
  split
  next h => exact h
  next => rfl

/-- A carrier after stages 1 to 6, part by part. -/
theorem CarrierState.headed_received (x : Slot) (paired : Bool) (own : Word16) (k : CarrierState) :
    (k.received x paired).headed x own = { k with
      rac := { k.rac with
        peerHeadroom := some (min x.headroom 30), peerAtten := some (min x.atten 30), peerCap := some x.cap
        unlocked := if decide (k.sup.link ≠ .active) then 0 else k.rac.unlocked }
      tac := { k.tac with latestAdvice := some x.advice, pendingPower := some x.power }
      lac := { peerDigest := some x.digest, peerState := some x.link, peerSeq := some x.seq, peerPair := some x.pair,
               mismatch := decide (x.digest ≠ own) }
      sup := { k.sup with
        link := .active, miss := 0, seek := if decide (k.sup.link ≠ .active) then 0 else k.sup.seek }
      wires := { k.wires with
        link := k.wires.link && !decide (k.sup.link ≠ .active), mismatch := decide (x.digest ≠ own) }
      stats := { k.stats with
        lac := { k.stats.lac with
          valid := count32 k.stats.lac.valid
          breaks := if k.lac.peerSeq = none ∨ k.lac.peerSeq.map (· + 1) = some x.seq then k.stats.lac.breaks
            else count32 k.stats.lac.breaks
          pairDisagreements := if x.pair = paired then k.stats.lac.pairDisagreements
            else count32 k.stats.lac.pairDisagreements }
        sup := { k.stats.sup with
          linkUps := if k.sup.link = .seeking then count32 k.stats.sup.linkUps else k.stats.sup.linkUps } } } := by
  have differs : (x.digest != own) = decide (x.digest ≠ own) := by rw [decide_not]; rfl
  have disagrees (a b : Nat) : (if x.pair != paired then a else b) = if x.pair = paired then b else a := by
    by_cases same : x.pair = paired <;> simp [same]
  by_cases was : k.sup.link = .active
  · simp only [received, headed, recorded, heard, was, ite_sequenceBreaks, differs, disagrees, if_true]
    simp [← was]
  · simp only [received, headed, recorded, heard, activated, was, ite_sequenceBreaks, differs, disagrees, if_false]
    simp [was]

/-- What stage 1 leaves for the test of R136. -/
theorem staysInService_recorded (c : Carrier) (x : Slot) (s : State) :
    (takePeerRecords c x s).staysInService c = s.staysInService c := by
  have same : (takePeerRecords c x s).car c = (s.car c).recorded x (s.paired c) := by
    rw [takePeerRecords_eq, State.car_setCar_same]
  have other : (takePeerRecords c x s).car (partner c) = s.car (partner c) := by
    rw [takePeerRecords_eq]
    exact Four.get_set_other _ _ (partner_ne c)
  simp only [State.staysInService, CarrierState.atBase, same, other, CarrierState.recorded]
  rfl

/-- Stages 4 to 6 leave the links, the sender and the Out Queue. -/
theorem takeHeader_keeps (c : Carrier) (x : Slot) (s : State) :
    (∀ d, (takeHeader c x s).link d = s.link d) ∧ (takeHeader c x s).sender = s.sender ∧
      (takeHeader c x s).outQueue = s.outQueue := by
  obtain ⟨a, b, p, headed, -⟩ := takeHeader_spec c x s
  refine ⟨fun d => ?_, by rw [headed], by rw [headed]⟩
  rw [headed]
  change ((s.carriers.set c ((s.car c).headed x s.tables.digest)).get d).sup.link = _
  rw [Four.get_set]
  split
  next same => rw [same]; rfl
  next => rfl

/-- Stages 1 to 3 of a slot, in one state (R119). -/
def slotReceived (c : Carrier) (x : Slot) (s : State) : State :=
  takeReceipt c x.link (takePeerRecords c x s)

/-- Stages 1 to 3 of a slot that does not halt its carrier: the carrier alone changes, with the collapsed wires, ALERT
and the notices; the sender follows where the carrier enters ACTIVE, and stands else. -/
theorem slotReceived_spec {c : Carrier} {x : Slot} {s : State}
    (stays : s.link c = .seeking ∨
      ((s.link c = .active ∨ s.link c = .quiet) ∧ (x.link ≠ .seeking ∨ s.staysInService c = true))) :
    ∃ (a : BitVec 6) (b : Bool) (p : Port),
      slotReceived c x s = { s with
        carriers := s.carriers.set c ((s.car c).received x (s.paired c))
        alarms := { s.alarms with collapsed := a, alert := b }, port := p
        sender := (slotReceived c x s).sender, outQueue := (slotReceived c x s).outQueue } ∧
      s.port.sameButNotices p ∧
      (s.link c ≠ .active → SenderFollows s.outQueue s (slotReceived c x s)) ∧
      (s.link c = .active → (slotReceived c x s).sender = s.sender ∧ (slotReceived c x s).outQueue = s.outQueue) := by
  have recorded := takePeerRecords_eq c x s
  have link : (takePeerRecords c x s).link c = s.link c := by
    rw [recorded, State.link, State.car_setCar_same]
    rfl
  have heard : (takePeerRecords c x s).setCar c ((takePeerRecords c x s).car c).heard =
      s.setCar c ((s.car c).recorded x (s.paired c)).heard := by
    rw [recorded, State.car_setCar_same]
    simp [State.setCar]
  have receipt := takeReceipt_stays (c := c) (peer := x.link) (s := takePeerRecords c x s)
    (by rw [link, staysInService_recorded]; exact stays)
  rw [link, heard] at receipt
  change slotReceived c x s = _ at receipt
  by_cases active : s.link c = .active
  · rw [if_pos active] at receipt
    have carrier : (s.car c).received x (s.paired c) = ((s.car c).recorded x (s.paired c)).heard := if_pos active
    refine ⟨s.alarms.collapsed, s.alarms.alert, s.port, ?_, rfl, fun h => absurd active h,
      fun _ => by rw [receipt]; exact ⟨rfl, rfl⟩⟩
    rw [receipt, carrier]
    rfl
  · rw [if_neg active] at receipt
    have carrier : (s.car c).received x (s.paired c) = ((s.car c).recorded x (s.paired c)).heard.activated := if_neg active
    obtain ⟨a, b, p, entered, same, follows⟩ :=
      enterActive_spec c (s.setCar c ((s.car c).recorded x (s.paired c)).heard)
    rw [← receipt] at entered follows
    refine ⟨a, b, p, ?_, same, fun _ => follows, fun h => absurd h active⟩
    rw [State.car_setCar_same, ← carrier] at entered
    rw [entered]
    simp [State.setCar]

/-- Stages 1 to 6 of such a slot. -/
theorem takeHeader_slotReceived_spec {c : Carrier} {x : Slot} {s : State}
    (stays : s.link c = .seeking ∨
      ((s.link c = .active ∨ s.link c = .quiet) ∧ (x.link ≠ .seeking ∨ s.staysInService c = true))) :
    ∃ u : State, takeHeader c x (slotReceived c x s) = u ∧ (slotReceived c x s).link c = .active ∧
      u = { s with
        carriers := s.carriers.set c (((s.car c).received x (s.paired c)).headed x s.tables.digest)
        alarms := { s.alarms with collapsed := u.alarms.collapsed, alert := u.alarms.alert }, port := u.port
        sender := u.sender, outQueue := u.outQueue } ∧
      s.port.sameButNotices u.port ∧
      (s.link c ≠ .active → SenderFollows s.outQueue s u) ∧
      (s.link c = .active → u.sender = s.sender ∧ u.outQueue = s.outQueue) := by
  obtain ⟨a, b, p, received, same, enters, stands⟩ := slotReceived_spec stays
  obtain ⟨links, sender, queue⟩ := takeHeader_keeps c x (slotReceived c x s)
  obtain ⟨a', b', p', header, same'⟩ := takeHeader_spec c x (slotReceived c x s)
  have carrier : (slotReceived c x s).car c = (s.car c).received x (s.paired c) := by
    rw [received]
    exact Four.get_set_same _ _ _
  refine ⟨_, rfl, by rw [State.link, carrier, CarrierState.received_link], ?_, ?_,
    fun h => (enters h).congr links sender queue, fun h => by rw [sender, queue]; exact stands h⟩
  · rw [header, carrier, received]
    simp
  · rw [header]
    rw [received] at same'
    exact Port.sameButNotices_trans same same'

/-- Settles O40: stage by stage for the slot, and part by part for the dispatch. -/
theorem slotIsTakenInStages : Obligations.SlotIsTakenInStages := by
  refine ⟨?_, fun s c d a b pair e check => ⟨rfl, rfl, rfl, rfl, rfl, rfl, rfl, rfl, rfl, rfl, rfl, rfl⟩⟩
  rintro s c o x k differs entered high length decoded rfl stays rfl rfl
  have base : (recordTaken s).staysInService c = true ↔
      ((s.car c).atBase = true ∧ (s.paired c = true → (s.car (partner c)).atBase = true)) := by
    change ((s.car c).atBase && (!s.paired c || (s.car (partner c)).atBase)) = true ↔ _
    cases s.paired c <;> simp
  obtain ⟨u, taken, active, frame, port, enters, stands⟩ :=
    takeHeader_slotReceived_spec (c := c) (x := x) (s := recordTaken s) (by rw [base]; exact stays)
  have carrier : u.car c = ((s.car c).received x (s.paired c)).headed x s.tables.digest := by
    rw [frame]
    exact Four.get_set_same _ _ _
  refine ⟨u, ?_, ?_, port, ?_, ?_, ?_, ?_⟩
  · have up : s.link c = .seeking ∨ s.link c = .active ∨ s.link c = .quiet := stays.imp_right And.left
    rw [exec_slotIn high c length, takeSlot_stages (s := recordTaken s) decoded up, ← taken]
    have stages : takeSlotStages c x (recordTaken s) =
        dispatch c x.part (takeHeader c x (slotReceived c x (recordTaken s))) :=
      if_neg (fun halted => LinkState.noConfusion (active.symm.trans halted))
    rw [stages]
  · rw [frame]
    rfl
  · intro d other
    rw [frame]
    exact Four.get_set_other _ _ other
  · intro h
    exact enters (of_decide_eq_true h)
  · intro h
    exact stands (Classical.not_not.mp (of_decide_eq_false h))
  · rw [carrier, CarrierState.headed_received]
    rfl

end Sys2Proof.Machine
end

section
/-! SUPPORT. What the Supervisor reads and writes of a carrier, and that no block's work moves it. -/

namespace Sys2Proof.Machine

/-! ### The Supervisor's counts of the carriers -/

/-- The Supervisor's counts of a carrier (R144). -/
def State.supCounts (s : State) (d : Carrier) : SupStats := (s.car d).stats.sup

/-- Work that moves the Supervisor's counts of no carrier. -/
def CountsKept (s t : State) : Prop := ∀ d, t.supCounts d = s.supCounts d

namespace CountsKept

theorem refl (s : State) : CountsKept s s := fun _ => rfl

theorem trans {s t u : State} (h : CountsKept s t) (g : CountsKept t u) : CountsKept s u :=
  fun d => (g d).trans (h d)

theorem of_same {s t : State} (h : t.carriers = s.carriers) : CountsKept s t := fun d => by
  rw [State.supCounts, State.supCounts, State.car, h, State.car]

/-- Work on one carrier that leaves its counts. -/
theorem of_one {s t : State} {c : Carrier} {k : CarrierState} (h : t.carriers = s.carriers.set c k)
    (counts : k.stats.sup = s.supCounts c) : CountsKept s t := fun d => by
  rw [State.supCounts, State.car, h, Four.get_set]
  split
  next e => rw [counts, e]
  next => rfl

theorem foldl {α : Type} {f : State → α → State} (h : ∀ u a, CountsKept u (f u a)) (xs : List α) (s : State) :
    CountsKept s (xs.foldl f s) := by
  induction xs generalizing s with
  | nil => exact refl s
  | cons x xs ih => exact (h s x).trans (ih _)

theorem ite {p : Prop} [Decidable p] {s t u : State} (h : CountsKept s t) (g : CountsKept s u) :
    CountsKept s (if p then t else u) := by
  split
  · exact h
  · exact g

/-! ### The shared operations -/

theorem emit (d : Directive) (s : State) : CountsKept s (emit d s) := of_same rfl

theorem placeMessage (p : Place) (m : LacMsg) (s : State) : CountsKept s (placeMessage p m s) := of_same rfl

theorem clearPlace (p : Place) (s : State) : CountsKept s (clearPlace p s) := of_same rfl

theorem placeNotice (n : Notice) (s : State) : CountsKept s (placeNotice n s) := of_same (placeNotice_carriers n s)

theorem modTac (c : Carrier) (f : Tac → Tac) (s : State) : CountsKept s (modTac c f s) := of_one (c := c) rfl rfl

theorem modTacStats (c : Carrier) (f : TacStats → TacStats) (s : State) : CountsKept s (modTacStats c f s) :=
  of_one (c := c) rfl rfl

/-! ### The estimators, the Fade Monitors and the RACs -/

theorem qualityWork (order : AlarmKind → List Carrier) (present : Four Bool) (s : State) :
    CountsKept s (qualityWork order present s) := by
  refine (foldl (fun u c => ?_) _ s).trans (foldl (fun u c => ?_) _ _)
  · by_cases off : u.link c = .disabled
    · rw [(estimatorBoundary_spec c u).1 off]
      exact refl u
    · obtain ⟨_, _, _, _, _, _, estimated, -⟩ := (estimatorBoundary_spec c u).2 off
      rw [estimated]
      exact of_one (c := c) rfl rfl
  · obtain ⟨_, _, _, _, _, _, monitored⟩ := (fadeBoundary_spec (present.get c) c u).2
    rw [monitored]
    exact of_one (c := c) rfl rfl

theorem receiveWork (present : Four Bool) (s : State) : CountsKept s (receiveWork present s) := by
  refine foldl (fun u c => ?_) _ s
  obtain ⟨_, decided, -⟩ := racBoundary_spec (present.get c) c u
  rw [decided]
  exact of_one (c := c) rfl rfl

/-! ### The TACs -/

theorem mirrorOrder (c : Carrier) (s : State) : CountsKept s (mirrorOrder c s) := ite (modTac _ _ s) (refl s)

theorem closeOrder (c : Carrier) (st : OrderState) (b : Nat) (s : State) : CountsKept s (closeOrder c st b s) :=
  (modTac c _ s).trans (mirrorOrder c _)

/-- An order closes with its CANCEL placed (R97). -/
theorem cancelOrder (c : Carrier) (o : OpenOrder) (st : OrderState) (b : Nat) (s : State) :
    CountsKept s (Machine.closeOrder c st b (placeCancel c o s)) := (placeMessage _ _ s).trans (closeOrder c st b _)

theorem takeTarget (c : Carrier) (t : Nat) (s : State) : CountsKept s (takeTarget c t s) :=
  (modTac c _ s).trans (placeNotice _ _)

theorem closeOnTimebaseLoss (c : Carrier) (s : State) : CountsKept s (closeOnTimebaseLoss c s) := by
  unfold Machine.closeOnTimebaseLoss
  split
  · exact refl s
  · have closed := cancelOrder c ‹_› .steady 0 s
    exact ite ((ite (closed.trans (emit _ _)) closed).trans (modTacStats c _ _)) (refl s)

theorem countBackoff (c : Carrier) (s : State) : CountsKept s (countBackoff c s) :=
  ite (ite ((modTac c _ s).trans (closeOrder c _ _ _)) (modTac c _ s)) (refl s)

theorem switchAtEffect (c : Carrier) (s : State) : CountsKept s (switchAtEffect c s) := by
  unfold Machine.switchAtEffect
  split
  · have switched := ((clearPlace (.t c) s).trans (closeOrder c .steady 0 _)).trans
      (takeTarget c (‹OpenOrder›).target _)
    exact (ite (switched.trans (takeTarget _ _ _)) switched).trans (modTacStats c _ _)
  · exact refl s

theorem deadline (c : Carrier) (s : State) : CountsKept s (deadline c s) := by
  unfold Machine.deadline
  split
  · exact ((cancelOrder c _ .backoff 2 s).trans (modTacStats c _ _)).trans (placeNotice _ _)
  · exact refl s

theorem armAtDeadline (c : Carrier) (s : State) : CountsKept s (armAtDeadline c s) := by
  unfold Machine.armAtDeadline
  split
  · exact ite (refl s) (((emit _ s).trans (modTac c _ _)).trans (mirrorOrder c _))
  · exact refl s

theorem formTarget (c : Carrier) (s : State) : CountsKept s (formTarget c s) :=
  ite ((modTac c _ s).trans (modTac _ _ _)) (modTac c _ s)

theorem reverseUpshift (c : Carrier) (s : State) : CountsKept s (reverseUpshift c s) := by
  unfold Machine.reverseUpshift
  simp only
  split
  · exact refl s
  · exact ite ((cancelOrder c _ .steady 0 s).trans (modTacStats c _ _)) (refl s)

theorem openOrderWork (c : Carrier) (s : State) : CountsKept s (openOrderWork c s) :=
  ite ((((modTac c _ s).trans (mirrorOrder c _)).trans (placeMessage _ _ _)).trans (modTacStats c _ _)) (refl s)

theorem applyPower (c : Carrier) (s : State) : CountsKept s (applyPower c s) := by
  unfold Machine.applyPower
  simp only
  split
  · exact refl s
  · exact ite (modTac c _ s) (((modTac c _ s).trans (modTacStats c _ _)).trans (emit _ _))

theorem orderBoundary (c : Carrier) (s : State) : CountsKept s (orderBoundary c s) :=
  (((((((closeOnTimebaseLoss c s).trans (countBackoff c _)).trans (switchAtEffect c _)).trans (deadline c _)).trans
    (armAtDeadline c _)).trans (formTarget c _)).trans (reverseUpshift c _)).trans (openOrderWork c _)

theorem transmitWork (s : State) : CountsKept s (transmitWork s) :=
  foldl (fun u c => ite ((ite (refl u) (orderBoundary c u)).trans (applyPower c _)) (refl u)) _ s

/-! ### The table store -/

theorem formMismatch (c : Carrier) (s : State) : CountsKept s (formMismatch c s) := by
  obtain ⟨_, _, _, formed, -⟩ := formMismatch_spec c s
  rw [formed]
  exact of_one (c := c) rfl rfl

theorem applyBoundary (order : List Carrier) (s : State) : CountsKept s (applyBoundary order s) := by
  have begun : CountsKept s (modTables (fun t => { t with effectDue := false }) s) := of_same rfl
  refine begun.trans ?_
  change CountsKept _ (judgeApply order _)
  unfold judgeApply
  split
  · exact refl _
  · refine ite (refl _) (ite (placeNotice _ _) ?_)
    have taken (f g : TableStore → TableStore) (u : State) : CountsKept u
        (Machine.modTables g (order.foldl (fun u c => Machine.formMismatch c u) (Machine.modTables f u))) :=
      (foldl (fun u c => formMismatch c u) order (Machine.modTables f u)).trans (of_same rfl)
    exact (taken _ _ _).trans (placeNotice _ _)

/-- No block's work moves the Supervisor's counts. -/
theorem blockAt (order : AlarmKind → List Carrier) (present : Four Bool) {n : Nat} (h : n < 5) (s : State) :
    CountsKept s (blockAt order present n s) := by
  match n, h with
  | 0, _ => exact qualityWork order present s
  | 1, _ => exact receiveWork present s
  | 2, _ => exact transmitWork s
  | 3, _ => exact of_same (senderBoundary_carriers s)
  | 4, _ => exact applyBoundary _ s

end CountsKept

end Sys2Proof.Machine
end

section
/-! SUPPORT. One turn of the Supervisor as a function of what it reads of its carrier. -/

namespace Sys2Proof.Machine

/-! ### What a turn reads and moves -/

/-- What the Supervisor's tests read of a carrier, and what its turn moves: its values, its counts and the unlocked
run. -/
structure Supervised where
  sup : Supervisor
  counts : SupStats
  run : Nat

def CarrierState.supervised (k : CarrierState) : Supervised := ⟨k.sup, k.stats.sup, k.rac.unlocked⟩

namespace Supervised

/-- The counts of the boundary taken (R133, R139, R140). -/
def counted (x : Supervised) : Supervised := { x with sup := x.sup.counted }

/-- The cause for which the tests halt a carrier, the governing values being `r` (R134, R135, R140). -/
def haltCause (r : CarrierRecord) (x : Supervised) : Option HaltCause :=
  if (x.sup.link = .active ∨ x.sup.link = .quiet) ∧ r.kLock ≤ x.run then some .lockLoss
  else if x.sup.link = .quiet ∧ r.w2 ≤ x.sup.miss then some .silence
  else if x.sup.link = .seeking ∧ x.sup.seek = 0 then some .seekTimeout
  else none

/-- A carrier that no test halts: QUIET entry, SEEKING entry or neither (R134, R139). -/
def moved (r : CarrierRecord) (x : Supervised) : Supervisor × SupStats :=
  if x.sup.link = .active ∧ r.w1 ≤ x.sup.miss then
    ({ x.sup with link := .quiet }, { x.counts with quietEntries := count32 x.counts.quietEntries })
  else if x.sup.link = .halted ∧ x.sup.holdoff = 0 then
    ({ x.sup with link := .seeking, seek := r.tSeek, miss := 0 }, x.counts)
  else (x.sup, x.counts)

/-- HALTED entry by a test (R137, R144). -/
def halted (r : CarrierRecord) (cause : HaltCause) (x : Supervised) : Supervisor × SupStats :=
  ({ x.sup with link := .halted, miss := 0, seek := 0, holdoff := r.tHold }, x.counts.countHalt cause)

/-- A turn: the counts, then the tests. -/
def turned (r : CarrierRecord) (x : Supervised) : Supervisor × SupStats :=
  match x.counted.haltCause r with
  | some cause => x.counted.halted r cause
  | none => x.counted.moved r

end Supervised

/-! ### The model's turn -/

/-! The tests of the model, as those of what they read. -/

section Tests

variable (c : Carrier) (s : State)

theorem lockLost_iff : s.lockLost c = true ↔
    ((s.car c).sup.link = .active ∨ (s.car c).sup.link = .quiet) ∧ (s.govInForce c).kLock ≤ (s.car c).rac.unlocked := by
  simp [State.lockLost, State.inService, State.link]

theorem goesQuiet_iff : s.goesQuiet c = true ↔
    ((s.car c).sup.link = .active ∧ ¬ s.lockLost c = true) ∧ (s.govInForce c).w1 ≤ (s.car c).sup.miss := by
  simp [State.goesQuiet, State.link]

theorem silenceHalts_iff : s.silenceHalts c = true ↔
    ((s.car c).sup.link = .quiet ∧ ¬ s.lockLost c = true) ∧ (s.govInForce c).w2 ≤ (s.car c).sup.miss := by
  simp [State.silenceHalts, State.link]

theorem holdoffOver_iff : s.holdoffOver c = true ↔ (s.car c).sup.link = .halted ∧ (s.car c).sup.holdoff = 0 := by
  simp [State.holdoffOver, State.link]

theorem seekOver_iff : s.seekOver c = true ↔ (s.car c).sup.link = .seeking ∧ (s.car c).sup.seek = 0 := by
  simp [State.seekOver, State.link]

theorem haltsByTest_eq : s.haltsByTest c = ((s.car c).supervised.haltCause (s.govInForce c)).isSome := by
  have tests : s.haltsByTest c = true ↔ s.lockLost c = true ∨ s.silenceHalts c = true ∨ s.seekOver c = true := by
    simp [State.haltsByTest, or_assoc]
  rw [Bool.eq_iff_iff, tests, silenceHalts_iff, seekOver_iff, lockLost_iff]
  unfold Supervised.haltCause CarrierState.supervised
  split_ifs <;> simp_all

end Tests

theorem supervised_takeCounts (c : Carrier) (s : State) :
    ((takeCounts c s).car c).supervised = (s.car c).supervised.counted := by
  rw [takeCounts, car_counted, if_pos rfl]
  rfl

/-- A turn is the entry that the tests of what it reads name. -/
theorem supervise_eq (c : Carrier) (s : State) {x : Supervised} (hx : (s.car c).supervised.counted = x) :
    supervise c s =
      match x.haltCause (s.govInForce c) with
      | some cause => haltedEntry c cause (takeCounts c s)
      | none =>
        if x.sup.link = .active ∧ (s.govInForce c).w1 ≤ x.sup.miss then enterQuiet c (takeCounts c s)
        else if x.sup.link = .halted ∧ x.sup.holdoff = 0 then enterSeeking c (takeCounts c s)
        else takeCounts c s := by
  have reads : (takeCounts c s).car c = { s.car c with sup := (s.car c).sup.counted } := by
    rw [takeCounts, car_counted, if_pos rfl]
  subst hx
  unfold supervise Supervised.haltCause Supervised.counted CarrierState.supervised
  simp only [goesQuiet_iff, silenceHalts_iff, holdoffOver_iff, seekOver_iff, lockLost_iff, takeCounts_govInForce, reads,
    counted_link]
  obtain ⟨l, link⟩ : ∃ l, (s.car c).sup.link = l := ⟨_, rfl⟩
  simp only [link]
  by_cases lock : (s.govInForce c).kLock ≤ (s.car c).rac.unlocked
  · cases l <;> simp [lock]
    case seeking => split <;> rfl
  · cases l <;> simp [lock]
    case seeking => split <;> rfl
    case quiet => split <;> rfl

/-- The Supervisor's values and its counts of a carrier. -/
def State.supervisor (s : State) (c : Carrier) : Supervisor × SupStats := ((s.car c).sup, (s.car c).stats.sup)

theorem enterQuiet_supervisor (c : Carrier) (s : State) : (enterQuiet c s).supervisor c =
    ({ (s.car c).sup with link := .quiet },
      { (s.car c).stats.sup with quietEntries := count32 (s.car c).stats.sup.quietEntries }) := by
  simp [State.supervisor, enterQuiet, car_senderFollowsLinks, car_setWire, modSupStats, modStats, modSup]

theorem enterSeeking_supervisor (c : Carrier) (s : State) : (enterSeeking c s).supervisor c =
    ({ (s.car c).sup with link := .seeking, seek := (s.govRecord c).tSeek, miss := 0 }, (s.car c).stats.sup) := by
  simp [State.supervisor, enterSeeking, car_senderFollowsLinks, car_setWire, modSup]

/-- What HALTED entry makes of the Supervisor's values and counts. -/
theorem CarrierHalted.supervisor {tHold : Nat} {upper : Bool} {x : SupStats} {s t : State} {d : Carrier}
    (h : CarrierHalted tHold upper x (s.car d) (t.car d)) :
    t.supervisor d = ({ (s.car d).sup with link := .halted, miss := 0, seek := 0, holdoff := tHold }, x) := by
  obtain ⟨-, -, -, -, sup, -, -, -, stats⟩ := h
  rw [State.supervisor, sup, stats]

theorem takeCounts_govRecord (c d : Carrier) (s : State) : (takeCounts c s).govRecord d = s.govRecord d :=
  takeCounts_record c (s.gov d) s

/-- A turn of the Supervisor at its own carrier, whose governing record is in force. -/
theorem supervise_turned {c : Carrier} {s : State} {r : CarrierRecord} (inForce : s.govInForce c = r)
    (record : s.govRecord c = r) : (supervise c s).supervisor c = (s.car c).supervised.turned r := by
  obtain ⟨x, hx⟩ : ∃ x, (s.car c).supervised.counted = x := ⟨_, rfl⟩
  have sup : ((takeCounts c s).car c).sup = x.sup := by rw [← hx, ← supervised_takeCounts]; rfl
  have counts : ((takeCounts c s).car c).stats.sup = x.counts := by rw [← hx, ← supervised_takeCounts]; rfl
  rw [supervise_eq c s hx, inForce, Supervised.turned, hx]
  split
  next cause _ =>
    obtain ⟨⟨own, -⟩, -⟩ := haltedEntry_spec c cause (takeCounts c s)
    rw [own.supervisor, takeCounts_govRecord, record, sup, counts, Supervised.halted]
  next =>
    unfold Supervised.moved
    split_ifs
    · rw [enterQuiet_supervisor, sup, counts]
    · rw [enterSeeking_supervisor, takeCounts_govRecord, record, sup, counts]
    · rw [State.supervisor, sup, counts]

/-- A turn of another carrier leaves a carrier, unless the two are a pair. -/
theorem supervise_other {c d : Carrier} {s : State} (other : c ≠ d) (alone : s.paired d = true → c ≠ partner d) :
    (supervise d s).car c = s.car c := by
  cases halts : (modSup d Supervisor.counted s).haltsByTest d with
  | true =>
    obtain ⟨-, -, others⟩ := supervise_halts halts
    exact others c other fun takes => alone takes.1
  | false => exact (supervise_stays halts).2 c other

end Sys2Proof.Machine
end

section
/-! SUPPORT. The Supervisor's turns over a boundary, wherever they fall among the blocks (logs 4, 17): each carrier that
stands alone has its one turn; a pair halts once. -/

namespace Sys2Proof.Machine

/-! ### The turn of each case -/

namespace Supervised

section Turned

variable {r : CarrierRecord} {x : Supervised}

theorem turned_disabled (h : x.sup.link = .disabled) : x.turned r = (x.sup, x.counts) := by
  simp [turned, haltCause, moved, counted, Supervisor.counted, h]

theorem turned_halted (h : x.sup.link = .halted) : x.turned r =
    if x.sup.holdoff ≤ 1 then ({ x.sup with link := .seeking, holdoff := 0, seek := r.tSeek, miss := 0 }, x.counts)
    else ({ x.sup with holdoff := x.sup.holdoff - 1 }, x.counts) := by
  simp only [turned, haltCause, moved, counted, Supervisor.counted, h]
  by_cases ended : x.sup.holdoff ≤ 1
  · have zero : x.sup.holdoff - 1 = 0 := by omega
    simp [ended, zero]
  · have left : x.sup.holdoff - 1 ≠ 0 := by omega
    simp [ended, left]

theorem turned_seeking (h : x.sup.link = .seeking) : x.turned r =
    if x.sup.seek ≤ 1 then x.halted r .seekTimeout
    else ({ x.sup with miss := count16 x.sup.miss, seek := x.sup.seek - 1 }, x.counts) := by
  simp only [turned, haltCause, moved, counted, Supervisor.counted, h]
  by_cases ended : x.sup.seek ≤ 1
  · have zero : x.sup.seek - 1 = 0 := by omega
    simp [ended, zero, halted]
  · have left : x.sup.seek - 1 ≠ 0 := by omega
    simp [ended, left]

theorem turned_lockLost (h : x.sup.link = .active ∨ x.sup.link = .quiet) (lost : r.kLock ≤ x.run) :
    x.turned r = x.halted r .lockLoss := by
  rcases h with h | h <;> simp [turned, haltCause, counted, Supervisor.counted, halted, h, lost]

theorem turned_active (h : x.sup.link = .active) (locked : x.run < r.kLock) : x.turned r =
    if r.w1 ≤ count16 x.sup.miss then
      ({ x.sup with link := .quiet, miss := count16 x.sup.miss },
        { x.counts with quietEntries := count32 x.counts.quietEntries })
    else ({ x.sup with miss := count16 x.sup.miss }, x.counts) := by
  simp [turned, haltCause, moved, counted, Supervisor.counted, h, locked.not_ge]

theorem turned_quiet (h : x.sup.link = .quiet) (locked : x.run < r.kLock) : x.turned r =
    if r.w2 ≤ count16 x.sup.miss then x.halted r .silence
    else ({ x.sup with miss := count16 x.sup.miss }, x.counts) := by
  simp only [turned, haltCause, moved, counted, Supervisor.counted, h]
  by_cases silent : r.w2 ≤ count16 x.sup.miss
  · simp [silent, locked.not_ge, halted]
  · simp [silent, locked.not_ge]

end Turned

end Supervised

/-! ### The boundary as turns -/

/-- What the Supervisor reads and moves of every carrier. -/
def State.supervised (s : State) (c : Carrier) : Supervised := (s.car c).supervised

/-- The pairing and the governing records are over the whole boundary those it began with (R129). -/
theorem governed_since {s u : State} (h : WorkFrame (startBoundary s) u) (c : Carrier) :
    u.paired c = s.paired c ∧ u.govInForce c = s.govRecord c ∧ u.govRecord c = s.govRecord c := by
  obtain ⟨-, pairedA, pairedB⟩ := startBoundary_device s
  have paired (d : Carrier) : u.paired d = s.paired d := by
    simp only [State.paired, h.pairedA, h.pairedB, pairedA, pairedB]
  have sup (d : Carrier) : ((startBoundary s).car d).sup =
      { (s.car d).sup with inForce := (s.car d).sup.record } := by
    rw [car_startBoundary, (closed_keeps _).1]
    rfl
  have gov : u.gov c = s.gov c := by simp only [State.gov, paired]
  obtain ⟨record, inForce, -⟩ := h.carriers (s.gov c)
  refine ⟨paired c, ?_, ?_⟩
  · rw [State.govInForce, gov, inForce, sup, State.govRecord]
  · rw [State.govRecord, gov, record, sup, State.govRecord]

theorem superviseOnce_of_mem {c : Carrier} {x : State × List Carrier} (h : c ∈ x.2) : superviseOnce c x = x := if_pos h

theorem superviseOnce_of_notMem {c : Carrier} {x : State × List Carrier} (h : c ∉ x.2) :
    superviseOnce c x = (supervise c x.1,
      if (takeCounts c x.1).haltsByTest c && x.1.paired c then partner c :: x.2 else x.2) := if_neg h

/-- What holds of the Supervisor's part of the carriers at the start of a boundary, and is kept by each turn, holds
after it: no block's work moves that part.  `I T v done` speaks of the part once the carriers of `T` have had their turn. -/
theorem boundaryWith_turns (place : Carrier → Nat) (order : AlarmKind → List Carrier) (s : State)
    (I : Set Carrier → (Carrier → Supervised) → List Carrier → Prop)
    (start : I ∅ (startBoundary s).supervised [])
    (turn : ∀ T c x, c ∉ T → WorkFrame (startBoundary s) x.1 → I T x.1.supervised x.2 →
      I (insert c T) (superviseOnce c x).1.supervised (superviseOnce c x).2) :
    ∃ done, I {d | place d < 6} (boundaryWith place order s).supervised done := by
  obtain ⟨done, -, h⟩ := boundaryWith_induction place order s
    (fun _ T x => WorkFrame (startBoundary s) x.1 ∧ I T x.1.supervised x.2) ⟨.refl _, start⟩
    (fun _ T c x fresh ⟨frame, h⟩ => ⟨frame.trans (superviseOnce_frame c x), turn T c x fresh frame h⟩)
    (fun n T x hn ⟨frame, h⟩ => by
      refine ⟨frame.trans (blockAt_frame order s.presence hn x.1), ?_⟩
      have kept : (blockAt order s.presence n x.1).supervised = x.1.supervised := by
        funext d
        have block := (blockAt_block order s.presence hn x.1).carriers d
        have counts : _ = (x.1.car d).stats.sup := CountsKept.blockAt order s.presence hn x.1 d
        simp only [State.supCounts] at counts
        simp only [State.supervised, CarrierState.supervised, block.sup, block.unlocked, counts]
      rw [blockWork, kept]
      exact h)
  exact ⟨done, h⟩

/-! ### A carrier that stands alone -/

/-- How a carrier that began the boundary as `x` stands, `r` governing it: as it began before its turn, and turned after
it; no other carrier's entry takes it. -/
structure StandsAlone (c : Carrier) (r : CarrierRecord) (x : Supervised) (T : Set Carrier) (v : Carrier → Supervised)
    (done : List Carrier) : Prop where
  apart : c ∉ done
  before : c ∉ T → v c = x
  after : c ∈ T → ((v c).sup, (v c).counts) = x.turned r

theorem StandsAlone.turn {c d : Carrier} {s : State} {x : Supervised} {T : Set Carrier} {y : State × List Carrier}
    (alone : s.paired c = false) (fresh : d ∉ T) (frame : WorkFrame (startBoundary s) y.1)
    (h : StandsAlone c (s.govRecord c) x T y.1.supervised y.2) :
    StandsAlone c (s.govRecord c) x (insert d T) (superviseOnce d y).1.supervised (superviseOnce d y).2 := by
  have unlike {T' : Set Carrier} (other : c ≠ d) : c ∈ insert d T' ↔ c ∈ T' := by simp [other]
  by_cases taken : d ∈ y.2
  · have other : c ≠ d := fun e => h.apart (e ▸ taken)
    rw [superviseOnce_of_mem taken]
    exact ⟨h.apart, fun k => h.before (k ∘ (unlike other).mpr), fun k => h.after ((unlike other).mp k)⟩
  rw [superviseOnce_of_notMem taken]
  have single : y.1.paired d = true → c ≠ d ∧ c ≠ partner d := by
    intro paired
    rw [(governed_since frame d).1] at paired
    constructor
    · rintro rfl
      simp [alone] at paired
    · rintro rfl
      simp [paired_partner, paired] at alone
  have apart : c ∉ if (takeCounts d y.1).haltsByTest d && y.1.paired d then partner d :: y.2 else y.2 := by
    split
    next takes => simp [h.apart, (single (Bool.and_eq_true_iff.mp takes).2).2]
    next => exact h.apart
  by_cases own : c = d
  · subst own
    obtain ⟨-, inForce, record⟩ := governed_since frame c
    refine ⟨apart, fun k => absurd (Set.mem_insert c T) k, fun _ => ?_⟩
    rw [← h.before fresh]
    exact supervise_turned inForce record
  · have same : (supervise d y.1).supervised c = y.1.supervised c :=
      congrArg CarrierState.supervised (supervise_other own fun paired => (single paired).2)
    refine ⟨apart, fun k => ?_, fun k => ?_⟩
    · rw [same]
      exact h.before (k ∘ (unlike own).mpr)
    · rw [same]
      exact h.after ((unlike own).mp k)

/-- A boundary is one turn of a carrier that is not of a pair. -/
theorem boundaryWith_alone {place : Carrier → Nat} (order : AlarmKind → List Carrier) {s : State} {c : Carrier}
    (placed : place c < 6) (alone : s.paired c = false) :
    (boundaryWith place order s).supervisor c = ((startBoundary s).supervised c).turned (s.govRecord c) := by
  obtain ⟨done, stands⟩ := boundaryWith_turns place order s
    (StandsAlone c (s.govRecord c) ((startBoundary s).supervised c))
    ⟨List.not_mem_nil, fun _ => rfl, fun h => absurd h (Set.notMem_empty c)⟩
    fun _ _ _ fresh frame stands => stands.turn alone fresh frame
  exact stands.after placed

/-! ### A pair of which a carrier meets a test that halts -/

/-- A carrier of a pair after HALTED entry, the holdoff from `r`, its rendezvous counted once beyond `n` (R138). -/
structure HaltedOnce (r : CarrierRecord) (n : Nat) (x : Supervised) : Prop where
  link : x.sup.link = .halted
  holdoff : x.sup.holdoff = r.tHold
  miss : x.sup.miss = 0
  seek : x.sup.seek = 0
  rendezvous : x.counts.rendezvous = count32 n

theorem countHalt_rendezvous (cause : HaltCause) (x : SupStats) :
    (x.countHalt cause).rendezvous = count32 x.rendezvous := by
  cases cause <;> rfl

theorem HaltedOnce.of_supervisor {r : CarrierRecord} {n : Nat} {t : State} {d : Carrier} {y : Supervisor} {z : SupStats}
    (h : t.supervisor d = ({ y with link := .halted, miss := 0, seek := 0, holdoff := r.tHold }, z))
    (rendezvous : z.rendezvous = count32 n) : HaltedOnce r n (t.supervised d) := by
  obtain ⟨sup, counts⟩ := Prod.mk.inj h
  refine ⟨?_, ?_, ?_, ?_, (congrArg SupStats.rendezvous counts).trans rendezvous⟩ <;>
    simp [State.supervised, CarrierState.supervised, sup]

/-- A carrier's own test halts it with its partner (R138). -/
theorem supervise_haltsPair {c : Carrier} {s : State} (takes : TakesPartner s c)
    (halts : (takeCounts c s).haltsByTest c = true) (d : Carrier) (hd : d = c ∨ d = partner c) :
    HaltedOnce (s.govRecord c) (s.supervised d).counts.rendezvous ((supervise c s).supervised d) := by
  obtain ⟨cause, halted⟩ := (supervise_cases c s).1 halts
  obtain ⟨⟨own, -, -, pair, -⟩, -⟩ := haltedEntry_spec c cause (takeCounts c s)
  rw [← halted, takeCounts_govRecord] at own pair
  have other : (takeCounts c s).car (partner c) = s.car (partner c) := by
    rw [takeCounts, car_counted, if_neg (partner_ne c)]
  have self : ((takeCounts c s).car c).stats = (s.car c).stats := by
    rw [takeCounts, car_counted, if_pos rfl]
  rcases hd with rfl | rfl
  · refine .of_supervisor own.supervisor ?_
    rw [countHalt_rendezvous, self]
    rfl
  · obtain ⟨partner, -⟩ := pair ⟨takes.1, by rw [takeCounts_link]; exact takes.2⟩
    refine .of_supervisor partner.supervisor ?_
    rw [other]
    rfl

theorem Supervised.moved_rendezvous (r : CarrierRecord) (x : Supervised) :
    (x.moved r).2.rendezvous = x.counts.rendezvous := by
  unfold moved
  split_ifs <;> rfl

/-- A turn that no test halts counts no rendezvous. -/
theorem supervise_rendezvous {c : Carrier} {s : State} (inForce : s.govInForce c = s.govRecord c)
    (halts : (takeCounts c s).haltsByTest c = false) :
    ((supervise c s).supervised c).counts.rendezvous = (s.supervised c).counts.rendezvous := by
  rw [haltsByTest_eq, supervised_takeCounts, takeCounts_govInForce, inForce, Option.isSome_eq_false_iff,
    Option.isNone_iff_eq_none] at halts
  have turned := supervise_turned inForce rfl
  rw [Supervised.turned, halts] at turned
  exact (congrArg (fun y => y.2.rendezvous) turned).trans (Supervised.moved_rendezvous _ _)

/-- A pair that no turn has halted yet, the carrier `c`, which meets a test that halts, standing as it began in `s`. -/
structure PairWaits (c : Carrier) (s : State) (T : Set Carrier) (v : Carrier → Supervised) (done : List Carrier) :
    Prop where
  waits : c ∉ T
  apart : c ∉ done
  partnerApart : partner c ∉ done
  same : v c = s.supervised c
  partnerOn : (v (partner c)).sup.link ≠ .disabled
  partnerRendezvous : (v (partner c)).counts.rendezvous = (s.supervised (partner c)).counts.rendezvous

/-- A pair that a turn has halted: both carriers once, and both are done. -/
def PairHalted (c : Carrier) (s : State) (r : CarrierRecord) (T : Set Carrier) (v : Carrier → Supervised)
    (done : List Carrier) : Prop :=
  ∀ d, d = c ∨ d = partner c → HaltedOnce r (s.supervised d).counts.rendezvous (v d) ∧ (d ∈ T ∨ d ∈ done)

/-- The turn of a waiting pair's carrier whose own test halts it. -/
theorem PairWaits.halts {c d : Carrier} {s : State} {T : Set Carrier} {y : State × List Carrier}
    (h : PairWaits c s T y.1.supervised y.2) (pair : y.1.paired c = true) (on : s.link c ≠ .disabled)
    (own : d = c ∨ d = partner c) (halts : (takeCounts d y.1).haltsByTest d = true) :
    PairHalted c s (y.1.govRecord c) (insert d T) (supervise d y.1).supervised (partner d :: y.2) := by
  have link : y.1.link c = s.link c := congrArg (fun x => x.sup.link) h.same
  have takes : TakesPartner y.1 d ∧ y.1.govRecord d = y.1.govRecord c := by
    rcases own with rfl | rfl
    · exact ⟨⟨pair, h.partnerOn⟩, rfl⟩
    · exact ⟨⟨(paired_partner _ c).trans pair, by rw [partner_partner, link]; exact on⟩, govRecord_partner pair⟩
  intro e he
  have position : e = d ∨ e = partner d := by
    rcases own with rfl | rfl
    · exact he
    · rw [partner_partner]
      exact he.symm
  have rendezvous : (y.1.supervised e).counts.rendezvous = (s.supervised e).counts.rendezvous := by
    rcases he with rfl | rfl
    · rw [h.same]
    · exact h.partnerRendezvous
  have halted := supervise_haltsPair takes.1 halts e position
  rw [takes.2, rendezvous] at halted
  refine ⟨halted, ?_⟩
  rcases position with rfl | rfl
  · exact .inl (Set.mem_insert e T)
  · exact .inr List.mem_cons_self

/-- The turn of the partner, where no test halts it. -/
theorem PairWaits.stays {c : Carrier} {s : State} {T : Set Carrier} {y : State × List Carrier}
    (h : PairWaits c s T y.1.supervised y.2) (inForce : y.1.govInForce (partner c) = y.1.govRecord (partner c))
    (halts : (takeCounts (partner c) y.1).haltsByTest (partner c) = false) :
    PairWaits c s (insert (partner c) T) (supervise (partner c) y.1).supervised y.2 where
  waits := by simp [h.waits, (partner_ne c).symm]
  apart := h.apart
  partnerApart := h.partnerApart
  same := (congrArg CarrierState.supervised ((supervise_stays halts).2 c (partner_ne c).symm)).trans h.same
  partnerOn := fun off => h.partnerOn ((supervise_leaves (partner c) (partner c) y.1).off.mp off)
  partnerRendezvous := (supervise_rendezvous inForce halts).trans h.partnerRendezvous

/-- A turn outside the pair. -/
theorem PairWaits.other {c d : Carrier} {s : State} {T : Set Carrier} {v v' : Carrier → Supervised}
    {done done' : List Carrier} (h : PairWaits c s T v done) (outside : d ≠ c)
    (same : ∀ e, e = c ∨ e = partner c → v' e = v e ∧ (e ∈ done' → e ∈ done)) :
    PairWaits c s (insert d T) v' done' where
  waits := by simp [h.waits, outside.symm]
  apart := h.apart ∘ (same c (.inl rfl)).2
  partnerApart := h.partnerApart ∘ (same _ (.inr rfl)).2
  same := (same c (.inl rfl)).1.trans h.same
  partnerOn := by rw [(same _ (.inr rfl)).1]; exact h.partnerOn
  partnerRendezvous := by rw [(same _ (.inr rfl)).1]; exact h.partnerRendezvous

theorem PairHalted.other {c d : Carrier} {s : State} {r : CarrierRecord} {T : Set Carrier} {v v' : Carrier → Supervised}
    {done done' : List Carrier} (h : PairHalted c s r T v done)
    (same : ∀ e, e = c ∨ e = partner c → v' e = v e ∧ (e ∈ done → e ∈ done')) :
    PairHalted c s r (insert d T) v' done' := by
  intro e he
  obtain ⟨halted, turned⟩ := h e he
  exact ⟨by rw [(same e he).1]; exact halted, turned.imp (Set.mem_insert_of_mem d) (same e he).2⟩

/-- A turn at a pair of which the carrier `c` meets a test that halts. -/
theorem pair_turn {c d : Carrier} {s : State} {T : Set Carrier} {y : State × List Carrier}
    (pair : s.paired c = true) (on : s.link c ≠ .disabled)
    (meets : (((startBoundary s).supervised c).counted.haltCause (s.govRecord c)).isSome = true)
    (fresh : d ∉ T) (frame : WorkFrame (startBoundary s) y.1)
    (h : PairWaits c (startBoundary s) T y.1.supervised y.2 ∨
      PairHalted c (startBoundary s) (s.govRecord c) T y.1.supervised y.2) :
    PairWaits c (startBoundary s) (insert d T) (superviseOnce d y).1.supervised (superviseOnce d y).2 ∨
      PairHalted c (startBoundary s) (s.govRecord c) (insert d T) (superviseOnce d y).1.supervised
        (superviseOnce d y).2 := by
  by_cases taken : d ∈ y.2
  · rw [superviseOnce_of_mem taken]
    exact h.imp (fun waits => waits.other (fun e => waits.apart (e ▸ taken)) fun _ _ => ⟨rfl, id⟩)
      fun halted => halted.other fun _ _ => ⟨rfl, id⟩
  rw [superviseOnce_of_notMem taken]
  obtain ⟨paired, inForce, record⟩ := governed_since frame c
  by_cases own : d = c ∨ d = partner c
  · have waits := h.resolve_right fun halted => (halted d own).2.elim fresh taken
    have pairD : y.1.paired d = true := by
      rcases own with rfl | rfl
      · rw [paired, pair]
      · rw [paired_partner, paired, pair]
    cases halts : (takeCounts d y.1).haltsByTest d with
    | true =>
      have halted := waits.halts (paired.trans pair) (by rw [link_startBoundary]; exact on) own halts
      rw [record] at halted
      simpa [pairD] using Or.inr halted
    | false =>
      have other : d = partner c := by
        refine own.resolve_left ?_
        rintro rfl
        have same : (y.1.car d).supervised = (startBoundary s).supervised d := waits.same
        rw [haltsByTest_eq, supervised_takeCounts, takeCounts_govInForce, inForce, same, meets] at halts
        cases halts
      subst other
      obtain ⟨-, inForce', record'⟩ := governed_since frame (partner c)
      simpa using Or.inl (waits.stays (inForce'.trans record'.symm) halts)
  · have outside : ∀ e, e = c ∨ e = partner c → e ≠ d ∧ e ≠ partner d := by
      rintro e he
      refine ⟨fun same => own (same ▸ he), ?_⟩
      rintro rfl
      refine own (he.symm.imp (fun same => ?_) fun same => ?_)
      · rw [← partner_partner d, same, partner_partner]
      · rw [← same, partner_partner]
    have same : ∀ e, e = c ∨ e = partner c → (supervise d y.1).supervised e = y.1.supervised e := fun e he =>
      congrArg CarrierState.supervised (supervise_other (outside e he).1 fun _ => (outside e he).2)
    have list : ∀ e, e = c ∨ e = partner c →
        (e ∈ (if (takeCounts d y.1).haltsByTest d && y.1.paired d then partner d :: y.2 else y.2) ↔ e ∈ y.2) := by
      intro e he
      split
      · simp [(outside e he).2]
      · rfl
    exact h.imp (fun waits => waits.other (fun e => own (.inl e)) fun e he => ⟨same e he, (list e he).mp⟩)
      fun halted => halted.other fun e he => ⟨same e he, (list e he).mpr⟩

/-- A boundary halts both carriers of a pair once, where one meets a test that halts (R138; log entry 17). -/
theorem boundaryWith_pair {place : Carrier → Nat} (order : AlarmKind → List Carrier) {s : State} {c : Carrier}
    (placed : place c < 6) (pair : s.paired c = true) (on : s.link c ≠ .disabled)
    (partnerOn : s.link (partner c) ≠ .disabled)
    (meets : (((startBoundary s).supervised c).counted.haltCause (s.govRecord c)).isSome = true)
    (d : Carrier) (hd : d = c ∨ d = partner c) :
    HaltedOnce (s.govRecord c) ((startBoundary s).supervised d).counts.rendezvous
      ((boundaryWith place order s).supervised d) := by
  have start : PairWaits c (startBoundary s) ∅ (startBoundary s).supervised [] :=
    ⟨Set.notMem_empty c, List.not_mem_nil, List.not_mem_nil, rfl, by
      change (startBoundary s).link (partner c) ≠ .disabled
      rwa [link_startBoundary], rfl⟩
  obtain ⟨done, waits | halted⟩ := boundaryWith_turns place order s
    (fun T v done => PairWaits c (startBoundary s) T v done ∨
      PairHalted c (startBoundary s) (s.govRecord c) T v done) (.inl start)
    fun _ _ _ fresh frame h => pair_turn pair on meets fresh frame h
  · exact absurd placed waits.waits
  · exact (halted d hd).1

end Sys2Proof.Machine
end

section
/-! The Supervisor at a boundary: each link state of a carrier that stands alone, and the pair. -/

namespace Sys2Proof.Machine

/-- The Supervisor's part of a carrier at the start of a boundary (R76, R129). -/
theorem supervised_startBoundary (s : State) (c : Carrier) :
    ((startBoundary s).supervised c).sup = { (s.car c).sup with inForce := (s.car c).sup.record } ∧
    ((startBoundary s).supervised c).counts = (s.car c).stats.sup ∧
    ((s.car c).sup.link ≠ .disabled → ((startBoundary s).supervised c).run =
      if (s.car c).rac.lockSeen = true ∧ (s.car c).est.minC ≠ none then 0
        else min ((s.car c).rac.unlocked + 1) 255) := by
  have begun : (startBoundary s).supervised c = (s.car c).startBoundary.closed.supervised := by
    rw [State.supervised, car_startBoundary]
  have counts (k : CarrierState) : k.closed.stats.sup = k.stats.sup := by
    unfold CarrierState.closed
    split
    · rfl
    · unfold CarrierStats.countSuperframe
      split <;> rfl
  rw [begun]
  exact ⟨(closed_keeps _).1, counts _, fun on => closed_judged (k := (s.car c).startBoundary) on⟩

/-- A carrier that meets a test that halts, as the obligation words it, its counts not yet taken. -/
theorem Supervised.haltCause_counted {r : CarrierRecord} {x : Supervised}
    (meets : ((x.sup.link = .active ∨ x.sup.link = .quiet) ∧ r.kLock ≤ x.run) ∨
      (x.sup.link = .quiet ∧ r.w2 ≤ count16 x.sup.miss) ∨ (x.sup.link = .seeking ∧ x.sup.seek ≤ 1)) :
    (x.counted.haltCause r).isSome = true := by
  rcases meets with ⟨link | link, lost⟩ | ⟨link, silent⟩ | ⟨link, ended⟩
  · simp [haltCause, counted, link, lost]
  · simp [haltCause, counted, link, lost]
  · simp only [haltCause, counted, Supervisor.counted, link, silent]
    split <;> simp
  · have zero : x.sup.seek - 1 = 0 := by omega
    simp [haltCause, counted, Supervisor.counted, link, zero]

/-- Settles O52: the turn of each link state for a carrier that stands alone, and the one halt of a pair. -/
theorem supervisorAtABoundary : Obligations.SupervisorAtABoundary := by
  rintro place order s _ c _ r u x run miss placed - rfl rfl hx hrun rfl hu rfl
  obtain ⟨sup, counts, judged⟩ := supervised_startBoundary s c
  rw [← hrun] at judged
  have link : ((startBoundary s).supervised c).sup.link = (s.car c).sup.link := by rw [sup]
  constructor
  · intro alone is his
    have turned := boundaryWith_alone order (placed c) alone
    generalize (startBoundary s).supervised c = v at sup counts judged link turned
    have becomes {y : Supervisor} {z : SupStats} (e : v.turned (s.govRecord c) = (y, z)) : is y z :=
      (his y z).mpr (Prod.mk.inj (turned.trans e))
    obtain ⟨w, n, m⟩ := v
    cases sup
    cases counts
    cases hx
    cases hu
    refine ⟨fun off => becomes (Supervised.turned_disabled off), fun off => ⟨fun left => ?_, fun ended => ?_⟩, ?_⟩
    · exact becomes ((Supervised.turned_halted off).trans (if_neg (Nat.not_le.mpr left)))
    · exact becomes ((Supervised.turned_halted off).trans (if_pos ended))
    · intro halted isHalted
      have runs (serves : (s.car c).sup.link = .active ∨ (s.car c).sup.link = .quiet) : m = run :=
        judged (by rcases serves with e | e <;> simp [e])
      refine ⟨fun seeks => ⟨fun left => ?_, fun ended => ?_⟩, fun serves lost => ?_, fun active locked => ?_,
        fun quiet locked => ?_⟩
      · exact becomes ((Supervised.turned_seeking seeks).trans (if_neg (Nat.not_le.mpr left)))
      · exact (isHalted _).mpr (becomes ((Supervised.turned_seeking seeks).trans (if_pos ended)))
      · rw [← runs serves] at lost
        exact (isHalted _).mpr (becomes (Supervised.turned_lockLost serves lost))
      · rw [← runs (.inl active)] at locked
        exact ⟨fun heard => becomes ((Supervised.turned_active active locked).trans (if_neg (Nat.not_le.mpr heard))),
          fun silent => becomes ((Supervised.turned_active active locked).trans (if_pos silent))⟩
      · rw [← runs (.inr quiet)] at locked
        exact ⟨fun heard => becomes ((Supervised.turned_quiet quiet locked).trans (if_neg (Nat.not_le.mpr heard))),
          fun silent => (isHalted _).mpr (becomes ((Supervised.turned_quiet quiet locked).trans (if_pos silent)))⟩
  · intro pair on partnerOn meets d hd
    have tests := Supervised.haltCause_counted (r := s.govRecord c) (x := (startBoundary s).supervised c)
      (by rw [sup, judged on]; exact meets)
    have halted := boundaryWith_pair (place := place) order (placed c) pair on partnerOn tests d hd
    rw [(supervised_startBoundary s d).2.1] at halted
    exact ⟨halted.link, halted.holdoff, halted.miss, halted.seek, halted.rendezvous⟩

end Sys2Proof.Machine
end

section
/-! SUPPORT. The work of a TAC on an order of its own (R86 to R102): what closing, opening, arming and switching an order make
of the carriers of its position, and the pending power request. -/

namespace Sys2Proof.Machine

/-- A TAC changed and a statistic of its orders counted. -/
theorem counted_modTac (c : Carrier) (f : Tac → Tac) (g : TacStats → TacStats) (s : State) :
    modTacStats c g (modTac c f s) = { s with carriers := s.carriers.set c { s.car c with
      tac := f (s.car c).tac, stats := { (s.car c).stats with tac := g (s.car c).stats.tac } } } := by
  simp [modTacStats, modStats, modTac, modCar, State.setCar, State.car]

theorem car_modTacStats (c d : Carrier) (f : TacStats → TacStats) (s : State) :
    (modTacStats c f s).car d = if d = c then
      { s.car c with stats := { (s.car c).stats with tac := f (s.car c).stats.tac } } else s.car d :=
  car_modCar c d _ s

/-! ### The pending power request (R102) -/

/-- Settles O37: the request is clamped by `steppedAtten`, and a change alone issues SET_ATTEN and is counted. -/
theorem powerStepApplied : Obligations.PowerStepApplied := by
  rintro s _ c rfl _ low
  refine ⟨fun idle => by simp only [applyPower, idle], fun request waiting => ?_⟩
  obtain ⟨a, ha⟩ : ∃ a, a = steppedAtten (s.car c).tac.atten (s.car c).sup.record.attenMin request := ⟨_, rfl⟩
  refine ⟨a, by rw [ha, steppedAtten]; omega, ?_⟩
  unfold applyPower
  simp only [waiting, ← ha]
  by_cases same : a = (s.car c).tac.atten
  · simp [same, modTac, modCar, State.setCar]
  · rw [if_neg same, if_neg same, if_neg same, counted_modTac]
    rfl

/-! ### Orders that close -/

/-- An order closed with a change `f` of the carrier's order statistics. -/
theorem closeCounted_spec {c : Carrier} {s : State} (hu : s.isUpper c = false) (st : OrderState) (b : Nat)
    (f : TacStats → TacStats) :
    OrderClosed c st b (f (s.car c).stats.tac) s (modTacStats c f (closeOrder c st b s)) ∧
      modTacStats c f (closeOrder c st b s) =
        { s with carriers := (modTacStats c f (closeOrder c st b s)).carriers } := by
  obtain ⟨⟨own, copied, others⟩, device⟩ := closeOrder_spec hu st b
  refine ⟨⟨?_, fun d hd h1 h2 h3 => ?_, fun d hd h => ?_⟩, ?_⟩
  · rw [car_modTacStats, if_pos rfl, own]
  · rw [car_modTacStats, if_neg hd, copied d hd h1 h2 h3]
  · rw [car_modTacStats, if_neg hd, others d hd h]
  · rw [modTacStats, modStats, modCar, State.setCar]
    generalize closeOrder c st b s = u at device ⊢
    rw [device]

/-- An order closed with its CANCEL in the ORDER's place (R97), counted by `f`. -/
theorem cancelCounted_spec {c : Carrier} {s : State} (hu : s.isUpper c = false) (o : OpenOrder) (st : OrderState) (b : Nat)
    (f : TacStats → TacStats) :
    OrderClosed c st b (f (s.car c).stats.tac) s (modTacStats c f (closeOrder c st b (placeCancel c o s))) ∧
      modTacStats c f (closeOrder c st b (placeCancel c o s)) = { s with
        carriers := (modTacStats c f (closeOrder c st b (placeCancel c o s))).carriers
        outQueue := queueWith (.t c) (.cancel c o.id o.pair) s.outQueue } :=
  closeCounted_spec (s := placeCancel c o s) hu st b f

/-! ### Orders that open (R87, R88) -/

/-- A CANCEL waits in the T place exactly when the place holds one (R87). -/
theorem cancelWaits_iff (s : State) (c : Carrier) :
    s.cancelWaits c = true ↔ ∃ d i p, s.messageAt (.t c) = some (.cancel d i p) := by
  unfold State.cancelWaits
  split
  next d i p held => simp [held]
  next other => simpa using fun d i p held => other d i p held

/-- A CANCEL in a T place of a lawful queue names that carrier (R110). -/
theorem cancel_names {s : State} {c d : Carrier} {i : Nat} {p : Bool} (law : QueueLaw s)
    (held : s.messageAt (.t c) = some (.cancel d i p)) : d = c := by
  obtain ⟨m, found, msg⟩ := Option.map_eq_some_iff.mp held
  have role := law.2 m (List.mem_of_find?_eq_some found)
  have place : m.place = .t c := by simpa using List.find?_some found
  rw [place, msg] at role
  simpa [Place.holds] using role

/-- The opening conditions of R87, one by one. -/
theorem mayOpen_iff (s : State) (c : Carrier) : s.mayOpen c = true ↔
    (s.car c).tac.state = .steady ∧ s.link c = .active ∧ (s.paired c = true → s.link (partner c) = .active) ∧
      s.timebase.state = .external ∧ s.tables.scheduled = none ∧ s.cancelWaits c = false ∧
      (s.car c).tac.target ≠ (s.car c).tac.current := by
  simp only [State.mayOpen, Bool.and_eq_true, beq_iff_eq, bne_iff_ne, Bool.or_eq_true, Bool.not_eq_true',
    Option.isNone_iff_eq_none]
  cases s.paired c <;> simp [and_assoc]

/-- The order that a carrier which governs itself opens (R88). -/
theorem newOrder_eq {s : State} {c : Carrier} (hu : s.isUpper c = false) : s.newOrder c =
    { id := (s.car c).tac.nextId, target := (s.car c).tac.target, openedAt := s.timebase.superframe,
      effect := s.timebase.superframe + BitVec.ofNat 32 (s.car c).sup.inForce.lead,
      pair := s.paired c, armed := false } := by
  rw [State.newOrder, State.govInForce, gov_of_not_upper hu]

/-- What the pair's copies make of the carriers after the TAC of the lower one has changed (R86). -/
theorem car_mirrored {c : Carrier} {s : State} (hu : s.isUpper c = false) (f : Tac → Tac) :
    (mirrorOrder c (modTac c f s)).car c = { s.car c with tac := f (s.car c).tac } ∧
    ∀ d, d ≠ c → (mirrorOrder c (modTac c f s)).car d =
      if s.paired c = true ∧ d = partner c ∧ s.link d ≠ .disabled then
        { s.car d with tac := { (s.car d).tac with
          state := (f (s.car c).tac).state, order := (f (s.car c).tac).order } }
      else s.car d := by
  have own : (modTac c f s).car c = { s.car c with tac := f (s.car c).tac } := car_modCar_same _ _ _
  refine ⟨?_, fun d hd => ?_⟩
  · rw [car_mirrorOrder (s := modTac c f s) hu, if_neg fun h => partner_ne c h.2.1.symm, own]
  · have other : (modTac c f s).car d = s.car d := car_modCar_other _ _ hd
    rw [car_mirrorOrder (s := modTac c f s) hu, State.link, other, own]
    rfl

/-- The opening of an order: the carriers of its position, and its ORDER in the Out Queue (R88). -/
theorem openOrderWork_opens {c : Carrier} {s : State} (hu : s.isUpper c = false) (may : s.mayOpen c = true) :
    (openOrderWork c s).car c = { s.car c with
      tac := { (s.car c).tac with
        state := .ordered, order := some (s.newOrder c), nextId := ((s.car c).tac.nextId + 1) % 16 }
      stats := { (s.car c).stats with tac := { (s.car c).stats.tac with
        opened := count32 (s.car c).stats.tac.opened } } } ∧
    (∀ d, d ≠ c → (openOrderWork c s).car d =
      if s.paired c = true ∧ d = partner c then
        { s.car d with tac := { (s.car d).tac with state := .ordered, order := some (s.newOrder c) } } else s.car d) ∧
    openOrderWork c s = { s with
      carriers := (openOrderWork c s).carriers
      outQueue := queueWith (.t c) (.order c (s.newOrder c).id (s.newOrder c).target (s.newOrder c).pair) s.outQueue } := by
  obtain ⟨-, -, partnerActive, -⟩ := (mayOpen_iff s c).mp may
  obtain ⟨own, others⟩ := car_mirrored hu fun t =>
    { t with state := .ordered, order := some (s.newOrder c), nextId := (t.nextId + 1) % 16 }
  have device := mirrorOrder_only c (modTac c (fun t =>
    { t with state := .ordered, order := some (s.newOrder c), nextId := (t.nextId + 1) % 16 }) s)
  have opened : openOrderWork c s = modTacStats c (fun x => { x with opened := count32 x.opened })
      (placeMessage (.t c) (.order c (s.newOrder c).id (s.newOrder c).target (s.newOrder c).pair)
        (mirrorOrder c (modTac c (fun t =>
          { t with state := .ordered, order := some (s.newOrder c), nextId := (t.nextId + 1) % 16 }) s))) := by
    rw [openOrderWork, if_pos may]
  rw [opened]
  generalize mirrorOrder c _ = u at own others device ⊢
  have queue : u.outQueue = s.outQueue := by rw [device]; rfl
  refine ⟨?_, fun d hd => ?_, ?_⟩
  · rw [car_modTacStats, if_pos rfl, car_placeMessage, own]
  · rw [car_modTacStats, if_neg hd, car_placeMessage, others d hd]
    refine if_congr ⟨fun h => ⟨h.1, h.2.1⟩, fun h => ⟨h.1, h.2, ?_⟩⟩ rfl rfl
    rw [h.2, partnerActive h.1]
    decide
  · rw [device]
    rfl

/-- Settles O33: the opening conditions one by one, and the order that opens. -/
theorem orderOpens : Obligations.OrderOpens := by
  rintro s _ c _ hu rfl rfl
  refine ⟨fun steady active partnerActive external free noCancel law differs => ?_, fun closed => ?_⟩
  · have quiet : s.cancelWaits c = false := by
      rw [← Bool.not_eq_true, cancelWaits_iff]
      rintro ⟨d, i, p, held⟩
      exact noCancel i p (cancel_names law held ▸ held)
    obtain ⟨own, others, device⟩ := openOrderWork_opens hu
      ((mayOpen_iff s c).mpr ⟨steady, active, partnerActive, external, free, quiet, differs⟩)
    rw [newOrder_eq hu] at own others device
    exact ⟨own, others, device⟩
  · refine if_neg fun may => ?_
    obtain ⟨steady, active, partnerActive, external, free, quiet, differs⟩ := (mayOpen_iff s c).mp may
    rcases closed with h | h | ⟨pair, h⟩ | h | h | ⟨i, p, h⟩ | h
    · exact h steady
    · exact h active
    · exact h (partnerActive pair)
    · cases h.symm.trans external
    · exact h free
    · rw [(cancelWaits_iff s c).mpr ⟨c, i, p, h⟩] at quiet
      cases quiet
    · exact differs h

/-! ### Orders at their boundaries (R91, R93, R94) -/

theorem orderAt_iff {s : State} {c : Carrier} {st : OrderState} {e : Word32} {o : OpenOrder} :
    s.orderAt c st e = some o ↔ (s.car c).tac.order = some o ∧ (s.car c).tac.state = st ∧ o.effect = e := by
  unfold State.orderAt
  cases (s.car c).tac.order with
  | none => simp
  | some x =>
    simp only [Option.ite_none_right_eq_some, Option.some.injEq]
    refine ⟨fun ⟨⟨state, effect⟩, same⟩ => ⟨same, state, same ▸ effect⟩, fun ⟨same, state, effect⟩ => ⟨⟨state, ?_⟩, same⟩⟩
    rwa [same]

/-- The TAC's own commands act at a boundary on a carrier that is neither DISABLED nor the upper one of a pair (R86). -/
theorem orderWork_of {s : State} {c : Carrier} (at_boundary : s.timebase.atBoundary = true) (on : s.link c ≠ .disabled)
    (hu : s.isUpper c = false) : s.orderWork c = true := by
  simp [State.orderWork, at_boundary, enabled_eq, on, hu]

/-- What a notice makes of the port depends on the port and the notice enables alone. -/
theorem Noticed.congr {n : Notice} {s u : State} {p : Port} (h : Noticed n u p) (port : u.port = s.port)
    (alarms : u.alarms = s.alarms) : Noticed n s p := by
  rw [Noticed, port, alarms] at h
  exact h

/-- An unconfirmed order at its deadline (R91). -/
theorem missDeadline_spec {c : Carrier} {s : State} (hu : s.isUpper c = false) (o : OpenOrder) :
    OrderClosed c .backoff 2 { (s.car c).stats.tac with timeouts := count32 (s.car c).stats.tac.timeouts } s
      (missDeadline c o s) ∧
    Noticed (.changeFailed c none) s (missDeadline c o s).port ∧
    missDeadline c o s = { s with
      carriers := (missDeadline c o s).carriers, port := (missDeadline c o s).port
      outQueue := queueWith (.t c) (.cancel c o.id o.pair) s.outQueue } := by
  obtain ⟨closed, device⟩ := cancelCounted_spec hu o .backoff 2 fun x => { x with timeouts := count32 x.timeouts }
  unfold missDeadline
  generalize modTacStats c _ _ = u at closed device ⊢
  obtain ⟨p, placed, noticed⟩ := placeNotice_spec (.changeFailed c none) u
  rw [placed]
  refine ⟨closed, noticed.congr (by rw [device]) (by rw [device]), ?_⟩
  rw [device]

/-- A COMMITTED order armed at the modem: its flag, and the pair's copy of it (R86, R93). -/
theorem armOrder_spec {c : Carrier} {s : State} (hu : s.isUpper c = false) (o : OpenOrder) :
    (armOrder c o s).car c = { s.car c with tac := { (s.car c).tac with order := some { o with armed := true } } } ∧
    (∀ d, d ≠ c → (armOrder c o s).car d =
      if s.paired c = true ∧ d = partner c ∧ s.link d ≠ .disabled then
        { s.car d with tac := { (s.car d).tac with
          state := (s.car c).tac.state, order := some { o with armed := true } } }
      else s.car d) ∧
    armOrder c o s = { s with
      carriers := (armOrder c o s).carriers
      modem := { s.modem with outbound := s.modem.outbound ++
        [.armTx (orderMask c o.pair) (s.entry o.target).modulation (s.entry o.target).code] } } := by
  obtain ⟨own, others⟩ := car_mirrored
    (s := emit (.armTx (orderMask c o.pair) (s.entry o.target).modulation (s.entry o.target).code) s) hu
    fun t => { t with order := some { o with armed := true } }
  refine ⟨own, others, ?_⟩
  unfold armOrder
  rw [mirrorOrder_only]
  rfl

/-- Settles O34: at E-1 by `missDeadline_spec` and `armOrder_spec`. -/
theorem orderDeadlineAndArmTx : Obligations.OrderDeadlineAndArmTx := by
  refine ⟨fun s c o high boundary on hu held ordered effect => ?_,
    fun s c o high boundary on hu held committed effect => ?_⟩
  · have run : exec (.orderDeadline c) s = .next (missDeadline c o s) := by
      show execOrderDeadline c s = _
      rw [execOrderDeadline, running_high _ high, if_pos (orderWork_of boundary on hu), deadline,
        orderAt_iff.mpr ⟨held, ordered, effect⟩]
    exact ⟨_, run, missDeadline_spec hu o⟩
  · have run : exec (.armTx c) s = .next (if o.armed then s else armOrder c o s) := by
      show execArmTx c s = _
      rw [execArmTx, running_high _ high, if_pos (orderWork_of boundary on hu), armAtDeadline,
        orderAt_iff.mpr ⟨held, committed, effect⟩]
    rw [run]
    refine ⟨fun armed => by rw [if_pos armed], fun unarmed => ⟨armOrder c o s, by rw [if_neg (by simp [unarmed])], ?_⟩⟩
    have spec := armOrder_spec hu o
    rw [committed] at spec
    exact spec

/-- The current profile becomes the target, with its notice (R94). -/
theorem takeTarget_spec (c : Carrier) (target : Nat) (s : State) :
    ∃ p, takeTarget c target s = { s with
        carriers := s.carriers.set c { s.car c with tac := { (s.car c).tac with current := target } }, port := p } ∧
      Noticed (.profileChanged c false (s.car c).tac.current target) s p := by
  obtain ⟨p, placed, noticed⟩ := placeNotice_spec (.profileChanged c false (s.car c).tac.current target)
    (modTac c (fun t => { t with current := target }) s)
  exact ⟨p, placed, noticed⟩

/-- The target taken by a carrier, and for a pair by its partner after it. -/
def takeTargets (c : Carrier) (target : Nat) (pair : Bool) (s : State) : State :=
  if pair then takeTarget (partner c) target (takeTarget c target s) else takeTarget c target s

theorem switchOrder_eq (c : Carrier) (o : OpenOrder) (s : State) : switchOrder c o s =
    modTacStats c (fun x => { x with switched := count32 x.switched })
      (takeTargets c o.target o.pair (closeOrder c .steady 0 (clearPlace (.t c) s))) := rfl

/-- A partner's TAC does not see the carrier take its target. -/
theorem car_takeTarget (c d : Carrier) (target : Nat) (s : State) : (takeTarget c target s).car d =
    if d = c then { s.car c with tac := { (s.car c).tac with current := target } } else s.car d := by
  obtain ⟨p, first, -⟩ := takeTarget_spec c target s
  rw [first]
  exact Four.get_set _ _ _ _

theorem car_takeTargets (c d : Carrier) (target : Nat) (pair : Bool) (s : State) : (takeTargets c target pair s).car d =
    if d = c ∨ (pair = true ∧ d = partner c) then
      { s.car d with tac := { (s.car d).tac with current := target } } else s.car d := by
  unfold takeTargets
  cases pair with
  | false => by_cases own : d = c <;> simp [car_takeTarget, own]
  | true =>
    by_cases own : d = c
    · subst own
      simp [car_takeTarget, (partner_ne d).symm]
    · by_cases other : d = partner c <;> simp [car_takeTarget, own, other, partner_ne]

/-- Each carrier that takes the target places its notice, the lower carrier's first (R94; log entry 5). -/
theorem takeTargets_notices (c : Carrier) (target : Nat) (pair : Bool) (s : State) :
    (∃ p, Noticed (.profileChanged c false (s.car c).tac.current target) s p ∧
      (pair = false → (takeTargets c target pair s).port = p) ∧
      (pair = true → Noticed (.profileChanged (partner c) false (s.car (partner c)).tac.current target)
        { s with port := p } (takeTargets c target pair s).port)) ∧
    takeTargets c target pair s = { s with
      carriers := (takeTargets c target pair s).carriers, port := (takeTargets c target pair s).port } := by
  obtain ⟨p, first, noticed⟩ := takeTarget_spec c target s
  unfold takeTargets
  cases pair with
  | false =>
    rw [if_neg (by decide), first]
    exact ⟨⟨p, noticed, fun _ => rfl, nofun⟩, rfl⟩
  | true =>
    obtain ⟨q, second, noticed'⟩ := takeTarget_spec (partner c) target (takeTarget c target s)
    rw [car_takeTarget, if_neg (partner_ne c)] at noticed'
    rw [if_pos rfl, second, first]
    exact ⟨⟨p, noticed, nofun, fun _ => noticed'.congr (by rw [first]) (by rw [first])⟩, rfl⟩

/-- A switch at the carriers: the order closes, and the target is taken by each carrier that the order names (R94). -/
theorem switchOrder_car {c : Carrier} {s : State} (hu : s.isUpper c = false) {o : OpenOrder} (pair : o.pair = s.paired c) :
    (switchOrder c o s).car c = { s.car c with
      tac := { (s.car c).tac with order := none, state := .steady, backoff := 0, current := o.target }
      stats := { (s.car c).stats with tac := { (s.car c).stats.tac with
        switched := count32 (s.car c).stats.tac.switched } } } ∧
    (s.paired c = true → s.link (partner c) ≠ .disabled →
      (switchOrder c o s).car (partner c) = { s.car (partner c) with
        tac := { (s.car (partner c)).tac with order := none, state := .steady, current := o.target } }) ∧
    ∀ d, d ≠ c → s.paired c = false ∨ d ≠ partner c → (switchOrder c o s).car d = s.car d := by
  obtain ⟨⟨own, copied, others⟩, -⟩ := closeOrder_spec (s := clearPlace (.t c) s) hu .steady 0
  rw [switchOrder_eq]
  refine ⟨?_, fun paired on => ?_, fun d hd apart => ?_⟩
  · rw [car_modTacStats, if_pos rfl, car_takeTargets, if_pos (.inl rfl), own]
    rfl
  · rw [car_modTacStats, if_neg (partner_ne c), car_takeTargets, if_pos (.inr ⟨pair.trans paired, rfl⟩),
      copied _ (partner_ne c) paired rfl on]
    rfl
  · have untaken : ¬ (d = c ∨ (o.pair = true ∧ d = partner c)) := by
      rw [pair]
      grind
    rw [car_modTacStats, if_neg hd, car_takeTargets, if_neg untaken, others d hd (apart.imp_right .inl)]
    rfl

/-- A switch at the device: the notices, and the T place emptied (R94). -/
theorem switchOrder_device {c : Carrier} {s : State} (hu : s.isUpper c = false) {o : OpenOrder} (pair : o.pair = s.paired c) :
    (∃ p, Noticed (.profileChanged c false (s.car c).tac.current o.target) s p ∧
      (s.paired c = false → (switchOrder c o s).port = p) ∧
      (s.paired c = true → Noticed (.profileChanged (partner c) false (s.car (partner c)).tac.current o.target)
        { s with port := p } (switchOrder c o s).port)) ∧
    switchOrder c o s = { s with
      carriers := (switchOrder c o s).carriers, port := (switchOrder c o s).port
      outQueue := s.outQueue.filter fun m => m.place != .t c } := by
  obtain ⟨⟨own, copied, others⟩, closed⟩ := closeOrder_spec (s := clearPlace (.t c) s) hu .steady 0
  have current (d : Carrier) : ((closeOrder c .steady 0 (clearPlace (.t c) s)).car d).tac.current =
      (s.car d).tac.current := by
    by_cases hd : d = c
    · rw [hd, own]
      rfl
    · by_cases h : s.paired c = true ∧ d = partner c ∧ s.link d ≠ .disabled
      · rw [copied d hd h.1 h.2.1 h.2.2]
        rfl
      · rw [others d hd (by change s.paired c = false ∨ d ≠ partner c ∨ s.link d = .disabled; grind)]
        rfl
  obtain ⟨⟨p, first, alone, both⟩, device⟩ :=
    takeTargets_notices c o.target o.pair (closeOrder c .steady 0 (clearPlace (.t c) s))
  rw [current] at first both
  rw [pair] at alone both device
  rw [switchOrder_eq, pair]
  refine ⟨⟨p, first.congr (by rw [closed]; rfl) (by rw [closed]; rfl), alone,
    fun paired => (both paired).congr rfl (by rw [closed]; rfl)⟩, ?_⟩
  rw [modTacStats, modStats, modCar, State.setCar]
  generalize takeTargets c o.target (s.paired c) _ = u at device ⊢
  rw [device, closed]
  rfl

/-- Settles O35: the switch by `switchOrder_car` and `switchOrder_device`, the end of a backoff by `closeOrder_spec`. -/
theorem orderSwitchAndBackoffExpiry : Obligations.OrderSwitchAndBackoffExpiry := by
  refine ⟨fun s c o high boundary on hu held committed effect pair => ?_,
    fun s c high boundary on hu backoff ended => ?_⟩
  · have run : exec (.orderSwitch c) s = .next (openOrderWork c (formTarget c (switchOrder c o s))) := by
      show execOrderSwitch c s = _
      rw [execOrderSwitch, running_high _ high, orderWork_of boundary on hu, orderAt_iff.mpr ⟨held, committed, effect⟩]
    obtain ⟨own, partnerOn, others⟩ := switchOrder_car hu pair
    obtain ⟨notices, device⟩ := switchOrder_device hu pair
    exact ⟨_, run, own, partnerOn, others, notices, device⟩
  · have run : exec (.backoffExpiry c) s = .next (openOrderWork c (formTarget c (closeOrder c .steady 0 s))) := by
      show execBackoffExpiry c s = _
      rw [execBackoffExpiry, running_high _ high, if_pos (by simp [orderWork_of boundary on hu, State.backoffOver, *])]
    exact ⟨_, run, closeOrder_spec hu .steady 0⟩

end Sys2Proof.Machine
end

section
/-! SUPPORT. Responses to an order (R89, R90, R93, R95), and the steps of a boundary's TAC work that no command names (R92, R96,
R98, R100). -/

namespace Sys2Proof.Machine

/-! ### Responses (R89, R90, R93, R95) -/

theorem openOrder_eq_some {t : Tac} {o : OpenOrder} :
    t.openOrder = some o ↔ t.order = some o ∧ (t.state = .ordered ∨ t.state = .committed) := by
  simp [Tac.openOrder, Tac.isOpen, and_comm]

theorem takeConfirm_disabled {c : Carrier} {s : State} (off : s.link c = .disabled) (id target : Nat) :
    takeConfirm c id target s = s := if_pos off

theorem takeRefuse_disabled {c : Carrier} {s : State} (off : s.link c = .disabled) (id reason : Nat) :
    takeRefuse c id reason s = s := if_pos off

/-- A CONFIRM that finds no open order of its id and target is late (R95). -/
theorem takeConfirm_late {c : Carrier} {s : State} (on : s.link c ≠ .disabled) {id target : Nat}
    (unmatched : s.isUpper c = true ∨ ∀ o, (s.car c).tac.openOrder = some o → o.id ≠ id ∨ o.target ≠ target) :
    takeConfirm c id target s = lateResponse c s := by
  unfold takeConfirm
  rw [if_neg on]
  by_cases upper : s.isUpper c = true
  · rw [if_pos upper]
  rw [if_neg upper]
  split
  · rfl
  next o held => exact if_neg fun ⟨sameId, sameTarget⟩ =>
      (unmatched.resolve_left upper o held).elim (· sameId) (· sameTarget)

/-- A REFUSE that finds no ORDERED order of its id is late (R95). -/
theorem takeRefuse_late {c : Carrier} {s : State} (on : s.link c ≠ .disabled) {id reason : Nat}
    (unmatched : s.isUpper c = true ∨
      ((s.car c).tac.state = .ordered → ∀ o, (s.car c).tac.openOrder = some o → o.id ≠ id)) :
    takeRefuse c id reason s = lateResponse c s := by
  unfold takeRefuse
  rw [if_neg on]
  by_cases upper : s.isUpper c = true
  · rw [if_pos upper]
  rw [if_neg upper]
  split
  · rfl
  next o held => exact if_neg fun ⟨ordered, sameId⟩ => unmatched.resolve_left upper ordered o held sameId

/-- A CONFIRM of an ORDERED order commits it (R89). -/
theorem takeConfirm_commits {c : Carrier} {s : State} {o : OpenOrder} (on : s.link c ≠ .disabled)
    (hu : s.isUpper c = false) (held : (s.car c).tac.order = some o) (ordered : (s.car c).tac.state = .ordered) :
    takeConfirm c o.id o.target s = mirrorOrder c (modTac c (fun t => { t with state := .committed }) s) := by
  have opened : (s.car c).tac.openOrder = some o := openOrder_eq_some.mpr ⟨held, .inl ordered⟩
  unfold takeConfirm
  rw [if_neg on, if_neg (by simp [hu])]
  simp only [opened, and_self, if_true, ordered]

/-- A CONFIRM of a COMMITTED order is counted as repeated (R93). -/
theorem takeConfirm_repeated {c : Carrier} {s : State} {o : OpenOrder} (on : s.link c ≠ .disabled)
    (hu : s.isUpper c = false) (held : (s.car c).tac.order = some o) (committed : (s.car c).tac.state = .committed) :
    takeConfirm c o.id o.target s =
      modTacStats c (fun x => { x with repeatedConfirms := count32 x.repeatedConfirms }) s := by
  have opened : (s.car c).tac.openOrder = some o := openOrder_eq_some.mpr ⟨held, .inr committed⟩
  unfold takeConfirm
  rw [if_neg on, if_neg (by simp [hu])]
  simp only [opened, and_self, if_true, committed]
  rfl

/-- A REFUSE of an ORDERED order closes it into BACKOFF (R90). -/
theorem takeRefuse_closes {c : Carrier} {s : State} {o : OpenOrder} (on : s.link c ≠ .disabled)
    (hu : s.isUpper c = false) (held : (s.car c).tac.order = some o) (ordered : (s.car c).tac.state = .ordered)
    (reason : Nat) :
    takeRefuse c o.id reason s = placeNotice (.changeFailed c (some reason))
      (modTacStats c (TacStats.countRefusal reason) (closeOrder c .backoff 2 (clearPlace (.t c) s))) := by
  have opened : (s.car c).tac.openOrder = some o := openOrder_eq_some.mpr ⟨held, .inl ordered⟩
  have swap (n : Notice) (f : TacStats → TacStats) (u : State) :
      modTacStats c f (placeNotice n u) = placeNotice n (modTacStats c f u) := by
    unfold placeNotice
    split <;> simp_all [modTacStats, modStats, modCar, State.setCar, State.car]
  unfold takeRefuse
  rw [if_neg on, if_neg (by simp [hu])]
  simp only [opened, ordered, and_self, if_true, swap]

/-- The refusal count that a reason moves (R106, R191). -/
theorem countRefusal_cases {reason : Nat} {x y : TacStats}
    (h : (reason = 1 ∧ y = { x with refNotActive := min (x.refNotActive + 1) 4294967295 }) ∨
      (reason = 2 ∧ y = { x with refMismatch := min (x.refMismatch + 1) 4294967295 }) ∨
      (reason = 3 ∧ y = { x with refNoProfile := min (x.refNoProfile + 1) 4294967295 }) ∨
      (reason = 4 ∧ y = { x with refPairSplit := min (x.refPairSplit + 1) 4294967295 }) ∨
      ((reason = 0 ∨ 5 ≤ reason) ∧ y = x)) : TacStats.countRefusal reason x = y := by
  unfold TacStats.countRefusal reasonNotActive reasonTableMismatch reasonNoSuchProfile reasonPairSplit
  rcases h with ⟨rfl, rfl⟩ | ⟨rfl, rfl⟩ | ⟨rfl, rfl⟩ | ⟨rfl, rfl⟩ | ⟨other, rfl⟩
  · rfl
  · rfl
  · rfl
  · rfl
  · rw [if_neg (by omega), if_neg (by omega), if_neg (by omega), if_neg (by omega)]

/-- A REFUSE taken: the order closed, its notice, and the T place emptied (R90). -/
theorem takeRefuse_spec {c : Carrier} {s : State} {o : OpenOrder} (on : s.link c ≠ .disabled)
    (hu : s.isUpper c = false) (held : (s.car c).tac.order = some o) (ordered : (s.car c).tac.state = .ordered)
    (reason : Nat) :
    OrderClosed c .backoff 2 (TacStats.countRefusal reason (s.car c).stats.tac) s (takeRefuse c o.id reason s) ∧
    Noticed (.changeFailed c (some reason)) s (takeRefuse c o.id reason s).port ∧
    takeRefuse c o.id reason s = { s with
      carriers := (takeRefuse c o.id reason s).carriers, port := (takeRefuse c o.id reason s).port
      outQueue := s.outQueue.filter fun m => m.place != .t c } := by
  rw [takeRefuse_closes on hu held ordered]
  obtain ⟨closed, device⟩ :=
    closeCounted_spec (s := clearPlace (.t c) s) hu .backoff 2 (TacStats.countRefusal reason)
  generalize modTacStats c _ _ = u at closed device ⊢
  obtain ⟨p, placed, noticed⟩ := placeNotice_spec (.changeFailed c (some reason)) u
  rw [placed]
  exact ⟨closed, noticed.congr (by rw [device]; rfl) (by rw [device]; rfl), by rw [device]; rfl⟩

/-- Settles O36: each response is late, or meets the open order in one of the three ways above. -/
theorem responsesToAnOrder : Obligations.ResponsesToAnOrder := by
  rintro s c id x _ rfl
  refine ⟨fun off => ⟨takeConfirm_disabled off id x, takeRefuse_disabled off id x⟩, fun on => ⟨?_, ?_⟩⟩
  · rintro _ rfl
    refine ⟨fun unmatched => takeConfirm_late on (unmatched.imp_right fun h o opened => ?_),
      fun unmatched => takeRefuse_late on (unmatched.imp_right fun h ordered o opened => ?_)⟩
    · rcases h with closed | other
      · simp [Tac.openOrder, closed] at opened
      · exact other o (openOrder_eq_some.mp opened).1
    · exact h.resolve_left (not_not.mpr ordered) o (openOrder_eq_some.mp opened).1
  · rintro o hu held rfl
    refine ⟨?_, ?_, fun y ordered counted => ?_⟩
    · rintro rfl ordered
      obtain ⟨own, others⟩ := car_mirrored (s := s) hu fun t => { t with state := .committed }
      rw [held] at others
      rw [takeConfirm_commits on hu held ordered]
      exact ⟨mirrorOrder_only c _, own, others⟩
    · rintro rfl committed
      rw [takeConfirm_repeated on hu held committed]
      rfl
    · rw [gov_of_not_upper hu] at counted
      rw [← countRefusal_cases counted]
      exact takeRefuse_spec on hu held ordered x

/-! ### The steps of R100 that no command names -/

/-- With no open order, or with the timebase EXTERNAL, step 1 does nothing (R98). -/
theorem closeOnTimebaseLoss_idle {c : Carrier} {s : State}
    (idle : s.timebase.state = .external ∨ (s.car c).tac.openOrder = none) : closeOnTimebaseLoss c s = s := by
  unfold closeOnTimebaseLoss
  split
  · rfl
  next o opened =>
    rcases idle with external | none
    · rw [if_neg (by simp [external])]
    · cases opened.symm.trans none

/-- Step 1 on an open order with the timebase INTERNAL (R97, R98). -/
theorem closeOnTimebaseLoss_spec {c : Carrier} {s : State} (hu : s.isUpper c = false) {o : OpenOrder}
    (internal : s.timebase.state = .internal) (opened : (s.car c).tac.openOrder = some o) :
    OrderClosed c .steady 0 { (s.car c).stats.tac with
      timebaseCancels := count32 (s.car c).stats.tac.timebaseCancels } s (closeOnTimebaseLoss c s) ∧
    closeOnTimebaseLoss c s = { s with
      carriers := (closeOnTimebaseLoss c s).carriers, outQueue := queueWith (.t c) (.cancel c o.id o.pair) s.outQueue
      modem := { s.modem with outbound := s.modem.outbound ++
        (if o.armed then [.disarmTx (orderMask c o.pair)] else []) } } := by
  obtain ⟨closed, device⟩ :=
    cancelCounted_spec hu o .steady 0 fun x => { x with timebaseCancels := count32 x.timebaseCancels }
  have disarmed : closeOnTimebaseLoss c s =
      if o.armed then emit (.disarmTx (orderMask c o.pair)) (modTacStats c
        (fun x => { x with timebaseCancels := count32 x.timebaseCancels }) (closeOrder c .steady 0 (placeCancel c o s)))
      else modTacStats c (fun x => { x with timebaseCancels := count32 x.timebaseCancels })
        (closeOrder c .steady 0 (placeCancel c o s)) := by
    unfold closeOnTimebaseLoss
    simp only [opened, internal, if_true]
    split <;> rfl
  rw [disarmed]
  generalize modTacStats c _ _ = u at closed device ⊢
  cases o.armed with
  | true => exact ⟨closed, by rw [device]; rfl⟩
  | false => exact ⟨closed, by rw [device]; simp⟩

/-- Step 2 in BACKOFF: the count decrements, and a count that ends closes the backoff (R96). -/
theorem countBackoff_backoff {c : Carrier} {s : State} (backoff : (s.car c).tac.state = .backoff) :
    (2 ≤ (s.car c).tac.backoff → countBackoff c s = modTac c (fun t => { t with backoff := t.backoff - 1 }) s) ∧
    ((s.car c).tac.backoff ≤ 1 → countBackoff c s = closeOrder c .steady 0 s) := by
  have expired : (modTac c (fun t => { t with backoff := t.backoff - 1 }) s).backoffOver c =
      decide ((s.car c).tac.backoff ≤ 1) := by
    simp [State.backoffOver, backoff, Nat.sub_eq_zero_iff_le, beq_eq_decide]
  unfold countBackoff
  simp only [backoff, if_true, expired, decide_eq_true_eq]
  refine ⟨fun left => if_neg (by omega), fun ended => ?_⟩
  rw [if_pos ended]
  simp [closeOrder, modTac, modCar, State.setCar, State.car]

theorem countBackoff_other {c : Carrier} {s : State} (other : (s.car c).tac.state ≠ .backoff) : countBackoff c s = s :=
  if_neg other

/-- The upshift that step 7 reverses (R92). -/
def State.reverses (s : State) (c : Carrier) (o : OpenOrder) : Prop :=
  (s.car c).tac.order = some o ∧ (s.car c).tac.state = .ordered ∧ (s.car c).tac.current < o.target ∧
    (s.car c).tac.target < (s.car c).tac.current

theorem reverseUpshift_idle {c : Carrier} {s : State} (idle : ∀ o, ¬ s.reverses c o) : reverseUpshift c s = s := by
  unfold reverseUpshift
  simp only
  split
  · rfl
  next o held => exact if_neg fun h => idle o ⟨held, h⟩

theorem reverseUpshift_reverses {c : Carrier} {s : State} {o : OpenOrder} (h : s.reverses c o) :
    reverseUpshift c s = modTacStats c (fun x => { x with superseded := count32 x.superseded })
      (closeOrder c .steady 0 (placeCancel c o s)) := by
  obtain ⟨held, upshift⟩ := h
  unfold reverseUpshift
  simp only [held]
  exact if_pos upshift

/-- At a boundary a switch due is ORDER_SWITCH's own work (R94; log entry 3). -/
theorem switchAtEffect_due {c : Carrier} {s : State} {o : OpenOrder} (held : (s.car c).tac.order = some o)
    (committed : (s.car c).tac.state = .committed) (effect : o.effect = s.timebase.superframe) :
    switchAtEffect c s = switchOrder c o s := by
  rw [switchAtEffect, orderAt_iff.mpr ⟨held, committed, effect⟩]

theorem tacBoundary_disabled {c : Carrier} {s : State} (off : s.link c = .disabled) : tacBoundary c s = s :=
  if_neg (by simp [enabled_eq, off])

theorem tacBoundary_enabled {c : Carrier} {s : State} (on : s.link c ≠ .disabled) :
    tacBoundary c s = applyPower c (if s.isUpper c then s else orderBoundary c s) := if_pos (by simp [enabled_eq, on])

/-- Settles O38: each step by its lemmas, and the sequence by the definitions of the work. -/
theorem transmitWorkOfABoundary : Obligations.TransmitWorkOfABoundary := by
  refine ⟨?_, fun s c => ⟨transmitWork_eq s, tacBoundary_disabled, fun on upper => ?_, fun on hu => ⟨?_, ?_⟩⟩⟩
  · rintro s t c _ hu rfl
    refine ⟨?_, ?_, ?_⟩
    · rintro rfl
      refine ⟨fun idle => closeOnTimebaseLoss_idle (idle.imp_right fun shut => ?_), fun o internal held opened =>
        closeOnTimebaseLoss_spec hu internal (openOrder_eq_some.mpr ⟨held, opened⟩)⟩
      rcases shut with none | steady | backoff
      · simp [Tac.openOrder, none]
      · simp [Tac.openOrder, Tac.isOpen, steady]
      · simp [Tac.openOrder, Tac.isOpen, backoff]
    · rintro rfl
      refine ⟨countBackoff_other, fun backoff left => (countBackoff_backoff backoff).1 left, fun backoff ended => ?_⟩
      rw [(countBackoff_backoff backoff).2 ended]
      exact closeOrder_spec hu .steady 0
    · rintro rfl
      refine ⟨fun idle => reverseUpshift_idle fun o h => ?_, fun o held ordered => ⟨fun down =>
        reverseUpshift_idle fun o' h => ?_, fun up below => ?_⟩⟩
      · obtain ⟨held, ordered, -, below⟩ := h
        rcases idle with none | other | above
        · cases held.symm.trans none
        · exact other ordered
        · exact absurd below (Nat.not_lt.mpr above)
      · obtain ⟨held', -, up, -⟩ := h
        cases held.symm.trans held'
        exact absurd up (Nat.not_lt.mpr down)
      · rw [reverseUpshift_reverses ⟨held, ordered, up, below⟩]
        exact cancelCounted_spec hu o .steady 0 _
  · rw [tacBoundary_enabled on, if_pos upper]
  · rw [tacBoundary_enabled on, if_neg (by simp [hu]), orderBoundary]
  · intro high boundary
    have work := orderWork_of boundary on hu
    refine ⟨?_, ?_, fun o held committed effect => ?_⟩
    · show execOrderDeadline c s = _
      rw [execOrderDeadline, running_high _ high, if_pos work]
    · show execArmTx c s = _
      rw [execArmTx, running_high _ high, if_pos work]
    · show execOrderSwitch c s = _
      rw [execOrderSwitch, running_high _ high, work, orderAt_iff.mpr ⟨held, committed, effect⟩,
        switchAtEffect_due held committed effect]

end Sys2Proof.Machine
end

section
/-! SUPPORT. Laws 2, 3, 4, 9 and 10: changes that leave every order, and moves of the TACs of one position. -/

namespace Sys2Proof.Machine

/-! ### The order laws without the timebase's clause -/

/-- Laws 2, 4 and 10 of orders: what `OrderLaw` says whatever the timebase's state. -/
def OrdersAgree (s : State) : Prop :=
  ∀ c : Carrier, (s.car c).orderly (s.paired c) (s.inService c) ∧ (s.paired c = true → s.pairAgrees c)

theorem orderLaw_iff (s : State) : OrderLaw s ↔
    OrdersAgree s ∧ (s.timebase.state = .internal → ∀ c, (s.car c).tac.isOpen = false) :=
  ⟨fun h => ⟨fun c => ⟨(h c).1, (h c).2.1⟩, fun internal c => (h c).2.2 internal⟩,
    fun ⟨agree, shut⟩ c => ⟨(agree c).1, (agree c).2, fun internal => shut internal c⟩⟩

/-- A RAC at base with nothing armed (law 10). -/
def Rac.idle (r : Rac) : Prop := r.current = 0 ∧ r.armed = none ∧ r.advice = 0

/-- A carrier that is neither ACTIVE nor QUIET. -/
def CarrierState.out (k : CarrierState) : Prop := k.sup.link ≠ .active ∧ k.sup.link ≠ .quiet

/-- A carrier that only a command or its holdoff brings back: HALTED or DISABLED. -/
def CarrierState.rests (k : CarrierState) : Prop := k.sup.link = .halted ∨ k.sup.link = .disabled

theorem inService_eq_false {s : State} {c : Carrier} : s.inService c = false ↔ (s.car c).out := by
  simp [State.inService, State.link, CarrierState.out]

theorem CarrierState.rests.out {k : CarrierState} (h : k.rests) : k.out := by
  rcases h with e | e <;> simp [CarrierState.out, e]

theorem orderly_iff {paired : Bool} {s : State} {c : Carrier} : (s.car c).orderly paired (s.inService c) ↔
    (s.car c).tac.order.isSome = (s.car c).tac.isOpen ∧ (∀ o ∈ (s.car c).tac.order, o.pair = paired) ∧
      ((s.car c).out → (s.car c).tac.state = .steady ∧ (s.car c).tac.current = 0 ∧ (s.car c).rac.idle) := by
  rw [← inService_eq_false]
  rfl

namespace OrdersAgree

variable {s : State} (h : OrdersAgree s)
include h

theorem open_iff (c : Carrier) : (s.car c).tac.order.isSome = (s.car c).tac.isOpen := (orderly_iff.1 (h c).1).1

theorem order_pair {c : Carrier} {o : OpenOrder} (held : (s.car c).tac.order = some o) : o.pair = s.paired c :=
  (orderly_iff.1 (h c).1).2.1 o held

theorem base {c : Carrier} (out : (s.car c).out) :
    (s.car c).tac.state = .steady ∧ (s.car c).tac.current = 0 ∧ (s.car c).rac.idle := (orderly_iff.1 (h c).1).2.2 out

theorem pair {c : Carrier} (paired : s.paired c = true) : s.pairAgrees c := (h c).2 paired

/-- A TAC that is not STEADY belongs to a carrier in service, with its partner in a pair (laws 2 and 10). -/
theorem serves {c : Carrier} (busy : (s.car c).tac.state ≠ .steady) :
    ¬ (s.car c).out ∧ (s.paired c = true → ¬ (s.car (partner c)).out) :=
  ⟨fun out => busy (h.base out).1, fun paired out => busy ((h.pair paired).1.trans (h.base out).1)⟩

end OrdersAgree

/-! ### Changes that leave the orders -/

/-- A change of one carrier that leaves its order and its TX current profile, and does not take it out of service; out
of service it stays at base. -/
structure OrdersSame (k k' : CarrierState) : Prop where
  state : k'.tac.state = k.tac.state
  order : k'.tac.order = k.tac.order
  current : k'.tac.current = k.tac.current
  base : k'.out → k.out ∧ (k.rac.idle → k'.rac.idle)

/-- The laws hold where every carrier's order is left. -/
theorem OrdersAgree.of_same {s t : State} (h : OrdersAgree s) (paired : ∀ c, t.paired c = s.paired c)
    (same : ∀ c, OrdersSame (s.car c) (t.car c)) : OrdersAgree t := by
  refine fun c => ⟨orderly_iff.2 ⟨?_, fun o held => ?_, fun out => ?_⟩, fun pair => ?_⟩
  · rw [(same c).order, h.open_iff c, Tac.isOpen, Tac.isOpen, (same c).state]
  · rw [paired]
    exact h.order_pair ((same c).order ▸ held)
  · obtain ⟨was, idle⟩ := (same c).base out
    obtain ⟨steady, zero, base⟩ := h.base was
    exact ⟨(same c).state.trans steady, (same c).current.trans zero, idle base⟩
  · obtain ⟨state, order, current⟩ := h.pair (paired c ▸ pair)
    unfold State.pairAgrees
    rw [(same c).state, (same _).state, (same c).order, (same _).order, (same c).current, (same _).current]
    exact ⟨state, order, current⟩

/-- A change of one carrier that leaves its order, and leaves it in its place when it is HALTED or DISABLED. -/
structure OrdersLeft (k k' : CarrierState) : Prop extends OrdersSame k k' where
  rest : k.rests → k'.rests

theorem OrdersLeft.refl (k : CarrierState) : OrdersLeft k k := ⟨⟨rfl, rfl, rfl, fun out => ⟨out, id⟩⟩, id⟩

/-- A change that leaves a carrier's TAC order, its RAC and its link state. -/
theorem OrdersLeft.of_contexts {k k' : CarrierState} (tac : k'.tac.state = k.tac.state ∧ k'.tac.order = k.tac.order ∧
    k'.tac.current = k.tac.current) (rac : k'.rac = k.rac) (link : k'.sup.link = k.sup.link) : OrdersLeft k k' := by
  obtain ⟨state, order, current⟩ := tac
  exact ⟨⟨state, order, current, fun out => ⟨by rwa [CarrierState.out, link] at out, rac ▸ id⟩⟩,
    fun r => by rwa [CarrierState.rests, link]⟩

/-- A change of a RAC that arms nothing out of service, and keeps what is at base there. -/
theorem OrdersLeft.of_rac {k : CarrierState} {r : Rac} (h : k.out → k.rac.idle → r.idle) :
    OrdersLeft k { k with rac := r } := ⟨⟨rfl, rfl, rfl, fun out => ⟨out, h out⟩⟩, id⟩

theorem OrdersLeft.trans {k l m : CarrierState} (h : OrdersLeft k l) (g : OrdersLeft l m) : OrdersLeft k m where
  state := g.state.trans h.state
  order := g.order.trans h.order
  current := g.current.trans h.current
  base out := ⟨(h.base (g.base out).1).1, fun idle => (g.base out).2 ((h.base (g.base out).1).2 idle)⟩
  rest r := g.rest (h.rest r)

/-- Every carrier's order is left, and so are the pairing and the timebase's state and count. -/
structure OrderFrame (s t : State) : Prop where
  pairedA : t.pairedA = s.pairedA
  pairedB : t.pairedB = s.pairedB
  timebase : t.timebase.state = s.timebase.state
  superframe : t.timebase.superframe = s.timebase.superframe
  carriers : ∀ c, OrdersLeft (s.car c) (t.car c)

namespace OrderFrame

theorem refl (s : State) : OrderFrame s s := ⟨rfl, rfl, rfl, rfl, fun _ => .refl _⟩

theorem trans {s t u : State} (h : OrderFrame s t) (g : OrderFrame t u) : OrderFrame s u where
  pairedA := g.pairedA.trans h.pairedA
  pairedB := g.pairedB.trans h.pairedB
  timebase := g.timebase.trans h.timebase
  superframe := g.superframe.trans h.superframe
  carriers c := (h.carriers c).trans (g.carriers c)

/-- A step that touches neither a carrier nor the pairing nor the timebase. -/
theorem of_same {s t : State} (hc : t.carriers = s.carriers := by rfl) (ha : t.pairedA = s.pairedA := by rfl)
    (hb : t.pairedB = s.pairedB := by rfl) (ht : t.timebase = s.timebase := by rfl) : OrderFrame s t :=
  ⟨ha, hb, by rw [ht], by rw [ht], fun c => by simpa only [State.car, hc] using OrdersLeft.refl _⟩

/-- A step that changes one carrier, and neither the pairing nor the timebase. -/
theorem of_one {s t : State} {c : Carrier} {k : CarrierState} (h : OrdersLeft (s.car c) k)
    (hc : t.carriers = s.carriers.set c k := by rfl) (ha : t.pairedA = s.pairedA := by rfl)
    (hb : t.pairedB = s.pairedB := by rfl) (ht : t.timebase = s.timebase := by rfl) : OrderFrame s t := by
  refine ⟨ha, hb, by rw [ht], by rw [ht], fun d => ?_⟩
  simp only [State.car, hc, Four.get_set]
  split
  next e => exact e ▸ h
  next => exact .refl _

theorem ite {p : Prop} [Decidable p] {s t u : State} (h : p → OrderFrame s t) (g : ¬p → OrderFrame s u) :
    OrderFrame s (if p then t else u) := by
  split
  · exact h ‹_›
  · exact g ‹_›

theorem foldl {α : Type} {f : State → α → State} (h : ∀ u a, OrderFrame u (f u a)) (xs : List α) (s : State) :
    OrderFrame s (xs.foldl f s) := by
  induction xs generalizing s with
  | nil => exact refl s
  | cons x xs ih => exact (h s x).trans (ih _)

/-! ### One carrier changed -/

theorem modCar {c : Carrier} {f : CarrierState → CarrierState} {s : State} (h : OrdersLeft (s.car c) (f (s.car c))) :
    OrderFrame s (modCar c f s) := of_one h

/-- A change of anything but a carrier's contexts and its link state. -/
theorem modRest {c : Carrier} {f : CarrierState → CarrierState} (s : State)
    (h : ∀ k, (f k).tac = k.tac ∧ (f k).rac = k.rac ∧ (f k).sup.link = k.sup.link := by exact fun _ => ⟨rfl, rfl, rfl⟩) :
    OrderFrame s (Machine.modCar c f s) := by
  obtain ⟨tac, rac, link⟩ := h (s.car c)
  exact modCar (.of_contexts (by simp [tac]) rac link)

theorem modEst (c : Carrier) (f : Estimator → Estimator) (s : State) : OrderFrame s (modEst c f s) := modRest s

theorem modStats (c : Carrier) (f : CarrierStats → CarrierStats) (s : State) : OrderFrame s (modStats c f s) :=
  modRest s

theorem modRacStats (c : Carrier) (f : RacStats → RacStats) (s : State) : OrderFrame s (modRacStats c f s) :=
  modStats c _ s

theorem modTacStats (c : Carrier) (f : TacStats → TacStats) (s : State) : OrderFrame s (modTacStats c f s) :=
  modStats c _ s

theorem modLacStats (c : Carrier) (f : LacStats → LacStats) (s : State) : OrderFrame s (modLacStats c f s) :=
  modStats c _ s

theorem modLac (c : Carrier) (f : Lac → Lac) (s : State) : OrderFrame s (modLac c f s) := modRest s

/-- A change of a TAC that leaves its order and its current profile. -/
theorem modTac {c : Carrier} {f : Tac → Tac} (s : State)
    (h : ∀ t, (f t).state = t.state ∧ (f t).order = t.order ∧ (f t).current = t.current := by
      exact fun _ => ⟨rfl, rfl, rfl⟩) : OrderFrame s (modTac c f s) :=
  modCar (.of_contexts (h _) rfl rfl)

/-- A change of a RAC that leaves its current profile and its advice, and arms nothing. -/
theorem modRac {c : Carrier} {f : Rac → Rac} (s : State)
    (h : ∀ r, (f r).current = r.current ∧ (f r).advice = r.advice ∧ (r.armed = none → (f r).armed = none) := by
      exact fun _ => ⟨rfl, rfl, fun unarmed => unarmed⟩) : OrderFrame s (modRac c f s) := by
  obtain ⟨current, advice, arms⟩ := h (s.car c).rac
  exact modCar (.of_rac fun _ ⟨zero, unarmed, base⟩ => ⟨current.trans zero, arms unarmed, advice.trans base⟩)

/-- A change of a Supervisor whose link state stays, or that brings a carrier with a running link into service. -/
theorem modSup {c : Carrier} {f : Supervisor → Supervisor} {s : State}
    (h : (f (s.car c).sup).link = (s.car c).sup.link ∨
      (¬ (s.car c).rests ∧ ((f (s.car c).sup).link = .active ∨ (f (s.car c).sup).link = .quiet))) :
    OrderFrame s (modSup c f s) := by
  rcases h with same | ⟨runs, serves⟩
  · exact modCar (.of_contexts ⟨rfl, rfl, rfl⟩ rfl same)
  · refine modCar ⟨⟨rfl, rfl, rfl, fun out => ?_⟩, fun r => absurd r runs⟩
    exact absurd serves (not_or.2 out)

/-! ### No carrier changed -/

theorem emit (d : Directive) (s : State) : OrderFrame s (emit d s) := of_same

theorem placeMessage (p : Place) (m : LacMsg) (s : State) : OrderFrame s (placeMessage p m s) := of_same

theorem clearPlace (p : Place) (s : State) : OrderFrame s (clearPlace p s) := of_same

theorem modTables (f : TableStore → TableStore) (s : State) : OrderFrame s (modTables f s) := of_same

theorem modSender (f : Sender → Sender) (s : State) : OrderFrame s (modSender f s) := of_same

theorem modReceiver (f : Receiver → Receiver) (s : State) : OrderFrame s (modReceiver f s) := of_same

theorem modPort (f : Port → Port) (s : State) : OrderFrame s (modPort f s) := of_same

theorem reply (f : Frame) (body : List Byte) (s : State) : OrderFrame s (reply f body s) := of_same

theorem placeNotice (n : Notice) (s : State) : OrderFrame s (placeNotice n s) := by
  obtain ⟨p, e, -⟩ := placeNotice_spec n s
  rw [e]
  exact of_same

theorem formCollapsed (k : AlarmKind) (s : State) : OrderFrame s (formCollapsed k s) := by
  obtain ⟨a, b, p, e, -⟩ := formCollapsed_spec k s
  rw [e]
  exact of_same

theorem setWire (k : AlarmKind) (c : Carrier) (v : Bool) (s : State) : OrderFrame s (setWire k c v s) :=
  (modRest (c := c) (f := fun x => { x with wires := x.wires.set k v }) s).trans (formCollapsed k _)

theorem setTimebaseWire (v : Bool) (s : State) : OrderFrame s (setTimebaseWire v s) :=
  (of_same : OrderFrame s { s with alarms := { s.alarms with timebaseWire := v } }).trans (formCollapsed _ _)

theorem setStoreWire (v : Bool) (s : State) : OrderFrame s (setStoreWire v s) :=
  (of_same : OrderFrame s { s with alarms := { s.alarms with storeWire := v } }).trans (formCollapsed _ _)

theorem formMismatch (c : Carrier) (s : State) : OrderFrame s (formMismatch c s) :=
  (modLac c _ s).trans (setWire _ _ _ _)

theorem senderFollowsLinks (s : State) : OrderFrame s (senderFollowsLinks s) := by
  rw [(senderFollowsLinks_spec s).2]
  exact of_same

/-! ### The Supervisor's entries that keep a carrier's contexts -/

/-- A carrier that is SEEKING or QUIET enters ACTIVE (R110, R136). -/
theorem enterActive {c : Carrier} {s : State} (runs : ¬ (s.car c).rests) : OrderFrame s (enterActive c s) :=
  (((modSup (.inr ⟨runs, .inl rfl⟩)).trans (modRac _)).trans (setWire _ _ _ _)).trans (senderFollowsLinks _)

theorem enterQuiet {c : Carrier} {s : State} (active : s.link c = .active) : OrderFrame s (enterQuiet c s) := by
  have runs : ¬ (s.car c).rests := by simp [CarrierState.rests, show (s.car c).sup.link = .active from active]
  exact (((modSup (.inr ⟨runs, .inr rfl⟩)).trans (modStats c _ _)).trans (setWire _ _ _ _)).trans (senderFollowsLinks _)

end OrderFrame

/-! ### Orders over a step -/

/-- The TAC of `c` is COMMITTED to an order that switches to profile `n` at superframe `e`. -/
def State.committedTo (s : State) (c : Carrier) (e : Word32) (n : Nat) : Prop :=
  ∃ o, (s.car c).tac.order = some o ∧ (s.car c).tac.state = .committed ∧ o.effect = e ∧ n = o.target

/-- Neither the pairing nor the timebase changes. -/
structure PositionsSame (s t : State) : Prop where
  pairedA : t.pairedA = s.pairedA
  pairedB : t.pairedB = s.pairedB
  timebase : t.timebase.state = s.timebase.state
  superframe : t.timebase.superframe = s.timebase.superframe

theorem PositionsSame.paired {s t : State} (h : PositionsSame s t) (c : Carrier) : t.paired c = s.paired c := by
  rw [State.paired, State.paired, h.pairedA, h.pairedB]

theorem PositionsSame.trans {s t u : State} (h : PositionsSame s t) (g : PositionsSame t u) : PositionsSame s u :=
  ⟨g.pairedA.trans h.pairedA, g.pairedB.trans h.pairedB, g.timebase.trans h.timebase,
    g.superframe.trans h.superframe⟩

/-- A TX current profile is left, or is 0 at a carrier HALTED or DISABLED, or is the target of an order that was
COMMITTED for this superframe (law 3). -/
def CurrentFollows (s t : State) (c : Carrier) : Prop :=
  (t.car c).tac.current = (s.car c).tac.current ∨ ((t.car c).tac.current = 0 ∧ (t.car c).rests) ∨
    s.committedTo c t.timebase.superframe (t.car c).tac.current

/-- What a step within a superframe keeps of the orders: the laws, and law 3 over it. -/
structure OrdersKept (s t : State) : Prop extends PositionsSame s t where
  agree : OrdersAgree t
  shut : s.timebase.state = .internal → ∀ c, (s.car c).tac.isOpen = false → (t.car c).tac.isOpen = false
  rest : ∀ c, (s.car c).rests → (t.car c).rests
  current : ∀ c, CurrentFollows s t c

/-- A step within a superframe that commits no order besides. -/
structure OrdersTraced (s t : State) : Prop extends OrdersKept s t where
  commits : ∀ c e n, t.committedTo c e n → s.committedTo c e n

/-- From orders that meet the laws the step keeps them. -/
def KeepsOrders (s t : State) : Prop := OrdersAgree s → OrdersKept s t

/-- From orders that meet the laws the step keeps them and commits none. -/
def TracesOrders (s t : State) : Prop := OrdersAgree s → OrdersTraced s t

namespace OrdersTraced

theorem refl {s : State} (h : OrdersAgree s) : OrdersTraced s s :=
  ⟨⟨⟨rfl, rfl, rfl, rfl⟩, h, fun _ _ => id, fun _ => id, fun _ => .inl rfl⟩, fun _ _ _ => id⟩

/-- A step that commits no order, and then one that may. -/
theorem followed {s t u : State} (h : OrdersTraced s t) (g : OrdersKept t u) : OrdersKept s u where
  toPositionsSame := h.toPositionsSame.trans g.toPositionsSame
  agree := g.agree
  shut internal c closed := g.shut (h.timebase.trans internal) c (h.shut internal c closed)
  rest c r := g.rest c (h.rest c r)
  current c := by
    rcases g.current c with same | base | switched
    · rcases h.current c with first | ⟨zero, rests⟩ | first
      · exact .inl (same.trans first)
      · exact .inr (.inl ⟨same.trans zero, g.rest c rests⟩)
      · exact .inr (.inr (by rwa [g.superframe, same]))
    · exact .inr (.inl base)
    · exact .inr (.inr (h.commits c _ _ switched))

theorem trans {s t u : State} (h : OrdersTraced s t) (g : OrdersTraced t u) : OrdersTraced s u :=
  ⟨h.followed g.toOrdersKept, fun c e n k => h.commits c e n (g.commits c e n k)⟩

end OrdersTraced

theorem KeepsOrders.refl (s : State) : KeepsOrders s s := fun h => (OrdersTraced.refl h).toOrdersKept

theorem TracesOrders.refl (s : State) : TracesOrders s s := fun h => OrdersTraced.refl h

theorem TracesOrders.kept {s t : State} (h : TracesOrders s t) : KeepsOrders s t := fun agree => (h agree).toOrdersKept

theorem TracesOrders.trans {s t u : State} (h : TracesOrders s t) (g : TracesOrders t u) : TracesOrders s u :=
  fun agree => (h agree).trans (g (h agree).agree)

theorem TracesOrders.followed {s t u : State} (h : TracesOrders s t) (g : KeepsOrders t u) : KeepsOrders s u :=
  fun agree => (h agree).followed (g (h agree).agree)

theorem TracesOrders.ite {p : Prop} [Decidable p] {s t u : State} (h : p → TracesOrders s t)
    (g : ¬p → TracesOrders s u) : TracesOrders s (if p then t else u) := by
  split
  · exact h ‹_›
  · exact g ‹_›

theorem KeepsOrders.ite {p : Prop} [Decidable p] {s t u : State} (h : p → KeepsOrders s t) (g : ¬p → KeepsOrders s u) :
    KeepsOrders s (if p then t else u) := by
  split
  · exact h ‹_›
  · exact g ‹_›

theorem TracesOrders.foldl {α : Type} {f : State → α → State} (h : ∀ u a, TracesOrders u (f u a)) (xs : List α)
    (s : State) : TracesOrders s (xs.foldl f s) := by
  induction xs generalizing s with
  | nil => exact refl s
  | cons x xs ih => exact (h s x).trans (ih _)

theorem Tac.isOpen_iff {t : Tac} : t.isOpen = true ↔ t.state = .ordered ∨ t.state = .committed := by simp [Tac.isOpen]

theorem Tac.isOpen_eq_false {t : Tac} : t.isOpen = false ↔ t.state = .steady ∨ t.state = .backoff := by
  unfold Tac.isOpen
  cases t.state <;> simp

/-- What leaves every order keeps the laws. -/
theorem OrderFrame.traces {s t : State} (h : OrderFrame s t) : TracesOrders s t := by
  intro agree
  have positions : PositionsSame s t := ⟨h.pairedA, h.pairedB, h.timebase, h.superframe⟩
  refine ⟨⟨positions, agree.of_same positions.paired fun c => (h.carriers c).toOrdersSame, fun _ c closed => ?_,
    fun c => (h.carriers c).rest, fun c => .inl (h.carriers c).current⟩, fun c e n committed => ?_⟩
  · rwa [Tac.isOpen, (h.carriers c).state]
  · rwa [State.committedTo, (h.carriers c).order, (h.carriers c).state] at committed

theorem OrderFrame.keeps {s t : State} (h : OrderFrame s t) : KeepsOrders s t := h.traces.kept

/-! ### A TAC moves (R86) -/

/-- The carriers whose order the TAC of `c` holds: `c`, and its partner in a pair. -/
def State.shares (s : State) (c d : Carrier) : Prop := d = c ∨ (s.paired c = true ∧ d = partner c)

/-- The TACs of the position of `c` take the state `st`, the open order `o` and the current profile `n`; the other TACs
keep theirs, and every carrier its RAC and its link state. -/
structure OrderMove (c : Carrier) (st : OrderState) (o : Option OpenOrder) (n : Nat) (s t : State) : Prop
    extends PositionsSame s t where
  moved : ∀ d, s.shares c d → (t.car d).tac.state = st ∧ (t.car d).tac.order = o ∧ (t.car d).tac.current = n
  others : ∀ d, ¬ s.shares c d → (t.car d).tac = (s.car d).tac
  rac : ∀ d, (t.car d).rac = (s.car d).rac
  link : ∀ d, t.link d = s.link d

theorem shares_partner {s : State} {c d : Carrier} (paired : s.paired d = true) :
    s.shares c d ↔ s.shares c (partner d) := by
  unfold State.shares
  have back (e : Carrier) : partner e = c ↔ e = partner c :=
    ⟨fun h => by rw [← h, partner_partner], fun h => by rw [h, partner_partner]⟩
  rw [back]
  constructor
  · rintro (rfl | ⟨hp, rfl⟩)
    · exact .inr ⟨paired, rfl⟩
    · exact .inl rfl
  · rintro (rfl | ⟨-, h⟩)
    · exact .inr ⟨by rwa [paired_partner] at paired, rfl⟩
    · exact .inl (by rw [← partner_partner d, h, partner_partner])

namespace OrderMove

variable {c : Carrier} {st : OrderState} {o : Option OpenOrder} {n : Nat} {s t : State}

theorem out (m : OrderMove c st o n s t) (d : Carrier) : (t.car d).out ↔ (s.car d).out := by
  have link : (t.car d).sup.link = (s.car d).sup.link := m.link d
  rw [CarrierState.out, CarrierState.out, link]

/-- The carriers of a position share what the laws say of its order. -/
theorem shared {d : Carrier} (agree : OrdersAgree s) (shares : s.shares c d) : s.paired d = s.paired c ∧
    (s.car d).tac.state = (s.car c).tac.state ∧ (s.car d).tac.order = (s.car c).tac.order ∧
    (s.car d).tac.current = (s.car c).tac.current := by
  rcases shares with rfl | ⟨paired, rfl⟩
  · exact ⟨rfl, rfl, rfl, rfl⟩
  · obtain ⟨state, order, current⟩ := agree.pair paired
    exact ⟨paired_partner s c, state.symm, order.symm, current.symm⟩

/-- A move within a position in service keeps the laws, when an order is held exactly in the open states. -/
theorem agrees (m : OrderMove c st o n s t) (agree : OrdersAgree s)
    (serves : ¬ (s.car c).out ∧ (s.paired c = true → ¬ (s.car (partner c)).out))
    (held : o.isSome = true ↔ st = .ordered ∨ st = .committed) (pair : ∀ x ∈ o, x.pair = s.paired c) :
    OrdersAgree t := by
  have inService {d : Carrier} (shares : s.shares c d) : ¬ (t.car d).out := by
    rw [m.out]
    rcases shares with rfl | ⟨paired, rfl⟩
    · exact serves.1
    · exact serves.2 paired
  refine fun d => ⟨orderly_iff.2 ?_, fun paired => ?_⟩
  · by_cases shares : s.shares c d
    · obtain ⟨state, order, -⟩ := m.moved d shares
      refine ⟨?_, fun x hx => ?_, fun out => absurd out (inService shares)⟩
      · rw [Bool.eq_iff_iff, Tac.isOpen_iff, order, state, held]
      · rw [m.paired, (shared agree shares).1]
        exact pair x (order ▸ hx)
    · rw [m.others d shares, m.rac, m.out, m.paired]
      exact orderly_iff.1 (agree d).1
  · rw [m.paired] at paired
    unfold State.pairAgrees
    by_cases shares : s.shares c d
    · obtain ⟨state, order, current⟩ := m.moved d shares
      obtain ⟨state', order', current'⟩ := m.moved _ ((shares_partner paired).1 shares)
      exact ⟨state.trans state'.symm, order.trans order'.symm, current.trans current'.symm⟩
    · rw [m.others d shares, m.others _ (mt (shares_partner paired).2 shares)]
      exact agree.pair paired

/-- A move within a position in service, that opens no order with the timebase INTERNAL and leaves the current profile
or switches it. -/
theorem kept (m : OrderMove c st o n s t) (agree : OrdersAgree s)
    (serves : ¬ (s.car c).out ∧ (s.paired c = true → ¬ (s.car (partner c)).out))
    (held : o.isSome = true ↔ st = .ordered ∨ st = .committed) (pair : ∀ x ∈ o, x.pair = s.paired c)
    (opens : s.timebase.state = .internal → o.isSome = true → (s.car c).tac.isOpen = true)
    (switches : n = (s.car c).tac.current ∨ s.committedTo c s.timebase.superframe n) : OrdersKept s t := by
  refine ⟨m.toPositionsSame, m.agrees agree serves held pair, fun internal d closed => ?_, fun d => ?_, fun d => ?_⟩
  · by_cases shares : s.shares c d
    · obtain ⟨state, -⟩ := m.moved d shares
      by_contra opened
      have was := opens internal (held.2 (state ▸ Tac.isOpen_iff.1 (Bool.not_eq_false _ ▸ opened)))
      rw [Tac.isOpen, (shared agree shares).2.1] at closed
      cases closed.symm.trans was
    · rwa [m.others d shares]
  · have link : (t.car d).sup.link = (s.car d).sup.link := m.link d
    rw [CarrierState.rests, CarrierState.rests, link]
    exact id
  · by_cases shares : s.shares c d
    · obtain ⟨-, state, order, current⟩ := shared agree shares
      rw [CurrentFollows, (m.moved d shares).2.2, m.superframe, current, State.committedTo, order, state]
      exact switches.imp_right .inr
    · exact .inl (by rw [m.others d shares])

/-- As `kept`; and an order COMMITTED after the move was COMMITTED before it. -/
theorem traced (m : OrderMove c st o n s t) (agree : OrdersAgree s) (kept : OrdersKept s t)
    (commits : st = .committed → ∀ x ∈ o, s.committedTo c x.effect x.target) : OrdersTraced s t := by
  refine ⟨kept, fun d e p committed => ?_⟩
  by_cases shares : s.shares c d
  · obtain ⟨x, held, state, rfl, rfl⟩ := committed
    obtain ⟨state', order', -⟩ := m.moved d shares
    obtain ⟨-, same, order, -⟩ := shared agree shares
    rw [State.committedTo, order, same]
    exact commits (state'.symm.trans state) x (order'.symm.trans held)
  · rwa [State.committedTo, m.others d shares] at committed

end OrderMove

end Sys2Proof.Machine
end

section
/-! SUPPORT. Laws 2, 3, 4, 9 and 10 over the steps of R100 and the entries, and over a boundary. -/

namespace Sys2Proof.Machine

/-! ### The steps of R100 -/

/-- The TAC of a carrier that is no upper one changes, and the pair's copies with it (R86). -/
theorem mirrorOrder_move {c : Carrier} {s : State} (hu : s.isUpper c = false) (agree : OrdersAgree s)
    (serves : s.paired c = true → ¬ (s.car (partner c)).out) (f : Tac → Tac)
    (current : (f (s.car c).tac).current = (s.car c).tac.current) :
    OrderMove c (f (s.car c).tac).state (f (s.car c).tac).order (s.car c).tac.current s
      (mirrorOrder c (modTac c f s)) := by
  obtain ⟨own, others⟩ := car_mirrored hu f
  have copied (paired : s.paired c = true) : (mirrorOrder c (modTac c f s)).car (partner c) =
      { s.car (partner c) with tac := { (s.car (partner c)).tac with
        state := (f (s.car c).tac).state, order := (f (s.car c).tac).order } } := by
    rw [others _ (partner_ne c), if_pos ⟨paired, rfl, fun off => serves paired (CarrierState.rests.out (.inr off))⟩]
  have contexts (d : Carrier) : ((mirrorOrder c (modTac c f s)).car d).rac = (s.car d).rac ∧
      ((mirrorOrder c (modTac c f s)).car d).sup = (s.car d).sup := by
    by_cases hd : d = c
    · rw [hd, own]
      exact ⟨rfl, rfl⟩
    · rw [others d hd]
      split <;> exact ⟨rfl, rfl⟩
  have positions : PositionsSame s (mirrorOrder c (modTac c f s)) := by
    rw [mirrorOrder_only]
    exact ⟨rfl, rfl, rfl, rfl⟩
  refine ⟨positions, ?_, fun d apart => ?_, fun d => (contexts d).1, fun d => congrArg Supervisor.link (contexts d).2⟩
  · rintro d (rfl | ⟨paired, rfl⟩)
    · rw [own]
      exact ⟨rfl, rfl, current⟩
    · rw [copied paired]
      exact ⟨rfl, rfl, (agree.pair paired).2.2.symm⟩
  · rw [others d fun own => apart (.inl own), if_neg fun h => apart (.inr ⟨h.1, h.2.1⟩)]

/-- A TAC that is not STEADY closes its order (R97). -/
theorem closeOrder_traces {c : Carrier} {s : State} (hu : s.isUpper c = false) (busy : (s.car c).tac.state ≠ .steady)
    {st : OrderState} (closes : st = .steady ∨ st = .backoff) (b : Nat) : TracesOrders s (closeOrder c st b s) := by
  intro agree
  have serves := agree.serves busy
  have m : OrderMove c st none (s.car c).tac.current s (closeOrder c st b s) :=
    mirrorOrder_move hu agree serves.2 (fun t => { t with order := none, state := st, backoff := b }) rfl
  refine m.traced agree (m.kept agree serves ?_ (by simp) (by simp) (.inl rfl)) fun _ x none => by cases none
  rcases closes with rfl | rfl <;> simp

/-- An ORDERED order is confirmed (R89). -/
theorem commitOrder_keeps {c : Carrier} {s : State} (hu : s.isUpper c = false)
    (ordered : (s.car c).tac.state = .ordered) :
    KeepsOrders s (mirrorOrder c (modTac c (fun t => { t with state := .committed }) s)) := by
  intro agree
  have opened : (s.car c).tac.isOpen = true := Tac.isOpen_iff.2 (.inl ordered)
  have serves := agree.serves (c := c) (by simp [ordered])
  have m := mirrorOrder_move hu agree serves.2 (fun t => { t with state := .committed }) rfl
  refine m.kept agree serves ?_ (fun x held => agree.order_pair held) (fun _ _ => opened) (.inl rfl)
  simp [agree.open_iff, opened]

/-- A COMMITTED order takes its armed flag, and stays the order it was (R93). -/
theorem armFlag_traces {c : Carrier} {s : State} (hu : s.isUpper c = false) {o : OpenOrder}
    (held : (s.car c).tac.order = some o) (committed : (s.car c).tac.state = .committed) :
    TracesOrders s (mirrorOrder c (modTac c (fun t => { t with order := some { o with armed := true } }) s)) := by
  intro agree
  have opened : (s.car c).tac.isOpen = true := Tac.isOpen_iff.2 (.inr committed)
  have serves := agree.serves (c := c) (by simp [committed])
  have m := mirrorOrder_move hu agree serves.2 (fun t => { t with order := some { o with armed := true } }) rfl
  refine m.traced agree (m.kept agree serves ?_ ?_ (fun _ _ => opened) (.inl rfl)) ?_
  · simp [committed]
  · rintro _ ⟨⟩
    exact agree.order_pair (o := o) held
  · rintro _ _ ⟨⟩
    exact ⟨o, held, committed, rfl, rfl⟩

theorem armOrder_traces {c : Carrier} {s : State} (hu : s.isUpper c = false) {o : OpenOrder}
    (held : (s.car c).tac.order = some o) (committed : (s.car c).tac.state = .committed) :
    TracesOrders s (armOrder c o s) :=
  (OrderFrame.emit _ s).traces.trans (armFlag_traces (s := emit _ s) hu held committed)

/-- A COMMITTED order switches at its boundary E (R94). -/
theorem switchOrder_traces {c : Carrier} {s : State} (hu : s.isUpper c = false) {o : OpenOrder}
    (held : (s.car c).tac.order = some o) (committed : (s.car c).tac.state = .committed)
    (effect : o.effect = s.timebase.superframe) : TracesOrders s (switchOrder c o s) := by
  intro agree
  have pair := agree.order_pair held
  have serves := agree.serves (c := c) (by simp [committed])
  obtain ⟨own, copied, others⟩ := switchOrder_car hu pair
  have partnerOn (paired : s.paired c = true) := copied paired fun off =>
    serves.2 paired (CarrierState.rests.out (.inr off))
  have apart {d : Carrier} (h : ¬ s.shares c d) : (switchOrder c o s).car d = s.car d := by
    refine others d (fun own => h (.inl own)) ?_
    by_cases paired : s.paired c = true
    · exact .inr fun other => h (.inr ⟨paired, other⟩)
    · exact .inl (Bool.eq_false_iff.2 paired)
  have contexts (d : Carrier) : ((switchOrder c o s).car d).rac = (s.car d).rac ∧
      ((switchOrder c o s).car d).sup = (s.car d).sup := by
    by_cases h : s.shares c d
    · rcases h with rfl | ⟨paired, rfl⟩
      · rw [own]
        exact ⟨rfl, rfl⟩
      · rw [partnerOn paired]
        exact ⟨rfl, rfl⟩
    · rw [apart h]
      exact ⟨rfl, rfl⟩
  have positions : PositionsSame s (switchOrder c o s) := by
    rw [(switchOrder_device hu pair).2]
    exact ⟨rfl, rfl, rfl, rfl⟩
  have m : OrderMove c .steady none o.target s (switchOrder c o s) := by
    refine ⟨positions, ?_, fun d h => by rw [apart h], fun d => (contexts d).1,
      fun d => congrArg Supervisor.link (contexts d).2⟩
    rintro d (rfl | ⟨paired, rfl⟩)
    · rw [own]
      exact ⟨rfl, rfl, rfl⟩
    · rw [partnerOn paired]
      exact ⟨rfl, rfl, rfl⟩
  exact m.traced agree (m.kept agree serves (by simp) (by simp) (by simp) (.inr ⟨o, held, committed, effect, rfl⟩))
    fun _ x none => by cases none

/-- An order opens only with the carriers of its position ACTIVE and the timebase EXTERNAL (R87). -/
theorem openOrderWork_traces {c : Carrier} {s : State} (hu : s.isUpper c = false) :
    TracesOrders s (openOrderWork c s) := by
  by_cases may : s.mayOpen c = true
  · unfold openOrderWork
    simp only [may, if_true]
    refine TracesOrders.trans (fun agree => ?_)
      ((OrderFrame.placeMessage _ _ _).trans (.modTacStats c _ _)).traces
    obtain ⟨-, active, partnerActive, external, -⟩ := (mayOpen_iff s c).1 may
    have runs {d : Carrier} (h : s.link d = .active) : ¬ (s.car d).out := fun out => out.1 h
    have m := mirrorOrder_move hu agree (fun paired => runs (partnerActive paired)) (fun t =>
      { t with state := .ordered, order := some (s.newOrder c), nextId := (t.nextId + 1) % 16 }) rfl
    refine m.traced agree (m.kept agree ⟨runs active, fun paired => runs (partnerActive paired)⟩ (by simp) ?_ ?_
      (.inl rfl)) nofun
    · rintro _ ⟨⟩
      rfl
    · intro internal
      cases external.symm.trans internal
  · rw [openOrderWork, if_neg may]
    exact .refl s

/-- An order closes with its CANCEL in the queue, and a statistic is counted (R97). -/
theorem cancelOrder_traces {c : Carrier} {s : State} (hu : s.isUpper c = false) (busy : (s.car c).tac.state ≠ .steady)
    {st : OrderState} (closes : st = .steady ∨ st = .backoff) (o : OpenOrder) (b : Nat) (f : TacStats → TacStats) :
    TracesOrders s (modTacStats c f (closeOrder c st b (placeCancel c o s))) :=
  ((OrderFrame.placeMessage _ _ s).traces.trans (closeOrder_traces (s := placeCancel c o s) hu busy closes b)).trans
    (OrderFrame.modTacStats c f _).traces

theorem busy_of_openOrder {t : Tac} {o : OpenOrder} (h : t.openOrder = some o) : t.state ≠ .steady := by
  rcases (openOrder_eq_some.1 h).2 with e | e <;> simp [e]

theorem closeOnTimebaseLoss_traces {c : Carrier} {s : State} (hu : s.isUpper c = false) :
    TracesOrders s (closeOnTimebaseLoss c s) := by
  unfold closeOnTimebaseLoss
  split
  · exact .refl s
  next o opened =>
    have closed : TracesOrders s (closeOrder c .steady 0 (placeCancel c o s)) :=
      (OrderFrame.placeMessage _ _ s).traces.trans
        (closeOrder_traces (s := placeCancel c o s) hu (busy_of_openOrder opened) (.inl rfl) 0)
    refine .ite (fun _ => TracesOrders.trans ?_ (OrderFrame.modTacStats c _ _).traces) fun _ => .refl s
    exact .ite (fun _ => closed.trans (OrderFrame.emit _ _).traces) fun _ => closed

theorem countBackoff_traces {c : Carrier} {s : State} (hu : s.isUpper c = false) : TracesOrders s (countBackoff c s) := by
  by_cases backoff : (s.car c).tac.state = .backoff
  · obtain ⟨left, ended⟩ := countBackoff_backoff backoff
    rcases Nat.lt_or_ge (s.car c).tac.backoff 2 with last | more
    · rw [ended (by omega)]
      exact closeOrder_traces hu (by simp [backoff]) (.inl rfl) 0
    · rw [left more]
      exact (OrderFrame.modTac s).traces
  · rw [countBackoff_other backoff]
    exact .refl s

theorem switchAtEffect_traces {c : Carrier} {s : State} (hu : s.isUpper c = false) :
    TracesOrders s (switchAtEffect c s) := by
  unfold switchAtEffect
  split
  next o due =>
    obtain ⟨held, committed, effect⟩ := orderAt_iff.1 due
    exact switchOrder_traces hu held committed effect
  · exact .refl s

theorem deadline_traces {c : Carrier} {s : State} (hu : s.isUpper c = false) : TracesOrders s (deadline c s) := by
  unfold deadline
  split
  next o due =>
    obtain ⟨-, ordered, -⟩ := orderAt_iff.1 due
    exact (cancelOrder_traces hu (by simp [ordered]) (.inr rfl) o 2 _).trans (OrderFrame.placeNotice _ _).traces
  · exact .refl s

theorem armAtDeadline_traces {c : Carrier} {s : State} (hu : s.isUpper c = false) :
    TracesOrders s (armAtDeadline c s) := by
  unfold armAtDeadline
  split
  next o due =>
    obtain ⟨held, committed, -⟩ := orderAt_iff.1 due
    exact .ite (fun _ => .refl s) fun _ => armOrder_traces hu held committed
  · exact .refl s

theorem OrderFrame.formTarget (c : Carrier) (s : State) : OrderFrame s (formTarget c s) := by
  unfold Machine.formTarget
  exact .ite (fun _ => (OrderFrame.modTac s).trans (.modTac _)) fun _ => .modTac s

theorem reverseUpshift_traces {c : Carrier} {s : State} (hu : s.isUpper c = false) :
    TracesOrders s (reverseUpshift c s) := by
  by_cases reverses : ∃ o, s.reverses c o
  · obtain ⟨o, h⟩ := reverses
    rw [reverseUpshift_reverses h]
    exact cancelOrder_traces hu (by simp [h.2.1]) (.inl rfl) o 0 _
  · rw [reverseUpshift_idle (not_exists.1 reverses)]
    exact .refl s

theorem OrderFrame.applyPower (c : Carrier) (s : State) : OrderFrame s (applyPower c s) := by
  unfold Machine.applyPower
  simp only
  split
  · exact .refl s
  · exact .ite (fun _ => .modTac s) fun _ => ((OrderFrame.modTac s).trans (.modTacStats c _ _)).trans (.emit _ _)

/-- A step from orders that meet the laws, at a carrier that is no upper one, leaves it no upper one. -/
theorem TracesOrders.andThen {c : Carrier} {s t u : State} (h : TracesOrders s t)
    (g : t.isUpper c = false → TracesOrders t u) (hu : s.isUpper c = false) : TracesOrders s u := by
  intro agree
  have first := h agree
  have same : t.isUpper c = s.isUpper c := by rw [State.isUpper, State.isUpper, first.paired]
  exact first.trans (g (same.trans hu) first.agree)

/-- The sequence of R100 keeps the laws, and switches only an order COMMITTED for this superframe. -/
theorem orderBoundary_traces {c : Carrier} {s : State} (hu : s.isUpper c = false) :
    TracesOrders s (orderBoundary c s) := by
  have lost := closeOnTimebaseLoss_traces hu
  have counted := lost.andThen (c := c) countBackoff_traces hu
  have switched := counted.andThen (c := c) switchAtEffect_traces hu
  have missed := switched.andThen (c := c) deadline_traces hu
  have armed := missed.andThen (c := c) armAtDeadline_traces hu
  have formed := armed.trans (OrderFrame.formTarget c _).traces
  have reversed := formed.andThen (c := c) reverseUpshift_traces hu
  exact reversed.andThen (c := c) openOrderWork_traces hu

theorem tacBoundary_traces (c : Carrier) (s : State) : TracesOrders s (tacBoundary c s) := by
  unfold tacBoundary
  refine .ite (fun _ => TracesOrders.trans ?_ (OrderFrame.applyPower c _).traces) fun _ => .refl s
  exact .ite (fun _ => .refl s) fun hu => orderBoundary_traces (by simpa using hu)

theorem transmitWork_traces (s : State) : TracesOrders s (transmitWork s) :=
  .foldl (fun u c => tacBoundary_traces c u) _ s

/-! ### Entries -/

/-- A carrier at base, HALTED or DISABLED (R61, R83). -/
structure CarrierState.settled (k : CarrierState) : Prop where
  rests : k.rests
  state : k.tac.state = .steady
  order : k.tac.order = none
  current : k.tac.current = 0
  idle : k.rac.idle

theorem RacHalted.idle {r r' : Rac} (h : RacHalted r r') : r'.idle := by
  rw [show r' = _ from h]
  exact ⟨rfl, rfl, rfl⟩

theorem TacHalted.base {m : Nat} {t t' : Tac} (h : TacHalted m t t') :
    t'.state = .steady ∧ t'.order = none ∧ t'.current = 0 := by
  rw [show t' = _ from h]
  exact ⟨rfl, rfl, rfl⟩

theorem CarrierHalted.settled {tHold : Nat} {upper : Bool} {x : SupStats} {k k' : CarrierState}
    (h : CarrierHalted tHold upper x k k') : k'.settled := by
  have link := h.link
  obtain ⟨-, rac, tac, -⟩ := h
  exact ⟨.inl link, tac.base.1, tac.base.2.1, tac.base.2.2, rac.idle⟩

theorem CarrierDisabled.settled {upper : Bool} {k k' : CarrierState} (h : CarrierDisabled upper k k') : k'.settled := by
  obtain ⟨-, rac, tac, -, sup, -⟩ := h
  exact ⟨.inr (by rw [sup]), tac.base.1, tac.base.2.1, tac.base.2.2, rac.idle⟩

theorem DeviceSame.positions {s t : State} (h : DeviceSame s t) : PositionsSame s t := by
  rw [h]
  exact ⟨rfl, rfl, rfl, rfl⟩

theorem CarrierState.settled.orderly {s : State} {c : Carrier} (h : (s.car c).settled) (paired : Bool) :
    (s.car c).orderly paired (s.inService c) :=
  orderly_iff.2 ⟨by simp [h.order, Tac.isOpen, h.state], by simp [h.order], fun _ => ⟨h.state, h.current, h.idle⟩⟩

/-- Two carriers at base agree as those of a pair do (laws 2 and 4). -/
theorem CarrierState.settled.pairAgrees {s : State} {c : Carrier} (own : (s.car c).settled)
    (other : (s.car (partner c)).settled) : s.pairAgrees c :=
  ⟨own.state.trans other.state.symm, own.order.trans other.order.symm, own.current.trans other.current.symm⟩

/-- What the laws say of a carrier HALTED or DISABLED. -/
theorem OrdersAgree.settled {s : State} (h : OrdersAgree s) {c : Carrier} (rests : (s.car c).rests) :
    (s.car c).settled := by
  obtain ⟨steady, zero, idle⟩ := h.base rests.out
  refine ⟨rests, steady, ?_, zero, idle⟩
  rw [← Option.not_isSome_iff_eq_none, h.open_iff, Tac.isOpen, steady]
  decide

/-- Some carriers make an entry to base, of a pair both or one whose partner is at base, and the others are as they
were. -/
theorem entries_trace {s t : State} (positions : PositionsSame s t)
    (each : ∀ c, (t.car c).settled ∨ t.car c = s.car c)
    (pairs : ∀ c, s.paired c = true → t.car c ≠ s.car c → OrdersAgree s → (t.car (partner c)).settled) :
    TracesOrders s t := by
  intro agree
  have paired_agree (c : Carrier) (paired : s.paired c = true) : t.pairAgrees c := by
    have paired' : s.paired (partner c) = true := (paired_partner s c).trans paired
    by_cases own : t.car c = s.car c
    · by_cases other : t.car (partner c) = s.car (partner c)
      · unfold State.pairAgrees
        rw [own, other]
        exact agree.pair paired
      · have base := pairs _ paired' other agree
        rw [partner_partner] at base
        exact base.pairAgrees ((each _).resolve_right other)
    · exact ((each c).resolve_right own).pairAgrees (pairs c paired own agree)
  refine ⟨⟨positions, fun c => ⟨?_, fun paired => paired_agree c (positions.paired c ▸ paired)⟩, fun _ c closed => ?_,
    fun c rests => ?_, fun c => ?_⟩, fun c e n committed => ?_⟩
  all_goals rcases each c with base | same
  · exact base.orderly _
  · rw [State.inService, State.link, same, positions.paired]
    exact (agree c).1
  · simp [Tac.isOpen, base.state]
  · rwa [same]
  · exact base.rests
  · rwa [same]
  · exact .inr (.inl ⟨base.current, base.rests⟩)
  · exact .inl (by rw [same])
  · obtain ⟨o, held, -⟩ := committed
    cases base.order.symm.trans held
  · rwa [State.committedTo, same] at committed

/-- The entry of one carrier, with its partner when that is enabled (R131, R137, R138). -/
theorem entry_traces {c : Carrier} {s t : State} (positions : PositionsSame s t) (own : (t.car c).settled)
    (pair : TakesPartner s c → (t.car (partner c)).settled ∧ ∀ d, d ≠ c → d ≠ partner c → t.car d = s.car d)
    (alone : ¬ TakesPartner s c → OthersSame c s t) : TracesOrders s t := by
  have each (d : Carrier) : (t.car d).settled ∨ t.car d = s.car d := by
    by_cases hd : d = c
    · exact .inl (hd ▸ own)
    by_cases takes : TakesPartner s c
    · by_cases hp : d = partner c
      · exact .inl (hp ▸ (pair takes).1)
      · exact .inr ((pair takes).2 d hd hp)
    · exact .inr (alone takes d hd)
  refine entries_trace positions each fun d paired moved agree => ?_
  by_cases takes : TakesPartner s c
  · by_cases hd : d = c
    · exact hd ▸ (pair takes).1
    · rw [(not_imp_comm.1 ((pair takes).2 d hd) moved), partner_partner]
      exact own
  · have hd : d = c := not_imp_comm.1 (alone takes d) moved
    subst hd
    have off : s.link (partner d) = .disabled := not_not.1 fun on => takes ⟨paired, on⟩
    rw [alone takes _ (partner_ne d)]
    exact agree.settled (.inr off)

theorem haltedEntry_traces (c : Carrier) (cause : HaltCause) (s : State) : TracesOrders s (haltedEntry c cause s) := by
  obtain ⟨⟨own, device, -, pair, alone⟩, -⟩ := haltedEntry_spec c cause s
  exact entry_traces device.positions own.settled (fun takes => ⟨(pair takes).1.settled, (pair takes).2.1⟩)
    fun single => (alone single).1

theorem disabledEntry_traces (c : Carrier) (s : State) : TracesOrders s (disabledEntry c s) := by
  obtain ⟨⟨own, device, pair, alone⟩, -⟩ := disabledEntry_spec c s
  obtain ⟨pairedA, pairedB, timebase, superframe⟩ := device.positions
  exact entry_traces ⟨pairedA, pairedB, timebase, superframe⟩ own.settled
    (fun takes => ⟨(pair takes).2.1.settled, (pair takes).2.2.1⟩) fun single => (alone single).2.1

/-! ### The blocks of a boundary -/

namespace OrderFrame

theorem estimatorBoundary (c : Carrier) (s : State) : OrderFrame s (estimatorBoundary c s) := by
  obtain ⟨off, on⟩ := estimatorBoundary_spec c s
  by_cases disabled : s.link c = .disabled
  · rw [off disabled]
    exact refl s
  · obtain ⟨e, wires, out, a, b, p, worked, -⟩ := on disabled
    rw [worked]
    exact of_one (c := c) (k := { s.car c with est := e, wires }) (.of_contexts ⟨rfl, rfl, rfl⟩ rfl rfl)

theorem fadeBoundary (present : Bool) (c : Carrier) (s : State) : OrderFrame s (fadeBoundary present c s) := by
  obtain ⟨fade, wires, fades, a, b, p, worked⟩ := (fadeBoundary_spec present c s).2
  rw [worked]
  exact of_one (c := c) (k := { s.car c with fade, wires }) (.of_contexts ⟨rfl, rfl, rfl⟩ rfl rfl)

theorem qualityWork (order : AlarmKind → List Carrier) (present : Four Bool) (s : State) :
    OrderFrame s (qualityWork order present s) :=
  (foldl (fun u c => estimatorBoundary c u) _ s).trans (foldl (fun u c => fadeBoundary _ c u) _ _)

/-- A RAC in service may take any profile and advice, and may be armed (R63, R70, R74). -/
theorem modRac_inService {c : Carrier} {s : State} (serves : ¬ (s.car c).out) (f : Rac → Rac) :
    OrderFrame s (Machine.modRac c f s) := modCar (.of_rac fun out => absurd out serves)

/-- Only in service does a RAC decide (R63). -/
theorem racBoundary (present : Bool) (c : Carrier) (s : State) : OrderFrame s (racBoundary present c s) := by
  unfold Machine.racBoundary
  simp only
  split
  · exact refl s
  · exact refl s
  · exact refl s
  next quiet => exact modRac_inService (fun out => out.2 quiet) _
  next active =>
    exact ite (fun _ => modRac_inService (fun out => out.1 active) _)
      fun _ => modRac_inService (fun out => out.1 active) _

theorem receiveWork (present : Four Bool) (s : State) : OrderFrame s (receiveWork present s) :=
  foldl (fun u c => racBoundary _ c u) _ s

theorem senderBoundary (s : State) : OrderFrame s (senderBoundary s) := by
  have frame := senderBoundary_frame s
  exact of_same (senderBoundary_carriers s) frame.pairedA frame.pairedB frame.timebase

theorem applyBoundary (order : List Carrier) (s : State) : OrderFrame s (applyBoundary order s) := by
  refine (modTables (fun t => { t with effectDue := false }) s).trans ?_
  show OrderFrame _ (judgeApply order _)
  unfold judgeApply
  split
  · exact refl _
  · refine ite (fun _ => refl _) fun _ => ite (fun _ => (modTables _ _).trans (placeNotice _ _)) fun _ => ?_
    exact (((modTables _ _).trans (foldl (fun u c => formMismatch c u) order _)).trans (modTables _ _)).trans
      (placeNotice _ _)

end OrderFrame

theorem blockAt_traces (order : AlarmKind → List Carrier) (present : Four Bool) {n : Nat} (h : n < 5) (s : State) :
    TracesOrders s (blockAt order present n s) := by
  match n, h with
  | 0, _ => exact (OrderFrame.qualityWork order present s).traces
  | 1, _ => exact (OrderFrame.receiveWork present s).traces
  | 2, _ => exact transmitWork_traces s
  | 3, _ => exact (OrderFrame.senderBoundary s).traces
  | 4, _ => exact (OrderFrame.applyBoundary _ s).traces

/-! ### The boundary (law 3) -/

/-- What the start of a boundary leaves of a carrier's order, whatever becomes of the clock. -/
theorem ordersSame_startBoundary (s : State) (c : Carrier) : OrdersSame (s.car c) ((startBoundary s).car c) := by
  have tac : ((startBoundary s).car c).tac = (s.car c).tac := by
    rw [car_startBoundary, (closed_keeps _).2.1]
    rfl
  have link : ((startBoundary s).car c).sup.link = (s.car c).sup.link := link_startBoundary s c
  refine ⟨by rw [tac], by rw [tac], by rw [tac], fun out => ⟨?_, fun idle => ?_⟩⟩
  · rwa [CarrierState.out, link] at out
  · rw [car_startBoundary]
    unfold CarrierState.closed
    split <;> exact idle

/-- The orders once the Supervisor has taken the turns of the carriers `T` of a boundary that began at `s`, and a number
of blocks has worked.  A profile that is 0 by an entry belongs to a carrier that has no turn left, so that it stays
HALTED. -/
structure BoundaryOrders (s : State) (T : Set Carrier) (x : State × List Carrier) : Prop
    extends PositionsSame s x.1 where
  agree : OrdersAgree x.1
  commits : ∀ c e n, x.1.committedTo c e n → s.committedTo c e n
  current : ∀ c, (x.1.car c).tac.current = (s.car c).tac.current ∨
    ((x.1.car c).tac.current = 0 ∧ (x.1.car c).rests ∧ (c ∈ T ∨ c ∈ x.2)) ∨
    s.committedTo c s.timebase.superframe (x.1.car c).tac.current

namespace BoundaryOrders

variable {s : State} {T : Set Carrier} {x : State × List Carrier}

/-- A turn of a carrier that a partner's entry has taken with it does nothing. -/
theorem passed (h : BoundaryOrders s T x) (c : Carrier) : BoundaryOrders s (insert c T) x :=
  { h with current := fun d => (h.current d).imp_right (Or.imp_left fun ⟨zero, rests, had⟩ =>
      ⟨zero, rests, had.imp_left (Set.mem_insert_of_mem c)⟩) }

/-- A turn whose test halts the carrier, and an enabled partner of a pair with it (R137, R138). -/
theorem halted (h : BoundaryOrders s T x) {c : Carrier} (fresh : c ∉ x.2)
    (halts : (modSup c Supervisor.counted x.1).haltsByTest c = true) :
    BoundaryOrders s (insert c T) (superviseOnce c x) := by
  obtain ⟨cause, entry⟩ := (supervise_cases c x.1).1 halts
  have counted : OrderFrame x.1 (modSup c Supervisor.counted x.1) := .modSup (.inl (counted_link _))
  have traced := (counted.traces.trans (haltedEntry_traces c cause _)) h.agree
  rw [← entry] at traced
  obtain ⟨⟨_, _, _, own⟩, pair, others⟩ := supervise_halts halts
  rw [superviseOnce_of_notMem fresh]
  refine ⟨h.toPositionsSame.trans traced.toPositionsSame, traced.agree, fun d e n k => h.commits d e n
    (traced.commits d e n k), fun d => ?_⟩
  by_cases hc : d = c
  · subst hc
    exact .inr (.inl ⟨own.settled.current, own.settled.rests, .inl (Set.mem_insert _ _)⟩)
  by_cases hp : TakesPartner x.1 c ∧ d = partner c
  · obtain ⟨takes, rfl⟩ := hp
    obtain ⟨_, _, _, other⟩ := pair takes
    refine .inr (.inl ⟨other.settled.current, other.settled.rests, .inr ?_⟩)
    rw [takeCounts, halts, takes.1]
    exact List.mem_cons_self
  · have same : (supervise c x.1).car d = x.1.car d := others d hc fun takes k => hp ⟨takes, k⟩
    rw [same]
    refine (h.current d).imp_right (Or.imp_left fun ⟨zero, rests, had⟩ =>
      ⟨zero, rests, had.imp (Set.mem_insert_of_mem c) fun listed => ?_⟩)
    show d ∈ if _ then _ else _
    split
    · exact List.mem_cons_of_mem _ listed
    · exact listed

/-- A turn that halts no carrier: its link state may move, from HALTED to SEEKING too, and no order does. -/
theorem stayed (h : BoundaryOrders s T x) {c : Carrier} (first : c ∉ T) (fresh : c ∉ x.2)
    (stays : (modSup c Supervisor.counted x.1).haltsByTest c = false) :
    BoundaryOrders s (insert c T) (superviseOnce c x) := by
  obtain ⟨own, others⟩ := supervise_stays stays
  have frame := supervise_frame c x.1
  have positions : PositionsSame x.1 (supervise c x.1) :=
    ⟨frame.pairedA, frame.pairedB, by rw [frame.timebase], by rw [frame.timebase]⟩
  have same (d : Carrier) : OrdersSame (x.1.car d) ((supervise c x.1).car d) := by
    by_cases hd : d = c
    · subst hd
      refine ⟨by rw [own.tac], by rw [own.tac], by rw [own.tac], fun out => ⟨?_, fun idle => own.rac ▸ idle⟩⟩
      rcases own.link with e | ⟨-, e⟩ | ⟨e, -⟩
      · rwa [CarrierState.out, e] at out
      · exact absurd e out.2
      · exact CarrierState.rests.out (.inl e)
    · rw [others d hd]
      exact (OrdersLeft.refl _).toOrdersSame
  rw [superviseOnce_of_notMem fresh, takeCounts, stays]
  refine ⟨h.toPositionsSame.trans positions, h.agree.of_same positions.paired same, fun d e n committed => ?_,
    fun d => ?_⟩
  · rw [State.committedTo, (same d).order, (same d).state] at committed
    exact h.commits d e n committed
  · show ((supervise c x.1).car d).tac.current = _ ∨ _ ∧ _ ∧ (_ ∨ d ∈ x.2) ∨ _
    rw [(same d).current]
    refine (h.current d).imp_right (Or.imp_left fun ⟨zero, rests, had⟩ => ?_)
    have hd : d ≠ c := by
      rintro rfl
      exact had.elim first fresh
    rw [others d hd]
    exact ⟨zero, rests, had.imp_left (Set.mem_insert_of_mem c)⟩

theorem turn (h : BoundaryOrders s T x) {c : Carrier} (first : c ∉ T) :
    BoundaryOrders s (insert c T) (superviseOnce c x) := by
  by_cases passed : c ∈ x.2
  · rw [superviseOnce_of_mem passed]
    exact h.passed c
  cases halts : (modSup c Supervisor.counted x.1).haltsByTest c with
  | true => exact h.halted passed halts
  | false => exact h.stayed first passed halts

/-- A block moves no link state, so that a profile it makes 0 at a carrier at rest was 0. -/
theorem block (h : BoundaryOrders s T x) (order : AlarmKind → List Carrier) (present : Four Bool) {n : Nat}
    (hn : n < 5) : BoundaryOrders s T (blockWork (blockAt order present n) x) := by
  have traced := blockAt_traces order present hn x.1 h.agree
  have rests (c : Carrier) : ((blockAt order present n x.1).car c).rests ↔ (x.1.car c).rests := by
    rw [CarrierState.rests, CarrierState.rests, ((blockAt_block order present hn x.1).carriers c).sup]
  have superframe : x.1.timebase.superframe = s.timebase.superframe := h.superframe
  refine ⟨h.toPositionsSame.trans traced.toPositionsSame, traced.agree, fun c e m k => h.commits c e m
    (traced.commits c e m k), fun c => ?_⟩
  have kept (same : ((blockAt order present n x.1).car c).tac.current = (x.1.car c).tac.current) :
      ((blockAt order present n x.1).car c).tac.current = (s.car c).tac.current ∨
        (((blockAt order present n x.1).car c).tac.current = 0 ∧ ((blockAt order present n x.1).car c).rests ∧
          (c ∈ T ∨ c ∈ x.2)) ∨
        s.committedTo c s.timebase.superframe ((blockAt order present n x.1).car c).tac.current := by
    rw [same, rests]
    exact h.current c
  rcases traced.current c with same | ⟨zero, settled⟩ | switched
  · exact kept same
  · exact kept (zero.trans (h.agree.settled ((rests c).1 settled)).current.symm)
  · rw [traced.superframe, superframe] at switched
    exact .inr (.inr (h.commits c _ _ switched))

end BoundaryOrders

theorem BoundaryOrders.start {s : State} (agree : OrdersAgree s) : BoundaryOrders s ∅ (s, []) :=
  ⟨⟨rfl, rfl, rfl, rfl⟩, agree, fun _ _ _ => id, fun _ => .inl rfl⟩

/-- What holds of the orders at the end of a boundary. -/
theorem boundaryWith_ordersSince (place : Carrier → Nat) (order : AlarmKind → List Carrier) {s : State}
    (agree : OrdersAgree (startBoundary s)) :
    ∃ done, BoundaryOrders (startBoundary s) {d | place d < 6} (boundaryWith place order s, done) :=
  boundaryWith_induction place order s (fun _ T x => BoundaryOrders (startBoundary s) T x) (.start agree)
    (fun _ _ _ _ first h => h.turn first) fun _ _ _ hn h => h.block order s.presence hn

/-- A boundary keeps the laws, and a TX current profile changes over it only as law 3 says. -/
theorem boundaryWith_orders (place : Carrier → Nat) (order : AlarmKind → List Carrier) {s : State} (h : OrdersAgree s) :
    OrdersAgree (boundaryWith place order s) ∧ ∀ c, CurrentFollows s (boundaryWith place order s) c := by
  obtain ⟨-, hA, hB⟩ := startBoundary_device s
  have same := ordersSame_startBoundary s
  have begun : OrdersAgree (startBoundary s) := h.of_same (fun c => by rw [State.paired, State.paired, hA, hB]) same
  obtain ⟨done, positions, agree, -, current⟩ := boundaryWith_ordersSince place order begun
  generalize boundaryWith place order s = t at positions agree current
  refine ⟨agree, fun c => ?_⟩
  rcases current c with left | ⟨zero, rests, -⟩ | switched
  · exact .inl (left.trans (same c).current)
  · exact .inr (.inl ⟨zero, rests⟩)
  · rw [State.committedTo, (same c).order, (same c).state, ← positions.superframe] at switched
    exact .inr (.inr switched)

end Sys2Proof.Machine
end

section
/-! SUPPORT. Laws 2, 3, 4, 9 and 10 over the timebase, the resets, received records and slots and the requests; every command
keeps them. -/

namespace Sys2Proof.Machine

/-! ### A step -/

/-- What a whole step keeps of the orders: the laws, and law 3 over it. -/
structure OrdersStepped (s t : State) : Prop where
  law : OrderLaw t
  current : ∀ c, CurrentFollows s t c

/-- From a part that meets the order laws the step keeps them, and law 3 over it. -/
def StepsOrders (s t : State) : Prop := OrderLaw s → OrdersStepped s t

theorem KeepsOrders.steps {s t : State} (h : KeepsOrders s t) : StepsOrders s t := by
  intro law
  obtain ⟨agree, shut⟩ := (orderLaw_iff s).1 law
  have kept := h agree
  refine ⟨(orderLaw_iff t).2 ⟨kept.agree, fun internal c => ?_⟩, kept.current⟩
  rw [kept.timebase] at internal
  exact kept.shut internal c (shut internal c)

theorem TracesOrders.steps {s t : State} (h : TracesOrders s t) : StepsOrders s t := h.kept.steps

theorem OrderFrame.steps {s t : State} (h : OrderFrame s t) : StepsOrders s t := h.traces.steps

theorem StepsOrders.refl (s : State) : StepsOrders s s := (TracesOrders.refl s).steps

theorem StepsOrders.ite {p : Prop} [Decidable p] {s t u : State} (h : p → StepsOrders s t) (g : ¬p → StepsOrders s u) :
    StepsOrders s (if p then t else u) := by
  split
  · exact h ‹_›
  · exact g ‹_›

/-- A step that begins with work on anything but the carriers. -/
theorem StepsOrders.after {s u t : State} (carriers : u.carriers = s.carriers) (law : OrderLaw s → OrderLaw u)
    (k : StepsOrders u t) : StepsOrders s t := by
  intro h
  have stepped := k (law h)
  refine ⟨stepped.law, fun c => ?_⟩
  have car : u.car c = s.car c := by rw [State.car, State.car, carriers]
  have follows := stepped.current c
  rwa [CurrentFollows, State.committedTo, car] at follows

/-- Neither the carriers nor the pairing nor the timebase's state changes; its clock and its count may. -/
structure OrdersUntouched (s t : State) : Prop where
  carriers : t.carriers = s.carriers := by rfl
  pairedA : t.pairedA = s.pairedA := by rfl
  pairedB : t.pairedB = s.pairedB := by rfl
  timebase : t.timebase.state = s.timebase.state := by rfl

namespace OrdersUntouched

variable {s t u : State}

theorem car (h : OrdersUntouched s t) (c : Carrier) : t.car c = s.car c := by rw [State.car, State.car, h.carriers]

theorem agree (h : OrdersUntouched s t) (agree : OrdersAgree s) : OrdersAgree t :=
  agree.of_same (fun c => by rw [State.paired, State.paired, h.pairedA, h.pairedB])
    fun c => h.car c ▸ (OrdersLeft.refl _).toOrdersSame

theorem law (h : OrdersUntouched s t) (law : OrderLaw s) : OrderLaw t := by
  obtain ⟨agree, shut⟩ := (orderLaw_iff s).1 law
  refine (orderLaw_iff t).2 ⟨h.agree agree, fun internal c => ?_⟩
  rw [h.car]
  exact shut (h.timebase ▸ internal) c

theorem andThen (h : OrdersUntouched s u) (k : StepsOrders u t) : StepsOrders s t := .after h.carriers h.law k

theorem steps (h : OrdersUntouched s t) : StepsOrders s t := h.andThen (.refl t)

end OrdersUntouched

/-! ### The timebase -/

/-- A boundary keeps the order laws. -/
theorem boundary_steps (s : State) : StepsOrders s (boundary s) := by
  intro law
  obtain ⟨agree, current⟩ := boundaryWith_orders s.supervisorPlace s.wireOrder ((orderLaw_iff s).1 law).1
  refine ⟨(orderLaw_iff _).2 ⟨agree, fun internal c => ?_⟩, current⟩
  have before : s.timebase.state = .internal := by rwa [boundary, boundaryWith_timebase] at internal
  exact boundaryWith_closes _ _ before (ordersHeld_start law) c

/-- At the supervision expiry every order closes, the timebase being INTERNAL from it on (R3, R98). -/
theorem superviseExpired_steps (s : State) : StepsOrders s (superviseExpired s) := by
  intro law
  obtain ⟨a, b, p, e, -⟩ := setTimebaseWire_spec true (modTimebase (fun t => { t with state := .internal }) s)
  have agree : OrdersAgree (setTimebaseWire true (modTimebase (fun t => { t with state := .internal }) s)) := by
    rw [e]
    exact ((orderLaw_iff s).1 law).1
  obtain ⟨agree', current⟩ := boundaryWith_orders _ _ agree
  refine ⟨(orderLaw_iff _).2 ⟨agree', fun _ c => superviseExpired_closes law c⟩, fun c => ?_⟩
  have follows := current c
  rw [e, CurrentFollows, State.committedTo] at follows
  rw [superviseExpired, e]
  exact follows

theorem strobeInternal_steps (s : State) : StepsOrders s (strobeInternal s) := by
  obtain ⟨a, b, p, e, -⟩ := setTimebaseWire_spec false (modTimebase (fun t => { t with state := .external }) s)
  unfold strobeInternal
  refine .after ?_ (fun law => (orderLaw_iff _).2 ⟨?_, fun internal => ?_⟩) (boundary_steps _)
  all_goals rw [e]
  · rfl
  · exact ((orderLaw_iff s).1 law).1
  · rw [e] at internal
    cases internal

theorem internalBoundary_steps (s : State) : StepsOrders s (internalBoundary s) := by
  unfold internalBoundary
  exact .ite (fun _ => OrdersUntouched.steps {}) fun _ => boundary_steps s

theorem actWhenDue_steps (s : State) : StepsOrders s (actWhenDue s) := by
  unfold actWhenDue
  refine .ite (fun _ => ?_) fun _ => .refl s
  cases s.timebase.state with
  | external => exact superviseExpired_steps s
  | internal => exact internalBoundary_steps s

theorem tick_steps (s : State) : StepsOrders s (tick s) := by
  unfold tick
  exact .ite (fun _ => actWhenDue_steps s) fun _ => OrdersUntouched.andThen {} (actWhenDue_steps _)

theorem takeStrobe_steps (s : State) : StepsOrders s (takeStrobe s) := by
  unfold takeStrobe
  cases s.timebase.state with
  | internal => exact strobeInternal_steps s
  | external => exact .ite (fun _ => OrdersUntouched.steps {}) fun _ => boundary_steps s

/-! ### Resets and the start-up -/

/-- A reset leaves a carrier at base (R61, R82, R110). -/
theorem settled_afterReset (r : CarrierRecord) (x : CarrierStats) : (CarrierState.afterReset r x).settled := by
  refine ⟨?_, rfl, rfl, rfl, rfl, rfl, rfl⟩
  unfold CarrierState.rests CarrierState.afterReset
  cases r.enabled with
  | true => exact .inl rfl
  | false => exact .inr rfl

/-- Carriers at base meet the order laws, whatever came before. -/
theorem stepped_of_settled (s : State) {t : State} (h : ∀ c, (t.car c).settled) : OrdersStepped s t :=
  ⟨(orderLaw_iff t).2 ⟨fun c => ⟨(h c).orderly _, fun _ => (h c).pairAgrees (h _)⟩,
    fun _ c => Tac.isOpen_eq_false.2 (.inl (h c).state)⟩, fun c => .inr (.inl ⟨(h c).current, (h c).rests⟩)⟩

theorem resetBlocks_settled (s : State) (c : Carrier) : ((resetBlocks s).car c).settled := by
  rw [car_resetBlocks]
  exact settled_afterReset _ _

/-- Work within a superframe leaves carriers that are all at base there. -/
theorem KeepsOrders.settles {u t : State} (h : ∀ c, (u.car c).settled) (k : KeepsOrders u t) (c : Carrier) :
    (t.car c).settled := by
  have law := (stepped_of_settled u h).law
  have kept := k ((orderLaw_iff u).1 law).1
  exact kept.agree.settled (kept.rest c (h c).rests)

theorem startUp_traces (s : State) : TracesOrders s (startUp s) := by
  have store : OrderFrame s (if (setTimebaseWire true s).settings.storeValid then setTimebaseWire true s
      else setStoreWire true (setTimebaseWire true s)) :=
    .ite (fun _ => .setTimebaseWire _ _) fun _ => (OrderFrame.setTimebaseWire _ _).trans (.setStoreWire _ _)
  exact store.traces.trans (.foldl (fun u c => .ite (fun _ => haltedEntry_traces c _ u) fun _ => .refl u) _ _)

theorem restartEffect_steps (s : State) : StepsOrders s (restartEffect s) := fun _ =>
  stepped_of_settled s ((startUp_traces (resetBlocks s)).kept.settles (resetBlocks_settled s))

theorem powerOn_stepped (s : State) : OrdersStepped s (powerOn s) := by
  have started (i : Image) (valid : Bool) : OrdersStepped s (startUp (powerOnWith i valid s.nvmAtReset s)) := by
    refine stepped_of_settled s ((startUp_traces _).kept.settles fun c => ?_)
    have car : (powerOnWith i valid s.nvmAtReset s).car c = CarrierState.powerOn (i.records.get c) :=
      Four.get_map _ _ c
    rw [car]
    exact settled_afterReset _ _
  unfold powerOn
  split
  · exact started _ true
  · exact started _ false

/-! ### Orders and responses from the peer -/

namespace OrderFrame

/-- Only carriers that are ACTIVE are armed (R70, R71). -/
theorem setArmed {c : Carrier} {pair : Bool} (a : Option ArmedOrder) {s : State}
    (h : (s.link c = .active ∧ (pair = true → s.link (partner c) = .active)) ∨ a = none) :
    OrderFrame s (setArmed c pair a s) := by
  have one {d : Carrier} {u : State} (k : u.link d = .active ∨ a = none) :
      OrderFrame u (Machine.modRac d (fun r => { r with armed := a }) u) := by
    rcases k with active | rfl
    · exact modRac_inService (fun out => out.1 active) _
    · exact modRac u fun _ => ⟨rfl, rfl, fun _ => rfl⟩
  have own := one (h.imp_left And.left)
  unfold Machine.setArmed
  refine ite (fun paired => own.trans (one (h.imp_left fun active => ?_))) fun _ => own
  rw [State.link, modRac_car_sup]
  exact active.2 paired

theorem acceptOrder {c : Carrier} {pair : Bool} {s : State} (id target : Nat)
    (active : s.link c = .active ∧ (pair = true → s.link (partner c) = .active)) :
    OrderFrame s (acceptOrder c id target pair s) := by
  have link (u : State) (f : RacStats → RacStats) (d : Carrier) :
      (Machine.modRacStats (u.gov c) f u).link d = u.link d := by
    rw [State.link, Machine.modRacStats, modStats_car_sup]
    rfl
  have fresh (u : State) (serves : u.link c = .active ∧ (pair = true → u.link (partner c) = .active)) : OrderFrame u
      (Machine.placeMessage (.v c) (.confirm c id target) (Machine.setArmed c pair (some ⟨id, target, pair⟩)
        (Machine.emit (.armRx (orderMask c pair) (u.entry target).modulation (u.entry target).code)
          (Machine.modRacStats (u.gov c) (fun x => { x with accepted := count32 x.accepted }) u)))) := by
    have counted := modRacStats (u.gov c) (fun x => { x with accepted := count32 x.accepted }) u
    have same := link u fun x => { x with accepted := count32 x.accepted }
    generalize Machine.modRacStats (u.gov c) _ u = v at counted same
    rw [← same, ← same] at serves
    exact ((counted.trans (emit _ _)).trans (setArmed _ (.inl serves))).trans (placeMessage _ _ _)
  unfold Machine.acceptOrder
  simp only
  split
  · exact fresh s active
  · refine ite (fun _ => (modRacStats _ _ s).trans (placeMessage _ _ _)) fun _ => (modRacStats _ _ s).trans (fresh _ ?_)
    exact ⟨(link s _ c).trans active.1, fun paired => (link s _ _).trans (active.2 paired)⟩

theorem takeOrder (c : Carrier) (id target : Nat) (pair : Bool) (s : State) :
    OrderFrame s (takeOrder c id target pair s) := by
  have forgets : OrderFrame s
      (if s.isUpper c then s
        else Machine.modRac c (fun r => { r with lastCancelled := none, lastSwitched := none }) s) :=
    ite (fun _ => refl s) fun _ => modRac s
  unfold Machine.takeOrder
  simp only
  refine ite (fun _ => modRacStats _ _ s) fun _ => forgets.trans ?_
  generalize (if s.isUpper c then s else _) = u
  split
  · exact (modRacStats _ _ _).trans (placeMessage _ _ _)
  next accepted => exact acceptOrder id target (active_of_accepted accepted)

theorem takeCancel (c : Carrier) (id : Nat) (pair : Bool) (s : State) : OrderFrame s (takeCancel c id pair s) := by
  have noted (u : State) : OrderFrame u (Machine.modRac (s.gov c) (fun r => { r with lastCancelled := some id }) u) :=
    modRac u
  unfold Machine.takeCancel
  simp only
  refine ite (fun _ => refl s) fun _ => ?_
  split
  · exact noted s
  · exact ite (fun _ => (((modRacStats _ _ s).trans (emit _ _)).trans (setArmed none (.inr rfl))).trans (noted _))
      fun _ => noted s

/-- A toggle moves a RAC that has an armed order, which none out of service has (R74). -/
theorem takeToggle (c : Carrier) (s : State) : OrderFrame s (takeToggle c s) := by
  unfold Machine.takeToggle
  split
  · exact modRacStats _ _ s
  next a armed =>
    have switched : OrderFrame s (Machine.modRac c
        (fun r => { r with current := a.target, armed := none, advice := a.target, hold := 0 }) s) :=
      modCar (.of_rac fun _ idle => by cases armed.symm.trans idle.2.1)
    exact ((switched.trans (modRac _)).trans (modRest _)).trans (placeNotice _ _)

theorem takeFrameReport (carrier frameIndex flags snrA snrB rslA rslB : Byte) (s : State) :
    OrderFrame s (takeFrameReport carrier frameIndex flags snrA snrB rslA rslB s) := by
  have taken (c : Carrier) (r : Report) (u : State) : OrderFrame u (takeReport c r u) := by
    unfold takeReport
    have seen (v : State) : OrderFrame v
        (Machine.modRac c (fun x => { x with lockSeen := x.lockSeen || r.payloadLock }) v) := modRac v
    exact ite (fun _ => ((modEst c _ u).trans (seen _)).trans (takeToggle c _)) fun _ => (modEst c _ u).trans (seen _)
  unfold Machine.takeFrameReport
  split
  · exact of_same
  next c _ =>
    refine ite (fun _ => ?_) fun _ => of_same
    unfold attributeReport acceptReport
    exact ite (fun _ => refl s) fun _ => ite (fun _ => modStats _ _ s) fun _ => (modRest s).trans (taken c _ _)

end OrderFrame

/-- A CONFIRM commits an ORDERED order, or is counted (R89, R93, R95). -/
theorem takeConfirm_keeps (c : Carrier) (id target : Nat) (s : State) : KeepsOrders s (takeConfirm c id target s) := by
  have late : KeepsOrders s (lateResponse c s) := (OrderFrame.modTacStats _ _ s).keeps
  unfold takeConfirm
  refine .ite (fun _ => .refl s) fun _ => .ite (fun _ => late) fun hu => ?_
  split
  · exact late
  · exact .ite (fun _ => .ite (fun ordered => commitOrder_keeps (by simpa using hu) ordered)
      fun _ => (OrderFrame.modTacStats c _ s).keeps) fun _ => late

/-- A REFUSE closes an ORDERED order, or is late (R90, R93, R95). -/
theorem takeRefuse_traces (c : Carrier) (id reason : Nat) (s : State) : TracesOrders s (takeRefuse c id reason s) := by
  have late : TracesOrders s (lateResponse c s) := (OrderFrame.modTacStats _ _ s).traces
  unfold takeRefuse
  refine .ite (fun _ => .refl s) fun _ => .ite (fun _ => late) fun hu => ?_
  split
  · exact late
  next o opened =>
    refine .ite (fun _ => ?_) fun _ => late
    have governs : s.isUpper c = false := by simpa using hu
    have closed := closeOrder_traces (s := clearPlace (.t c) s) governs (busy_of_openOrder opened) (.inr rfl) 2
    exact ((OrderFrame.clearPlace _ s).traces.trans closed).trans
      ((OrderFrame.placeNotice _ _).trans (.modTacStats c _ _)).traces

/-! ### The transfer -/

namespace OrderFrame

theorem concludeReception (id result : Nat) (s : State) : OrderFrame s (concludeReception id result s) :=
  ((placeMessage _ _ s).trans (modReceiver _ _)).trans (placeNotice _ _)

theorem refuseReception (id : Nat) (s : State) : OrderFrame s (refuseReception id s) :=
  (modTables _ s).trans (concludeReception id _ _)

theorem takeEntry (id index : Nat) (e : Entry) (s : State) : OrderFrame s (takeEntry id index e s) := by
  have stale : OrderFrame s (staleAtReceiver s) := modReceiver _ s
  have started : OrderFrame s (startReception id e s) := of_same
  unfold Machine.takeEntry
  split
  · refine ite (fun _ => ite (fun _ => of_same) fun _ => placeMessage _ _ s) fun _ => ?_
    exact ite (fun _ => stale) fun _ => ite (fun _ => started)
      fun _ => (refuseReception _ s).trans (concludeReception _ _ _)
  · exact ite (fun _ => ite (fun _ => started) fun _ => concludeReception _ _ s) fun _ => stale

theorem wholeTableResult (count : Nat) (s : State) : OrderFrame s (wholeTableResult count s).2 := by
  unfold Machine.wholeTableResult
  split
  · split
    · exact of_same
    all_goals exact refl s
  · exact refl s

theorem takeEnd (id count : Nat) (check : Word16) (s : State) : OrderFrame s (takeEnd id count check s) := by
  have stale : OrderFrame s (staleAtReceiver s) := modReceiver _ s
  unfold Machine.takeEnd
  split
  · refine ite (fun _ => ite (fun _ => ?_) fun _ => ?_) fun _ => stale
    · exact ((modTables _ s).trans (wholeTableResult count _)).trans (concludeReception _ _ _)
    · exact (modTables _ s).trans (concludeReception _ _ _)
  · split
    · exact ite (fun _ => placeMessage _ _ s) fun _ => stale
    · exact stale

theorem takeAbort (id : Nat) (s : State) : OrderFrame s (takeAbort id s) := by
  unfold Machine.takeAbort
  exact ite (fun _ => (((modTables _ s).trans (clearPlace _ _)).trans (modReceiver _ _)).trans (placeNotice _ _))
    fun _ => modReceiver _ s

theorem takeAck (id k : Nat) (s : State) : OrderFrame s (takeAck id k s) := by
  have stale : OrderFrame s (staleAtSender s) := modSender _ s
  unfold Machine.takeAck
  split
  · exact refl s
  · exact ite (fun _ => ite (fun _ => of_same) fun _ => of_same) fun _ => stale
  · exact stale

theorem takeResult (id outcome : Nat) (s : State) : OrderFrame s (takeResult id outcome s) := by
  unfold Machine.takeResult
  exact ite (fun _ => refl s) fun _ => ite (fun _ => ((modSender _ s).trans (clearPlace _ _)).trans (placeNotice _ _))
    fun _ => modSender _ s

theorem ackWaitExpired (s : State) : OrderFrame s (ackWaitExpired s) := by
  have again (u : State) : OrderFrame u (placeAgain u) := by
    unfold placeAgain
    split
    · exact placeMessage _ _ u
    · exact placeMessage _ _ u
    · exact refl u
  unfold Machine.ackWaitExpired
  exact ite (fun _ => (modSender _ s).trans (again _))
    fun _ => ((modSender _ s).trans (clearPlace _ _)).trans (placeNotice _ _)

/-! ### Slots -/

/-- A header's digest, its advice and its power request move no order (R118). -/
theorem takeHeader (c : Carrier) (slot : Slot) (s : State) : OrderFrame s (takeHeader c slot s) := by
  unfold Machine.takeHeader
  exact (((modLac c _ s).trans (formMismatch c _)).trans (modRac _)).trans (modTac _)

theorem serveSlotRequest (c : Carrier) (s : State) : OrderFrame s (serveSlotRequest c s) := by
  have sent (m : Option LacMsg) : OrderFrame s (sendSlot c m s) := (modLacStats c _ s).trans (emit _ _)
  have silent (f : LacStats → LacStats) : OrderFrame s (Machine.emit (.slotOut c none) (Machine.modLacStats c f s)) :=
    (modLacStats c _ s).trans (emit _ _)
  have rode (m : Placed) (u : State) : OrderFrame u (ride m u) := by
    refine of_same (ride_carriers m u) ?_ ?_ ?_ <;> rw [ride_eq]
  have rides (m : Placed) : OrderFrame s
      (ride m (Machine.modLacStats c (LacStats.countSent m.msg.cls) (sendSlot c (some m.msg) s))) :=
    ((sent _).trans (modLacStats c _ _)).trans (rode m _)
  unfold Machine.serveSlotRequest
  split
  · exact silent _
  · exact silent _
  · exact sent none
  all_goals
    split
    · exact sent none
    · exact rides _

end OrderFrame

/-- The message of a slot, whichever it is, keeps the order laws (R120). -/
theorem dispatch_keeps (c : Carrier) (part : SlotPart) (s : State) : KeepsOrders s (dispatch c part s) := by
  match part with
  | .empty => exact .refl s
  | .badEntry => exact (OrderFrame.of_same : OrderFrame s (dispatch c .badEntry s)).keeps
  | .unknown => exact (OrderFrame.modLacStats c (fun x => { x with unknown := count32 x.unknown }) s).keeps
  | .message (.order _ _ _ _) => exact (OrderFrame.takeOrder _ _ _ _ s).keeps
  | .message (.cancel _ _ _) => exact (OrderFrame.takeCancel _ _ _ s).keeps
  | .message (.confirm _ _ _) => exact takeConfirm_keeps _ _ _ s
  | .message (.refuse _ _ _) => exact (takeRefuse_traces _ _ _ s).kept
  | .message (.tableEntry _ _ _) => exact (OrderFrame.takeEntry _ _ _ s).keeps
  | .message (.tableEnd _ _ _) => exact (OrderFrame.takeEnd _ _ _ s).keeps
  | .message (.tableAbort _) => exact (OrderFrame.takeAbort _ s).keeps
  | .message (.tableAck _ _) => exact (OrderFrame.takeAck _ _ s).keeps
  | .message (.tableResult _ _) => exact (OrderFrame.takeResult _ _ s).keeps

/-- A slot received halts its carrier, or brings it into service, or neither (R136, R140). -/
theorem takeReceipt_traces (c : Carrier) (peer : LinkState) (s : State) : TracesOrders s (takeReceipt c peer s) := by
  have heard : OrderFrame s (modSup c (fun x => { x with miss := 0 }) s) := .modSup (.inl rfl)
  unfold takeReceipt
  simp only
  generalize modSup c (fun x => { x with miss := 0 }) s = u at heard ⊢
  have runs (v : State) (h : v.link c = .seeking ∨ v.link c = .quiet) : ¬ (v.car c).rests := by
    change (v.car c).sup.link = _ ∨ (v.car c).sup.link = _ at h
    rcases h with e | e <;> simp [CarrierState.rests, e]
  refine heard.traces.trans ?_
  split
  · exact .refl u
  · exact .refl u
  next seeking =>
    have same : (modSupStats c (fun x => { x with linkUps := count32 x.linkUps }) u).link c = u.link c := by
      rw [State.link, modSupStats, modStats_car_sup]
      rfl
    exact ((OrderFrame.modStats c _ u).trans (.enterActive (runs _ (.inl (same.trans seeking))))).traces
  · exact .ite (fun _ => haltedEntry_traces c _ u) fun _ => .refl u
  next quiet => exact .ite (fun _ => haltedEntry_traces c _ u) fun _ =>
      (OrderFrame.enterActive (runs u (.inr quiet))).traces

theorem takeSlot_keeps (c : Carrier) (octets : List Byte) (s : State) : KeepsOrders s (takeSlot c octets s) := by
  have stages (slot : Slot) : KeepsOrders s (takeSlotStages c slot s) := by
    have received : TracesOrders s (takeReceipt c slot.link (takePeerRecords c slot s)) :=
      ((OrderFrame.modLacStats c _ s).trans (.modLac c _ _)).traces.trans (takeReceipt_traces c _ _)
    unfold takeSlotStages
    exact .ite (fun _ => (received.trans (OrderFrame.modLacStats c _ _).traces).kept)
      fun _ => (received.trans (OrderFrame.takeHeader c slot _).traces).followed (dispatch_keeps c _ _)
  unfold takeSlot
  simp only
  split
  · exact (OrderFrame.modLacStats c _ s).keeps
  · split
    · exact (OrderFrame.modLacStats c _ s).keeps
    · exact (OrderFrame.modLacStats c _ s).keeps
    all_goals exact stages _

theorem takeSlotIn_keeps (carrier : Byte) (octets : List Byte) (s : State) :
    KeepsOrders s (takeSlotIn carrier octets s) := by
  unfold takeSlotIn
  split
  · exact (OrderFrame.of_same : OrderFrame s _).keeps
  · exact takeSlot_keeps _ _ s

theorem OrderFrame.takeSlotRequest (carrier : Byte) (s : State) : OrderFrame s (takeSlotRequest carrier s) := by
  unfold Machine.takeSlotRequest
  split
  · exact .of_same
  · exact serveSlotRequest _ s

theorem takeRecord_keeps (record : List Byte) (s : State) : KeepsOrders s (takeRecord record s) := by
  unfold takeRecord
  simp only
  split
  · exact (OrderFrame.takeFrameReport _ _ _ _ _ _ _ s).keeps
  · exact takeSlotIn_keeps _ _ s
  · exact (OrderFrame.takeSlotRequest _ s).keeps
  · exact (OrderFrame.of_same : OrderFrame s _).keeps

/-! ### SET_CARRIER and RESTART_CARRIER -/

/-- A pairing that changes need not wait only when both carriers are DISABLED, so at base (R128, R130). -/
theorem changePairing_law {c : Carrier} {paired : Bool} {s : State} (free : s.pairingBlocked c paired = false)
    (law : OrderLaw s) : OrderLaw (changePairing c paired s) := by
  obtain ⟨agree, shut⟩ := (orderLaw_iff s).1 law
  rcases pairing_free free with same | ⟨own, other⟩
  · rwa [changePairing, if_pos same]
  have car (d : Carrier) : (changePairing c paired s).car d = s.car d := by
    rw [changePairing_spec]
    rfl
  have settled {d : Carrier} (h : d = c ∨ d = partner c) : ((changePairing c paired s).car d).settled := by
    rw [car]
    rcases h with rfl | rfl
    · exact agree.settled (.inr own)
    · exact agree.settled (.inr other)
  have far {d : Carrier} (h : ¬ (d = c ∨ d = partner c)) : (changePairing c paired s).paired d = s.paired d := by
    rw [changePairing_spec]
    revert h
    fin_cases c <;> fin_cases d <;> simp [State.paired, lowerOf, partner]
  have timebase : (changePairing c paired s).timebase = s.timebase := by rw [changePairing_spec]
  refine (orderLaw_iff _).2 ⟨fun d => ?_, fun internal d => ?_⟩
  · by_cases position : d = c ∨ d = partner c
    · have both : partner d = c ∨ partner d = partner c :=
        position.symm.imp (fun h => by rw [h, partner_partner]) (fun h => by rw [h])
      exact ⟨(settled position).orderly _, fun _ => (settled position).pairAgrees (settled both)⟩
    · rw [far position, State.inService, State.link, State.pairAgrees, car, car]
      exact agree d
  · rw [car]
    exact shut (timebase ▸ internal) d

/-- A record put in place moves no order: the attenuation may rise with its floor (R103). -/
theorem OrderFrame.recordPut (c : Carrier) (r : CarrierRecord) (s : State) :
    OrderFrame s (raiseFloor c (putRecord c r s)) := by
  rw [recordPut_eq]
  exact .of_one (c := c) (k := (s.car c).withRecord r) (.of_contexts ⟨rfl, rfl, rfl⟩ rfl rfl)

theorem followEnabled_traces (c : Carrier) (s : State) : TracesOrders s (followEnabled c s) := by
  unfold followEnabled
  exact .ite (fun _ => haltedEntry_traces c _ s) fun _ => .ite (fun _ => disabledEntry_traces c s) fun _ => .refl s

theorem takeSetCarrier_steps (f : Frame) (s : State) : StepsOrders s (takeSetCarrier f s) := by
  have replied (status : List Byte) (u : State) : OrderFrame u (reply f status u) := .reply f status u
  unfold takeSetCarrier
  split
  · split
    next c paired r _ _ _ =>
      refine .ite (fun _ => (replied _ s).steps) fun free => ?_
      refine .after (u := changePairing c paired s) (by rw [changePairing_spec])
        (changePairing_law (by simpa using free)) ?_
      exact (((OrderFrame.recordPut c r _).traces.trans (followEnabled_traces c _)).trans (replied _ _).traces).steps
    · exact (replied _ s).steps
  · exact (replied _ s).steps

theorem takeRestartCarrier_traces (f : Frame) (s : State) : TracesOrders s (takeRestartCarrier f s) := by
  unfold takeRestartCarrier
  split
  · exact (OrderFrame.reply f _ s).traces
  · exact .ite (fun _ => (haltedEntry_traces _ _ s).trans (OrderFrame.reply f _ _).traces)
      fun _ => (OrderFrame.reply f _ s).traces

theorem takeSetTimebase_steps (f : Frame) (s : State) : StepsOrders s (takeSetTimebase f s) := by
  unfold takeSetTimebase
  exact .ite (fun _ => OrdersUntouched.andThen {} (actWhenDue_steps _)) fun _ => (OrderFrame.reply f _ s).steps

/-! ### The requests that touch no carrier -/

namespace OrderFrame

theorem takeEnables (f : Frame) (change : BitVec 16 → BitVec 16) (s : State) :
    OrderFrame s (if carrierMaskInRange (natAt f.body 0) then
      Machine.reply f [statusOk] (changeEnables (natAt f.body 0) change s) else
      Machine.reply f [statusBadArgument] s) :=
  ite (fun _ => (modTables _ s).trans (reply f _ _)) fun _ => reply f _ s

theorem takeWriteProfiles (f : Frame) (s : State) : OrderFrame s (takeWriteProfiles f s) := by
  unfold Machine.takeWriteProfiles
  exact ite (fun _ => ite (fun _ => reply f _ s) fun _ => (modTables _ s).trans (reply f _ _)) fun _ => reply f _ s

theorem takeApplyTable (f : Frame) (s : State) : OrderFrame s (takeApplyTable f s) := by
  unfold Machine.takeApplyTable
  split
  case h_5 entries _ => exact (modTables (fun t => { t with scheduled := some entries }) s).trans (reply f _ _)
  all_goals exact reply f _ s

theorem takePushTable (f : Frame) (s : State) : OrderFrame s (takePushTable f s) := by
  unfold Machine.takePushTable
  split
  · exact reply f _ s
  · refine ite (fun _ => ite (fun _ => ?_) fun _ => reply f _ s) fun _ => reply f _ s
    split
    · exact reply f _ s
    · exact of_same

theorem takeAbortPush (f : Frame) (s : State) : OrderFrame s (takeAbortPush f s) := by
  unfold Machine.takeAbortPush
  exact ite (fun _ => reply f _ s) fun _ => of_same

theorem takeSetRemote (f : Frame) (s : State) : OrderFrame s (takeSetRemote f s) := by
  have set (write apply : Bool) : OrderFrame s (setRemote write apply s) := by
    have permitted := modReceiver (fun x => { x with remoteWrite := write, remoteApply := apply }) s
    unfold setRemote
    simp only
    split
    · exact ite (fun _ => permitted) fun _ => permitted.trans (refuseReception _ _)
    · exact permitted
  unfold Machine.takeSetRemote
  split
  · exact (set _ _).trans (reply f _ _)
  · exact reply f _ s

theorem endWrite (readBack : List Byte) (tag : Byte) (s : State) : OrderFrame s (endWrite readBack tag s) := by
  have written : OrderFrame s (modSettings (fun x => { x with
      nvm := nvmAfterWrite (readBack == s.settings.writing) readBack, storeValid := readBack == s.settings.writing
      saveState := .replying }) s) := of_same
  unfold Machine.endWrite
  exact (written.trans (setStoreWire _ _)).trans (modPort _ _)

theorem startNext (s : State) : OrderFrame s (startNext s) := by
  unfold Machine.startNext
  split
  · exact modPort _ s
  · split
    · exact ite (fun _ => of_same) fun _ => of_same
    · exact of_same
    · exact of_same
    · split <;> exact modPort _ s

theorem judgeBranchLoss (c : Carrier) (s : State) : OrderFrame s (judgeBranchLoss c s) := by
  obtain ⟨lost, wires, a, b, p, e⟩ := judgeBranchLoss_spec c s
  rw [e]
  exact of_one (c := c) (k := { s.car c with est := { (s.car c).est with branchLost := lost }, wires })
    (.of_contexts ⟨rfl, rfl, rfl⟩ rfl rfl)

end OrderFrame

/-! ### The commands of the boundary's work -/

/-- What `orderWork` asks of a carrier: it is no upper one. -/
theorem not_upper_of_orderWork {s : State} {c : Carrier} (h : s.orderWork c = true) : s.isUpper c = false := by
  simp only [State.orderWork, Bool.and_eq_true, Bool.not_eq_true'] at h
  exact h.2

/-- After a TAC's work that opens an order next, the target is formed and the opening test taken (R85, R87). -/
theorem TracesOrders.opens {c : Carrier} {s t : State} (h : TracesOrders s t) (hu : s.isUpper c = false) :
    TracesOrders s (openOrderWork c (formTarget c t)) :=
  (h.trans (OrderFrame.formTarget c t).traces).andThen openOrderWork_traces hu

theorem backoffOver_traces {c : Carrier} {s : State} (hu : s.isUpper c = false) (ended : s.backoffOver c = true) :
    TracesOrders s (openOrderWork c (formTarget c (closeOrder c .steady 0 s))) := by
  simp only [State.backoffOver, Bool.and_eq_true, beq_iff_eq] at ended
  exact (closeOrder_traces hu (by simp [ended.1]) (.inl rfl) 0).opens hu

/-- A HALTED carrier enters SEEKING: its link state moves, and no order (R139). -/
theorem enterSeeking_steps {c : Carrier} {s : State} (halted : s.link c = .halted) :
    StepsOrders s (enterSeeking c s) := by
  intro law
  obtain ⟨agree, shut⟩ := (orderLaw_iff s).1 law
  have frame := enterSeeking_frame c s
  have same (d : Carrier) : OrdersSame (s.car d) ((enterSeeking c s).car d) := by
    have car : (enterSeeking c s).car d = if d = c then _ else s.car d := car_entered .link true
      (fun k => { k with sup := { k.sup with link := .seeking, seek := (s.govRecord c).tSeek, miss := 0 } }) c d s
    rw [car]
    split
    next own =>
      subst own
      exact ⟨rfl, rfl, rfl, fun _ => ⟨CarrierState.rests.out (.inl halted), id⟩⟩
    next => exact (OrdersLeft.refl _).toOrdersSame
  have paired (d : Carrier) : (enterSeeking c s).paired d = s.paired d := by
    rw [State.paired, State.paired, frame.pairedA, frame.pairedB]
  refine ⟨(orderLaw_iff _).2 ⟨agree.of_same paired same, fun internal d => ?_⟩, fun d => .inl (same d).current⟩
  rw [Tac.isOpen, (same d).state]
  exact shut (frame.timebase ▸ internal) d

/-! ### Every command -/

/-- What `running` guards keeps the order laws when its effect does. -/
theorem running_steps {g : State → State} {s t : State} (e : running g s = .next t) (k : ∀ u, StepsOrders u (g u)) :
    StepsOrders s t := by
  unfold running at e
  split at e <;> cases e
  · exact .refl s
  · exact k s

/-- Work that a command names keeps the order laws, whether its condition holds or not. -/
theorem runningWork_steps {p : State → Bool} {g : State → State} {s t : State}
    (e : running (fun s => if p s then g s else s) s = .next t) (k : ∀ u, p u = true → StepsOrders u (g u)) :
    StepsOrders s t :=
  running_steps e fun u => .ite (fun due => k u due) fun _ => .refl u

/-- A request served by a rule that keeps the order laws. -/
theorem runningServe_steps {kind : Byte} {take : Frame → State → State} {s t : State}
    (e : running (serve kind take) s = .next t) (k : ∀ f u, StepsOrders u (take f u)) : StepsOrders s t := by
  refine running_steps e fun u => ?_
  have taken (v : State) (next : StepsOrders (dequeue u) v) : StepsOrders u v := OrdersUntouched.andThen {} next
  unfold serve
  split
  · exact .refl u
  · exact .ite (fun _ => .ite (fun _ => taken _ (k _ _)) fun _ => taken _ (OrderFrame.reply _ _ _).steps)
      fun _ => .refl u

/-- Every command keeps the order laws, and a TX current profile changes over it as law 3 says. -/
theorem exec_steps (i : Instr) {s t : State} (e : exec i s = .next t) : StepsOrders s t := by
  cases i with
  | powerOnReset =>
    cases e
    exact fun _ => powerOn_stepped s
  | lineReset =>
    change execLineReset s = _ at e
    exact running_steps e fun u _ => stepped_of_settled u (resetBlocks_settled u)
  | resetRelease =>
    cases e
    split
    · exact OrdersUntouched.andThen (u := { s with resetHeld := false }) {} (startUp_traces _).steps
    · exact .refl s
  | restartTakesEffect =>
    change execRestartTakesEffect s = _ at e
    exact runningWork_steps e fun u _ => restartEffect_steps u
  | sfsStrobe elapsed => exact OrdersUntouched.andThen {} (running_steps e takeStrobe_steps)
  | supervisionExpiry =>
    change execSupervisionExpiry s = _ at e
    exact running_steps e fun u => .ite (fun _ => superviseExpired_steps u) fun _ => .refl u
  | internalBoundary =>
    cases e
    exact .ite (fun _ => internalBoundary_steps s) fun _ => .refl s
  | branchLoss c =>
    change execBranchLoss c s = _ at e
    exact runningWork_steps e fun u _ => (OrderFrame.judgeBranchLoss c u).steps
  | backoffExpiry c =>
    change execBackoffExpiry c s = _ at e
    refine runningWork_steps e fun u due => ?_
    obtain ⟨work, ended⟩ := Bool.and_eq_true_iff.1 due
    exact (backoffOver_traces (not_upper_of_orderWork work) ended).steps
  | orderDeadline c =>
    change execOrderDeadline c s = _ at e
    exact runningWork_steps e fun u work => (deadline_traces (not_upper_of_orderWork work)).steps
  | armTx c =>
    change execArmTx c s = _ at e
    exact runningWork_steps e fun u work => (armAtDeadline_traces (not_upper_of_orderWork work)).steps
  | orderSwitch c =>
    change execOrderSwitch c s = _ at e
    refine running_steps e fun u => ?_
    split
    next o work due =>
      obtain ⟨held, committed, effect⟩ := orderAt_iff.1 due
      have hu := not_upper_of_orderWork work
      exact ((switchOrder_traces hu held committed effect).opens hu).steps
    · exact .refl u
  | applyEffect =>
    change execApplyEffect s = _ at e
    exact runningWork_steps e fun u _ =>
      ((OrderFrame.applyBoundary (u.wireOrder .mismatch) u).trans (.of_same (t := drawn _))).steps
  | quietEntry c =>
    change execQuietEntry c s = _ at e
    refine runningWork_steps e fun u due => (OrderFrame.enterQuiet ?_).steps
    simp only [State.goesQuiet, Bool.and_eq_true, beq_iff_eq] at due
    exact due.2.1.1
  | lockLossHalt c =>
    change execLockLossHalt c s = _ at e
    exact runningWork_steps e fun u _ => (haltedEntry_traces c _ u).steps
  | silenceHalt c =>
    change execSilenceHalt c s = _ at e
    exact runningWork_steps e fun u _ => (haltedEntry_traces c _ u).steps
  | holdoffExpiry c =>
    change execHoldoffExpiry c s = _ at e
    refine runningWork_steps e fun u due => enterSeeking_steps ?_
    simp only [State.holdoffOver, Bool.and_eq_true, beq_iff_eq] at due
    exact due.2.1
  | seekTimeout c =>
    change execSeekTimeout c s = _ at e
    exact runningWork_steps e fun u _ => (haltedEntry_traces c _ u).steps
  | ackWaitExpiry =>
    change execAckWaitExpiry s = _ at e
    exact runningWork_steps e fun u _ => (OrderFrame.ackWaitExpired u).steps
  | recordCutShort newOctets =>
    change execRecordCutShort newOctets s = _ at e
    unfold execRecordCutShort at e
    split at e
    · exact running_steps e fun u => (OrderFrame.of_same : OrderFrame u _).steps
    · cases e
  | inboundRecordDiscarded record =>
    change execInboundRecordDiscarded record s = _ at e
    unfold execInboundRecordDiscarded at e
    split at e
    · exact running_steps e fun u => OrdersUntouched.andThen {} (takeRecord_keeps record (recordTaken u)).steps
    · cases e
  | frameReport carrier frameIndex flags snrA snrB rslA rslB =>
    change execFrameReport carrier frameIndex flags snrA snrB rslA rslB s = _ at e
    exact running_steps e fun u =>
      OrdersUntouched.andThen {} (OrderFrame.takeFrameReport _ _ _ _ _ _ _ (recordTaken u)).steps
  | slotIn carrier octets =>
    change execSlotIn carrier octets s = _ at e
    unfold execSlotIn at e
    split at e
    · exact running_steps e fun u => OrdersUntouched.andThen {} (takeSlotIn_keeps carrier octets (recordTaken u)).steps
    · cases e
  | slotRequest carrier =>
    change execSlotRequest carrier s = _ at e
    exact running_steps e fun u => OrdersUntouched.andThen {} (OrderFrame.takeSlotRequest carrier (recordTaken u)).steps
  | frameGapTimeout => exact running_steps e fun u => (OrderFrame.modPort _ u).steps
  | badFrame octets => exact running_steps e fun u => (OrderFrame.modPort _ u).steps
  | requestFrame octets => exact running_steps e fun u => (OrderFrame.modPort _ u).steps
  | unknownKind =>
    change execUnknownKind s = _ at e
    refine running_steps e fun u => OrderFrame.steps ?_
    split
    · exact .refl u
    · exact .ite (fun _ => .refl u) fun _ => (OrderFrame.modPort _ u).trans (.reply _ _ _)
  | frameTransmit =>
    change execFrameTransmit s = _ at e
    exact running_steps e fun u => .ite (fun _ => restartEffect_steps u) fun _ => (OrderFrame.startNext u).steps
  | identify =>
    change execIdentify s = _ at e
    exact runningServe_steps e fun f u => (OrderFrame.reply f _ u).steps
  | getStatus =>
    change execGetStatus s = _ at e
    exact runningServe_steps e fun f u => OrdersUntouched.steps {}
  | getStats =>
    refine runningServe_steps e fun f u => OrderFrame.steps ?_
    unfold takeGetStats
    split
    · unfold giveStats
      exact .ite (fun _ => (OrderFrame.reply f _ u).trans (.modStats _ _ _)) fun _ => .reply f _ u
    · exact .reply f _ u
  | setTimebase elapsed => exact OrdersUntouched.andThen {} (runningServe_steps e takeSetTimebase_steps)
  | getCarrier =>
    refine runningServe_steps e fun f u => OrderFrame.steps ?_
    unfold takeGetCarrier
    split
    · exact .reply f _ u
    · exact (OrderFrame.reply f _ u).trans (.modEst _ (fun e => { e with stickyClip := false }) _)
  | setCarrier => exact runningServe_steps e takeSetCarrier_steps
  | restartCarrier => exact runningServe_steps e fun f u => (takeRestartCarrier_traces f u).steps
  | enableProfiles => exact runningServe_steps e fun f u => (OrderFrame.takeEnables f _ u).steps
  | disableProfiles => exact runningServe_steps e fun f u => (OrderFrame.takeEnables f _ u).steps
  | writeProfiles => exact runningServe_steps e fun f u => (OrderFrame.takeWriteProfiles f u).steps
  | readProfiles =>
    refine runningServe_steps e fun f u => OrderFrame.steps ?_
    unfold takeReadProfiles
    split
    · exact .reply f _ u
    · exact .ite (fun _ => .reply f _ u) fun _ => .reply f _ u
  | applyTable => exact runningServe_steps e fun f u => (OrderFrame.takeApplyTable f u).steps
  | pushTable => exact runningServe_steps e fun f u => (OrderFrame.takePushTable f u).steps
  | abortPush => exact runningServe_steps e fun f u => (OrderFrame.takeAbortPush f u).steps
  | setRemote => exact runningServe_steps e fun f u => (OrderFrame.takeSetRemote f u).steps
  | readFades =>
    refine runningServe_steps e fun f u => OrderFrame.steps ?_
    unfold takeReadFades
    exact .ite (fun _ => .of_same) fun _ => .reply f _ u
  | setNotices =>
    refine runningServe_steps e fun f u => OrderFrame.steps ?_
    unfold takeSetNotices
    exact .ite (fun _ => .of_same) fun _ => .reply f _ u
  | saveSettings =>
    refine runningServe_steps e fun f u => OrderFrame.steps ?_
    unfold takeSaveSettings
    exact .ite (fun _ => .of_same) fun _ => .reply f _ u
  | saveWriteEnd readBack =>
    change execSaveWriteEnd readBack s = _ at e
    refine running_steps e fun u => OrderFrame.steps ?_
    split
    · exact .endWrite readBack _ u
    · exact .refl u
  | restart => exact runningServe_steps e fun f u => ((OrderFrame.reply f _ u).trans (.modPort _ _)).steps

/-- A step keeps the order laws, whether a command waits or a microsecond passes. -/
theorem step_steps {s t : State} (e : step s = .next t) : StepsOrders s t := by
  cases waiting : s.pending with
  | nil =>
    rw [step_idle waiting] at e
    cases e
    exact tick_steps s
  | cons i rest =>
    unfold step at e
    rw [waiting] at e
    exact OrdersUntouched.andThen (u := { s with pending := rest }) {} (exec_steps i e)

/-- Settles O8: each command keeps laws 2, 4, 9 and 10, and so does the microsecond that passes when none waits. -/
theorem stepKeepsOrderLaw : Obligations.StepKeepsOrderLaw := fun _ _ law e => (step_steps e law).law

/-- Settles O9: over each step a TX current profile is left, or is that of a switch or an entry. -/
theorem transmitProfileChangesOnlyAtTheSwitch : Obligations.TransmitProfileChangesOnlyAtTheSwitch := by
  intro s t c law e changed
  rcases (step_steps e law).current c with same | base | ⟨o, held, committed, effect, target⟩
  · exact absurd same changed
  · exact .inl base
  · exact .inr ⟨o, held, committed, effect, target⟩

end Sys2Proof.Machine
end

section
/-! SUPPORT. Law 6 of the Out Queue over its moves; law 7 of the Fade Log and the bounds of the port's queues over the shared
operations, the blocks of a boundary, the timebase and the resets. -/

namespace Sys2Proof.Machine

/-! ### The Out Queue (law 6, R110, R111) -/

/-- A queue whose places hold at most one message each, of their own role: law 6 of a queue by itself. -/
def Placement (q : List Placed) : Prop := (q.map Placed.place).Nodup ∧ ∀ m ∈ q, m.place.holds m.msg = true

theorem queueLaw_iff (s : State) : QueueLaw s ↔ Placement s.outQueue := .rfl

namespace Placement

variable {q : List Placed}

theorem filter (h : Placement q) (keep : Placed → Bool) : Placement (q.filter keep) :=
  ⟨h.1.sublist (List.filter_sublist.map _), fun m hm => h.2 m (List.mem_filter.1 hm).1⟩

/-- The ridden flags are no part of the law. -/
theorem mark (h : Placement q) (ridden : Placed → Bool) : Placement (q.map fun m => { m with ridden := ridden m }) := by
  refine ⟨by simpa [Function.comp_def] using h.1, fun m hm => ?_⟩
  obtain ⟨x, hx, rfl⟩ := List.mem_map.1 hm
  exact h.2 x hx

/-- A message of its role in a place: what the place held has left it (R111). -/
theorem queueWith (h : Placement q) {p : Place} {m : LacMsg} (role : p.holds m = true) :
    Placement (queueWith p m q) := by
  have kept := h.filter fun x => x.place != p
  refine ⟨?_, fun x hx => ?_⟩
  · rw [Machine.queueWith, List.map_append, List.map_singleton, List.nodup_append_comm, List.singleton_append,
      List.nodup_cons]
    refine ⟨fun taken => ?_, kept.1⟩
    obtain ⟨x, hx, place⟩ := List.mem_map.1 taken
    simp [place] at hx
  · rcases List.mem_append.1 hx with old | new
    · exact kept.2 x old
    · rw [List.mem_singleton.1 new]
      exact role

/-- The moves of the Out Queue keep the law. -/
theorem moves {r : List Placed} (moved : QueueMoves q r) (h : Placement q) : Placement r := by
  induction moved with
  | same => exact h
  | drop _ keep ih => exact ih.filter keep
  | mark _ ridden ih => exact ih.mark ridden
  | place _ role _ ih => exact ih.queueWith role

/-- There are ten places (R110). -/
theorem length_le (h : Placement q) : q.length ≤ 10 := by
  have all (p : Place) : p ∈ placesInOrder := by
    cases p with
    | t c => revert c; decide
    | v c => revert c; decide
    | s => decide
    | q => decide
  calc q.length = (q.map Placed.place).length := (List.length_map _).symm
    _ ≤ placesInOrder.length := (h.1.subperm fun p _ => all p).length_le

end Placement

/-- An accepted ORDER places its CONFIRM in the V place of the carrier it names (R71). -/
theorem OrderAnswered.placement {q : List Placed} {c : Carrier} {id target : Nat} {t : State}
    (answered : OrderAnswered q c id target t) (h : Placement q) : Placement t.outQueue := by
  obtain ⟨⟨r, moved, queue⟩, -⟩ := answered
  rw [queue]
  exact (h.moves moved).queueWith (by simp [Place.holds])

/-- Every command keeps law 6. -/
theorem exec_queueLaw (i : Instr) {s t : State} (h : QueueLaw s) (e : exec i s = .next t) : QueueLaw t := by
  rw [queueLaw_iff] at *
  rcases exec_queue i e with moved | ⟨_, _, _, _, _, _, _, _, _, _, answered⟩
  · exact h.moves moved
  · exact answered.placement h

/-! ### The port and the Fade Log -/

/-- At most four requests, eight BUSY answers and eight notices (R176, R179). -/
def Port.bounded (p : Port) : Prop := p.queue.length ≤ 4 ∧ p.busy.length ≤ 8 ∧ p.notices.length ≤ 8

theorem boundsLaw_iff (s : State) : BoundsLaw s ↔ s.fades.log.length ≤ 32 ∧ s.port.bounded := .rfl

/-- A full notice queue takes a notice in the place of one of its kind and key, or not at all (R179). -/
theorem Port.bounded.enqueueNotice {p : Port} (h : p.bounded) (n : Notice) : (enqueueNotice n p).bounded := by
  obtain ⟨queue, busy, notices⟩ := h
  unfold Machine.enqueueNotice
  split
  · exact ⟨queue, busy, by simp; omega⟩
  · split
    · exact ⟨queue, busy, by simp [List.length_eraseP, *]; omega⟩
    · exact ⟨queue, busy, notices⟩

/-- A port after a reset has nothing waiting (R180). -/
theorem Port.bounded_afterReset (rate : LineRate) (badFrames : Nat) (noticesDropped requestsDropped : Bool) :
    (Port.afterReset rate badFrames noticesDropped requestsDropped).bounded := by simp [Port.bounded, Port.afterReset]

/-- A full Fade Log loses its oldest record to a new one (R151). -/
theorem FadeLog.append_length {l : FadeLog} (h : l.log.length ≤ 32) (r : FadeRecord) :
    (l.append r).log.length ≤ 32 := by
  unfold FadeLog.append
  split <;> simp <;> omega

namespace BoundsLaw

variable {s : State} {c : Carrier}

theorem ite {p : Prop} [Decidable p] {u : State} (h : p → BoundsLaw s) (g : ¬p → BoundsLaw u) :
    BoundsLaw (if p then s else u) := by
  split
  · exact h ‹_›
  · exact g ‹_›

theorem foldl {α : Type} {f : State → α → State} (hf : ∀ u a, BoundsLaw u → BoundsLaw (f u a)) (xs : List α)
    (h : BoundsLaw s) : BoundsLaw (xs.foldl f s) := by
  induction xs generalizing s with
  | nil => exact h
  | cons x xs ih => exact ih (hf s x h)

theorem modPort (h : BoundsLaw s) {f : Port → Port} (kept : s.port.bounded → (f s.port).bounded) :
    BoundsLaw (modPort f s) := (boundsLaw_iff _).2 ⟨h.1, kept h.2⟩

/-! Operations over the carriers, the Out Queue, the outbound records and the tables touch none of these queues. -/

theorem modCar (h : BoundsLaw s) {f : CarrierState → CarrierState} : BoundsLaw (modCar c f s) := h

theorem modTacStats (h : BoundsLaw s) {f : TacStats → TacStats} : BoundsLaw (modTacStats c f s) := h

theorem emit (h : BoundsLaw s) {d : Directive} : BoundsLaw (emit d s) := h

theorem modTables (h : BoundsLaw s) {f : TableStore → TableStore} : BoundsLaw (modTables f s) := h

theorem modSender (h : BoundsLaw s) {f : Sender → Sender} : BoundsLaw (modSender f s) := h

/-! ### Notices, wires and fades -/

theorem placeNotice (h : BoundsLaw s) {n : Notice} : BoundsLaw (placeNotice n s) :=
  ite (fun _ => ⟨h.1, Port.bounded.enqueueNotice h.2 n⟩) fun _ => h

theorem formAlert (h : BoundsLaw s) : BoundsLaw (formAlert s) := h

theorem formCollapsed (h : BoundsLaw s) {k : AlarmKind} : BoundsLaw (formCollapsed k s) := by
  have wired : BoundsLaw
      { s with alarms := { s.alarms with collapsed := withBit s.alarms.collapsed k.index (s.wireOr k) } } := h
  exact ite (fun _ => h) fun _ => wired.placeNotice.formAlert

theorem setWire (h : BoundsLaw s) {k : AlarmKind} {v : Bool} : BoundsLaw (setWire k c v s) := h.modCar.formCollapsed

theorem setTimebaseWire (h : BoundsLaw s) {v : Bool} : BoundsLaw (setTimebaseWire v s) :=
  formCollapsed (s := { s with alarms := { s.alarms with timebaseWire := v } }) h

theorem setStoreWire (h : BoundsLaw s) {v : Bool} : BoundsLaw (setStoreWire v s) :=
  formCollapsed (s := { s with alarms := { s.alarms with storeWire := v } }) h

theorem formMismatch (h : BoundsLaw s) : BoundsLaw (formMismatch c s) := h.modCar.setWire

theorem appendFade (h : BoundsLaw s) {r : FadeRecord} : BoundsLaw (appendFade r s) :=
  placeNotice (s := { s with fades := s.fades.append r }) ⟨FadeLog.append_length h.1 r, h.2⟩

theorem closeFade (h : BoundsLaw s) {ended : EndedBy} : BoundsLaw (closeFade ended c s) := by
  unfold Machine.closeFade
  split
  · exact h
  · exact h.modCar.appendFade.setWire

/-! ### The estimators, the Fade Monitors and the RACs -/

theorem estimatorBoundary (h : BoundsLaw s) : BoundsLaw (estimatorBoundary c s) := by
  refine ite (fun _ => modCar (setWire (modCar (modCar ?_)))) fun _ => h
  obtain ⟨_, _, _, chosen⟩ := selectBranchWork_spec c (modEst c (reduceSuperframe (s.car c).sup.inForce) s)
  rw [chosen]
  exact h

theorem fadeBoundary (h : BoundsLaw s) {present : Bool} : BoundsLaw (fadeBoundary present c s) := by
  unfold Machine.fadeBoundary
  refine ite (fun _ => ?_) fun _ => h
  split
  · exact ite (fun _ => h.modCar.setWire) fun _ => h
  · exact ite (fun _ => h.closeFade) fun _ => h

theorem qualityWork (h : BoundsLaw s) {order : AlarmKind → List Carrier} {present : Four Bool} :
    BoundsLaw (qualityWork order present s) :=
  foldl (fun _ _ g => g.fadeBoundary) _ (foldl (fun _ _ g => g.estimatorBoundary) _ h)

theorem racBoundary (h : BoundsLaw s) {present : Bool} : BoundsLaw (racBoundary present c s) := by
  obtain ⟨_, e, -⟩ := racBoundary_spec present c s
  rw [e]
  exact h

/-! ### The TACs -/

theorem mirrorOrder (h : BoundsLaw s) : BoundsLaw (mirrorOrder c s) := by
  rw [mirrorOrder_only]
  exact h

theorem closeOrder (h : BoundsLaw s) {st : OrderState} {b : Nat} : BoundsLaw (closeOrder c st b s) := h.modCar.mirrorOrder

/-- An order is closed with a CANCEL in its T place (R97). -/
theorem cancelOrder (h : BoundsLaw s) {o : OpenOrder} {st : OrderState} {b : Nat} :
    BoundsLaw (Machine.closeOrder c st b (placeCancel c o s)) := closeOrder (s := placeCancel c o s) h

theorem closeOnTimebaseLoss (h : BoundsLaw s) : BoundsLaw (closeOnTimebaseLoss c s) := by
  unfold Machine.closeOnTimebaseLoss
  split
  · exact h
  · refine ite (fun _ => ?_) fun _ => h
    exact modTacStats (ite (fun _ => h.cancelOrder.emit) fun _ => h.cancelOrder)

theorem countBackoff (h : BoundsLaw s) : BoundsLaw (countBackoff c s) :=
  ite (fun _ => ite (fun _ => h.modCar.closeOrder) fun _ => h) fun _ => h

theorem takeTarget (h : BoundsLaw s) {target : Nat} : BoundsLaw (takeTarget c target s) := h.modCar.placeNotice

theorem switchOrder (h : BoundsLaw s) {o : OpenOrder} : BoundsLaw (switchOrder c o s) := by
  have own : BoundsLaw (Machine.takeTarget c o.target (Machine.closeOrder c .steady 0 (clearPlace (.t c) s))) :=
    takeTarget (closeOrder (s := clearPlace (.t c) s) h)
  exact modTacStats (ite (fun _ => own.takeTarget) fun _ => own)

theorem switchAtEffect (h : BoundsLaw s) : BoundsLaw (switchAtEffect c s) := by
  unfold Machine.switchAtEffect
  split
  · exact h.switchOrder
  · exact h

theorem deadline (h : BoundsLaw s) : BoundsLaw (deadline c s) := by
  unfold Machine.deadline
  split
  · exact h.cancelOrder.modTacStats.placeNotice
  · exact h

theorem armAtDeadline (h : BoundsLaw s) : BoundsLaw (armAtDeadline c s) := by
  unfold Machine.armAtDeadline
  split
  · exact ite (fun _ => h) fun _ => h.emit.modCar.mirrorOrder
  · exact h

theorem formTarget (h : BoundsLaw s) : BoundsLaw (formTarget c s) := ite (fun _ => h) fun _ => h

theorem reverseUpshift (h : BoundsLaw s) : BoundsLaw (reverseUpshift c s) := by
  unfold Machine.reverseUpshift
  simp only
  split
  · exact h
  · exact ite (fun _ => h.cancelOrder.modTacStats) fun _ => h

theorem openOrderWork (h : BoundsLaw s) : BoundsLaw (openOrderWork c s) :=
  ite (fun _ => mirrorOrder (h.modCar)) fun _ => h

theorem applyPower (h : BoundsLaw s) : BoundsLaw (applyPower c s) := by
  unfold Machine.applyPower
  simp only
  split
  · exact h
  · exact ite (fun _ => h) fun _ => h

theorem tacBoundary (h : BoundsLaw s) : BoundsLaw (tacBoundary c s) := by
  have ordered : BoundsLaw (orderBoundary c s) :=
    h.closeOnTimebaseLoss.countBackoff.switchAtEffect.deadline.armAtDeadline.formTarget.reverseUpshift.openOrderWork
  exact ite (fun _ => applyPower (ite (fun _ => h) fun _ => ordered)) fun _ => h

/-! ### The transfer sender and the table store -/

theorem placeAgain (h : BoundsLaw s) : BoundsLaw (placeAgain s) := by
  unfold Machine.placeAgain
  split <;> exact h

theorem ackWaitExpired (h : BoundsLaw s) : BoundsLaw (ackWaitExpired s) :=
  ite (fun _ => h.modSender.placeAgain) fun _ => placeNotice (s := clearPlace .s (Machine.modSender _ s)) h

theorem senderBoundary (h : BoundsLaw s) : BoundsLaw (senderBoundary s) := by
  unfold Machine.senderBoundary
  split
  · exact h
  · exact ite (fun _ => ite (fun _ => h.modSender.ackWaitExpired) fun _ => h) fun _ => h

theorem applyBoundary (h : BoundsLaw s) {order : List Carrier} : BoundsLaw (applyBoundary order s) := by
  have begun : BoundsLaw (Machine.modTables (fun t => { t with effectDue := false }) s) := h
  unfold Machine.applyBoundary judgeApply
  split
  · exact begun
  · exact ite (fun _ => begun) fun _ => ite (fun _ => begun.modTables.placeNotice) fun _ =>
      placeNotice (modTables (foldl (fun _ _ g => g.formMismatch) order begun.modTables))

/-! ### Entries -/

theorem senderFollowsLinks (h : BoundsLaw s) : BoundsLaw (senderFollowsLinks s) := by
  rw [(senderFollowsLinks_spec s).2]
  exact h

theorem enter (h : BoundsLaw s) {back : Bool} {xs : List Entering} : BoundsLaw (enter back xs s) := by
  have blocks (u : State) (x : Entering) (g : BoundsLaw u) : BoundsLaw (enterBlocks x u) := by
    rw [enterBlocks_eq]
    exact g
  have wires (u : State) (x : Entering) (g : BoundsLaw u) : BoundsLaw (enterWires x u) := by
    unfold enterWires
    split
    · exact g.setWire
    · exact g.setWire.setWire.setWire
  exact senderFollowsLinks (foldl wires _ (foldl (fun _ _ g => g.emit) xs
    (emit (foldl blocks xs (foldl (fun _ _ g => g.closeFade) xs h)))))

theorem haltedEntry (h : BoundsLaw s) {cause : HaltCause} : BoundsLaw (haltedEntry c cause s) := h.enter

theorem disabledEntry (h : BoundsLaw s) : BoundsLaw (disabledEntry c s) :=
  enter (back := s.linkWiresBack) (xs := s.entering c .disable) h

theorem enterActive (h : BoundsLaw s) : BoundsLaw (enterActive c s) := senderFollowsLinks (setWire (modCar (modCar h)))

theorem enterQuiet (h : BoundsLaw s) : BoundsLaw (enterQuiet c s) := senderFollowsLinks (setWire (modCar (modCar h)))

theorem enterSeeking (h : BoundsLaw s) : BoundsLaw (enterSeeking c s) := senderFollowsLinks (setWire (modCar h))

/-- The Supervisor's turn of a carrier: an entry or none. -/
theorem supervise (h : BoundsLaw s) : BoundsLaw (supervise c s) := by
  have counted : BoundsLaw (modSup c Supervisor.counted s) := h
  cases halts : (modSup c Supervisor.counted s).haltsByTest c with
  | true =>
    obtain ⟨cause, e⟩ := (supervise_cases c s).1 halts
    rw [e]
    exact counted.haltedEntry
  | false =>
    rcases (supervise_cases c s).2 halts with e | ⟨-, e⟩ | ⟨-, e⟩ <;> rw [e]
    · exact counted
    · exact counted.enterQuiet
    · exact counted.enterSeeking

/-! ### The boundary and the timebase -/

theorem boundary (h : BoundsLaw s) : BoundsLaw (boundary s) := by
  obtain ⟨_, done⟩ := boundaryWith_induction s.supervisorPlace s.wireOrder s (fun _ _ x => BoundsLaw x.1)
    (by rw [startBoundary_eq]; exact h)
    (fun _ _ c x _ hx => by
      unfold superviseOnce
      split
      · exact hx
      · exact hx.supervise)
    (fun n _ _ hn hx => by
      match n, hn with
      | 0, _ => exact hx.qualityWork
      | 1, _ => exact foldl (fun _ _ g => g.racBoundary) _ hx
      | 2, _ => exact foldl (fun _ _ g => g.tacBoundary) _ hx
      | 3, _ => exact hx.senderBoundary
      | 4, _ => exact hx.applyBoundary)
  exact done

/-- A boundary at which the timebase has changed its state and its wire (R3, R4). -/
theorem boundaryAfterState (h : BoundsLaw s) {f : Timebase → Timebase} {v : Bool} :
    BoundsLaw (Machine.boundary (Machine.setTimebaseWire v (modTimebase f s))) :=
  boundary (setTimebaseWire (s := modTimebase f s) h)

theorem internalBoundary (h : BoundsLaw s) : BoundsLaw (internalBoundary s) := ite (fun _ => h) fun _ => h.boundary

theorem actWhenDue (h : BoundsLaw s) : BoundsLaw (actWhenDue s) := by
  unfold Machine.actWhenDue
  refine ite (fun _ => ?_) fun _ => h
  split
  · exact h.boundaryAfterState
  · exact h.internalBoundary

theorem tick (h : BoundsLaw s) : BoundsLaw (tick s) := by
  obtain ⟨f, e, -⟩ := tick_eq s
  rw [e]
  exact actWhenDue (s := modTimebase f s) h

theorem takeStrobe (h : BoundsLaw s) : BoundsLaw (takeStrobe s) := by
  unfold Machine.takeStrobe
  split
  · exact h.boundaryAfterState
  · exact ite (fun _ => h) fun _ => h.boundary

/-! ### Resets and the start-up -/

/-- Every open fade enters the log at a reset (R150). -/
theorem resetBlocks (h : BoundsLaw s) : BoundsLaw (resetBlocks s) := by
  have closed : BoundsLaw (allCarriers.foldl (fun s c => closeFadeAtReset c s) s) := by
    refine foldl (fun u c g => ?_) _ h
    unfold closeFadeAtReset
    split
    · exact g
    · exact ⟨FadeLog.append_length g.1 _, g.2⟩
  exact ⟨closed.1, Port.bounded_afterReset _ _ _ _⟩

theorem startUp (h : BoundsLaw s) : BoundsLaw (startUp s) :=
  foldl (fun _ _ g => ite (fun _ => g.haltedEntry) fun _ => g) _
    (ite (fun _ => h.setTimebaseWire) fun _ => h.setTimebaseWire.setStoreWire)

theorem restartEffect (h : BoundsLaw s) : BoundsLaw (restartEffect s) := h.resetBlocks.startUp

theorem powerOn (s : State) : BoundsLaw (powerOn s) := by
  have taken (i : Image) (valid : Bool) : BoundsLaw (powerOnWith i valid s.nvmAtReset s) :=
    ⟨Nat.zero_le 32, Port.bounded_afterReset _ _ _ _⟩
  unfold Machine.powerOn
  split
  · exact (taken _ _).startUp
  · exact (taken _ _).startUp

end BoundsLaw

end Sys2Proof.Machine
end

section
/-! SUPPORT. Law 7 of the Fade Log and the bounds of the port's queues over reports, slots, the transfer and the requests;
the queue laws over every command and step. -/

namespace Sys2Proof.Machine

/-! ### The framer (R174 to R176) -/

/-- A frame handed on joins the request queue, or is answered BUSY, or is dropped (R176). -/
theorem Port.bounded.handOn {p : Port} (h : p.bounded) (f : Frame) : (handOn f p).bounded := by
  obtain ⟨queue, busy, notices⟩ := h
  unfold Machine.handOn
  split
  · exact ⟨by simp; omega, busy, notices⟩
  · split
    · exact ⟨queue, by simp; omega, notices⟩
    · exact ⟨queue, busy, notices⟩

/-- An octet moves the framer, or ends a frame that is handed on (R174, R175). -/
theorem Port.bounded.receiveOctet {p : Port} (h : p.bounded) (o : RxOctet) : (receiveOctet p o).bounded := by
  unfold Machine.receiveOctet
  simp only
  split
  · split <;> exact h
  · split
    · exact h
    · split <;> exact h
  · split
    · exact h
    · split <;> exact h
  · split <;> exact h
  · split
    · exact h
    · split
      · exact h
      · split
        · exact Port.bounded.handOn (p := { p with framer := Framer.hunting }) h _
        · exact h

namespace BoundsLaw

variable {s : State} {c : Carrier}

theorem receiveOctets (h : BoundsLaw s) {octets : List RxOctet} : BoundsLaw (receiveOctets octets s) := by
  refine h.modPort fun bounded => ?_
  generalize s.port = p at bounded
  induction octets generalizing p with
  | nil => exact bounded
  | cons o octets ih => exact ih _ (bounded.receiveOctet o)

/-! ### Orders and reports -/

theorem placeMessage (h : BoundsLaw s) {p : Place} {m : LacMsg} : BoundsLaw (placeMessage p m s) := h

theorem setArmed (h : BoundsLaw s) {pair : Bool} {a : Option ArmedOrder} : BoundsLaw (setArmed c pair a s) :=
  ite (fun _ => h) fun _ => h

theorem acceptOrder (h : BoundsLaw s) {id target : Nat} {pair : Bool} : BoundsLaw (acceptOrder c id target pair s) := by
  have fresh {u : State} (g : BoundsLaw u) {a : Option ArmedOrder} {d : Directive} {x : Carrier} {f : RacStats → RacStats} :
      BoundsLaw (Machine.setArmed c pair a (Machine.emit d (modRacStats x f u))) := setArmed (emit (modCar g))
  unfold Machine.acceptOrder
  simp only
  split
  · exact (fresh h).placeMessage
  · exact ite (fun _ => h) fun _ => placeMessage (fresh (modCar h))

theorem takeOrder (h : BoundsLaw s) {id target : Nat} {pair : Bool} : BoundsLaw (takeOrder c id target pair s) := by
  have forgotten : BoundsLaw (if s.isUpper c then s
      else modRac c (fun r => { r with lastCancelled := none, lastSwitched := none }) s) := ite (fun _ => h) fun _ => h
  unfold Machine.takeOrder
  simp only
  split
  · exact h
  · split
    · exact forgotten
    · exact forgotten.acceptOrder

theorem takeCancel (h : BoundsLaw s) {id : Nat} {pair : Bool} : BoundsLaw (takeCancel c id pair s) := by
  refine ite (fun _ => h) fun _ => ?_
  split
  · exact h
  · exact ite (fun _ => modCar (setArmed (emit (modCar h)))) fun _ => h

theorem takeConfirm (h : BoundsLaw s) {id target : Nat} : BoundsLaw (takeConfirm c id target s) := by
  refine ite (fun _ => h) fun _ => ite (fun _ => h) fun _ => ?_
  split
  · exact h
  · exact ite (fun _ => ite (fun _ => h.modCar.mirrorOrder) fun _ => h) fun _ => h

theorem takeRefuse (h : BoundsLaw s) {id reason : Nat} : BoundsLaw (takeRefuse c id reason s) := by
  have emptied : BoundsLaw (clearPlace (.t c) s) := h
  refine ite (fun _ => h) fun _ => ite (fun _ => h) fun _ => ?_
  split
  · exact h
  · exact ite (fun _ => emptied.closeOrder.placeNotice.modTacStats) fun _ => h

theorem takeToggle (h : BoundsLaw s) : BoundsLaw (takeToggle c s) := by
  unfold Machine.takeToggle
  split
  · exact h
  · exact placeNotice (modCar (modCar (modCar h)))

theorem takeFrameReport (h : BoundsLaw s) {carrier frameIndex flags snrA snrB rslA rslB : Byte} :
    BoundsLaw (takeFrameReport carrier frameIndex flags snrA snrB rslA rslB s) := by
  unfold Machine.takeFrameReport attributeReport
  split
  · exact h
  · refine ite (fun _ => ite (fun _ => h) fun _ => ite (fun _ => h) fun _ => ?_) fun _ => h
    rw [acceptReport_eq]
    exact ite (fun _ => takeToggle (s := s.setCar _ _) h) fun _ => h

/-! ### The transfer -/

theorem concludeReception (h : BoundsLaw s) {id result : Nat} : BoundsLaw (concludeReception id result s) :=
  placeNotice (s := modReceiver _ (Machine.placeMessage _ _ s)) h

theorem releasePending (h : BoundsLaw s) {x : Completeness} : BoundsLaw (releasePending x s) := h

theorem refuseReception (h : BoundsLaw s) {id : Nat} : BoundsLaw (refuseReception id s) :=
  h.releasePending.concludeReception

theorem takeEntry (h : BoundsLaw s) {id index : Nat} {e : Entry} : BoundsLaw (takeEntry id index e s) := by
  unfold Machine.takeEntry
  split
  · exact ite (fun _ => ite (fun _ => h) fun _ => h) fun _ => ite (fun _ => h) fun _ =>
      ite (fun _ => h) fun _ => h.refuseReception.concludeReception
  · exact ite (fun _ => ite (fun _ => h) fun _ => h.concludeReception) fun _ => h

theorem wholeTableResult (h : BoundsLaw s) {count : Nat} : BoundsLaw (wholeTableResult count s).2 := by
  unfold Machine.wholeTableResult
  split
  · split <;> exact h
  · exact h

theorem takeEnd (h : BoundsLaw s) {id count : Nat} {check : Word16} : BoundsLaw (takeEnd id count check s) := by
  unfold Machine.takeEnd
  split
  · exact ite (fun _ => ite (fun _ => h.releasePending.wholeTableResult.concludeReception)
      fun _ => h.releasePending.concludeReception) fun _ => h
  · split
    · exact ite (fun _ => h) fun _ => h
    · exact h

theorem takeAbort (h : BoundsLaw s) {id : Nat} : BoundsLaw (takeAbort id s) :=
  ite (fun _ => placeNotice (s := modReceiver _ (clearPlace .q (Machine.releasePending .incomplete s))) h) fun _ => h

theorem takeAck (h : BoundsLaw s) {id k : Nat} : BoundsLaw (takeAck id k s) := by
  unfold Machine.takeAck
  split
  · exact h
  · exact ite (fun _ => ite (fun _ => h) fun _ => h) fun _ => h
  · exact h

theorem takeResult (h : BoundsLaw s) {id outcome : Nat} : BoundsLaw (takeResult id outcome s) :=
  ite (fun _ => h) fun _ => ite (fun _ => placeNotice (s := clearPlace .s (Machine.modSender _ s)) h) fun _ => h

/-! ### Slots and records -/

theorem dispatch (h : BoundsLaw s) (part : SlotPart) : BoundsLaw (dispatch c part s) := by
  match part with
  | .empty => exact h
  | .badEntry => exact h
  | .unknown => exact h
  | .message (.order _ _ _ _) => exact h.takeOrder
  | .message (.cancel _ _ _) => exact h.takeCancel
  | .message (.confirm _ _ _) => exact h.takeConfirm
  | .message (.refuse _ _ _) => exact h.takeRefuse
  | .message (.tableEntry _ _ _) => exact h.takeEntry
  | .message (.tableEnd _ _ _) => exact h.takeEnd
  | .message (.tableAbort _) => exact h.takeAbort
  | .message (.tableAck _ _) => exact h.takeAck
  | .message (.tableResult _ _) => exact h.takeResult

theorem takeReceipt (h : BoundsLaw s) {peer : LinkState} : BoundsLaw (takeReceipt c peer s) := by
  have heard : BoundsLaw (modSup c (fun x => { x with miss := 0 }) s) := h
  unfold Machine.takeReceipt
  simp only
  split
  · exact heard
  · exact heard
  · exact enterActive (modCar heard)
  · exact ite (fun _ => heard.haltedEntry) fun _ => heard
  · exact ite (fun _ => heard.haltedEntry) fun _ => heard.enterActive

theorem takeSlotIn (h : BoundsLaw s) {carrier : Byte} {octets : List Byte} : BoundsLaw (takeSlotIn carrier octets s) := by
  have stages (c : Carrier) (x : Slot) : BoundsLaw (takeSlotStages c x s) := by
    have received : BoundsLaw (Machine.takeReceipt c x.link (takePeerRecords c x s)) :=
      takeReceipt (s := takePeerRecords c x s) h
    have headed : BoundsLaw (takeHeader c x (Machine.takeReceipt c x.link (takePeerRecords c x s))) :=
      received.modCar.formMismatch
    exact ite (fun _ => received) fun _ => headed.dispatch x.part
  unfold Machine.takeSlotIn takeSlot
  split
  · exact h
  · simp only
    split
    · exact h
    · split
      · exact h
      · exact h
      all_goals exact stages _ _

theorem takeSlotRequest (h : BoundsLaw s) {carrier : Byte} : BoundsLaw (takeSlotRequest carrier s) := by
  have rides (m : Placed) {u : State} (g : BoundsLaw u) : BoundsLaw (ride m u) := by
    rw [ride_eq]
    exact g
  unfold Machine.takeSlotRequest serveSlotRequest
  split
  · exact h
  · split
    · exact h
    · exact h
    · exact h
    all_goals
      split
      · exact h
      · exact rides _ h

theorem takeRecord (h : BoundsLaw s) {record : List Byte} : BoundsLaw (takeRecord record s) := by
  unfold Machine.takeRecord
  simp only
  split
  · exact h.takeFrameReport
  · exact h.takeSlotIn
  · exact h.takeSlotRequest
  · exact h

/-! ### The requests -/

theorem reply (h : BoundsLaw s) {f : Frame} {body : List Byte} : BoundsLaw (reply f body s) := h

/-- A request that has left the queue leaves room. -/
theorem dequeue (h : BoundsLaw s) : BoundsLaw (dequeue s) :=
  h.modPort fun ⟨queue, busy, notices⟩ => ⟨by simp; omega, busy, notices⟩

theorem takeSetTimebase (h : BoundsLaw s) {f : Frame} : BoundsLaw (takeSetTimebase f s) :=
  ite (fun _ => actWhenDue (s := modTimebase _ (Machine.reply f _ s)) h) fun _ => h

theorem takeSetCarrier (h : BoundsLaw s) {f : Frame} : BoundsLaw (takeSetCarrier f s) := by
  have put (c : Carrier) (paired : Bool) (r : CarrierRecord) :
      BoundsLaw (raiseFloor c (putRecord c r (changePairing c paired s))) := by
    rw [recordPut_eq, changePairing_spec]
    exact h
  have applied (c : Carrier) (paired : Bool) (r : CarrierRecord) : BoundsLaw (applyRecord c paired r s) :=
    ite (fun _ => (put c paired r).haltedEntry) fun _ => ite (fun _ => (put c paired r).disabledEntry) fun _ =>
      put c paired r
  unfold Machine.takeSetCarrier
  split
  · exact ite (fun _ => ite (fun _ => h) fun _ => (applied _ _ _).reply) fun _ => h
  · exact h

theorem takeRestartCarrier (h : BoundsLaw s) {f : Frame} : BoundsLaw (takeRestartCarrier f s) := by
  unfold Machine.takeRestartCarrier
  split
  · exact h
  · exact ite (fun _ => h.haltedEntry.reply) fun _ => h

theorem takeWriteProfiles (h : BoundsLaw s) {f : Frame} : BoundsLaw (takeWriteProfiles f s) :=
  ite (fun _ => ite (fun _ => h) fun _ => h) fun _ => h

theorem takeApplyTable (h : BoundsLaw s) {f : Frame} : BoundsLaw (takeApplyTable f s) := by
  unfold Machine.takeApplyTable
  split <;> exact h

theorem takePushTable (h : BoundsLaw s) {f : Frame} : BoundsLaw (takePushTable f s) := by
  unfold Machine.takePushTable
  split
  · exact h
  · refine ite (fun _ => ite (fun _ => ?_) fun _ => h) fun _ => h
    split <;> exact h

theorem takeSetRemote (h : BoundsLaw s) {f : Frame} : BoundsLaw (takeSetRemote f s) := by
  unfold Machine.takeSetRemote
  split
  · rename_i write apply _ _
    refine reply ?_
    unfold setRemote
    simp only
    split
    · exact ite (fun _ => h) fun _ => refuseReception (s := modReceiver _ s) h
    · exact h
  · exact h

theorem takeGetStats (h : BoundsLaw s) {f : Frame} : BoundsLaw (takeGetStats f s) := by
  unfold Machine.takeGetStats
  split
  · exact ite (fun _ => h) fun _ => h
  · exact h

theorem takeGetCarrier (h : BoundsLaw s) {f : Frame} : BoundsLaw (takeGetCarrier f s) := by
  unfold Machine.takeGetCarrier
  split <;> exact h

theorem takeReadProfiles (h : BoundsLaw s) {f : Frame} : BoundsLaw (takeReadProfiles f s) := by
  unfold Machine.takeReadProfiles
  split
  · exact h
  · exact ite (fun _ => h) fun _ => h

/-- Records that have been read leave the log (R152). -/
theorem takeReadFades (h : BoundsLaw s) {f : Frame} : BoundsLaw (takeReadFades f s) := by
  have read (n : Nat) : (s.fades.log.drop n).length ≤ 32 := by
    have := h.1
    simp
    omega
  exact ite (fun _ => ⟨read _, h.2⟩) fun _ => h

theorem endWrite (h : BoundsLaw s) {readBack : List Byte} {tag : Byte} : BoundsLaw (endWrite readBack tag s) :=
  modPort (setStoreWire (s := modSettings _ s) h) id

/-- The transmitter takes a frame from the BUSY answers or the notices, or a reply (R178). -/
theorem startNext (h : BoundsLaw s) : BoundsLaw (startNext s) := by
  obtain ⟨log, queue, busy, notices⟩ := h
  unfold Machine.startNext
  split
  · rename_i b rest waiting
    rw [waiting] at busy
    exact ⟨log, queue, (Nat.le_succ _).trans busy, notices⟩
  · split
    · exact ite (fun _ => ⟨log, queue, busy, notices⟩) fun _ => ⟨log, queue, busy, notices⟩
    · exact ⟨log, queue, busy, notices⟩
    · exact ⟨log, queue, busy, notices⟩
    · split
      · rename_i n rest waiting
        rw [waiting] at notices
        exact ⟨log, queue, busy, (Nat.le_succ _).trans notices⟩
      · exact ⟨log, queue, busy, notices⟩

/-! ### Every command -/

/-- What `running` guards keeps the bounds as its effect does. -/
theorem running (h : BoundsLaw s) {g : State → State} {t : State} (e : running g s = .next t)
    (kept : BoundsLaw s → BoundsLaw (g s)) : BoundsLaw t := by
  unfold Machine.running at e
  split at e <;> cases e
  · exact h
  · exact kept h

/-- A request served by a rule that keeps the bounds. -/
theorem served (h : BoundsLaw s) {kind : Byte} {take : Frame → State → State} {t : State}
    (e : Machine.running (serve kind take) s = .next t) (kept : ∀ f u, BoundsLaw u → BoundsLaw (take f u)) :
    BoundsLaw t := by
  refine h.running e fun h => ?_
  unfold serve
  split
  · exact h
  · exact ite (fun _ => ite (fun _ => kept _ _ h.dequeue) fun _ => h.dequeue.reply) fun _ => h

end BoundsLaw

/-- Every command keeps law 7 and the bounds of the port's queues. -/
theorem exec_boundsLaw (i : Instr) {s t : State} (h : BoundsLaw s) (e : exec i s = .next t) : BoundsLaw t := by
  have recordTaken : BoundsLaw (recordTaken s) := h
  cases i with
  | powerOnReset =>
    cases e
    exact .powerOn s
  | lineReset =>
    change execLineReset s = _ at e
    exact h.running e fun h => h.resetBlocks
  | resetRelease =>
    cases e
    exact .ite (fun _ => BoundsLaw.startUp (s := { s with resetHeld := false }) h) fun _ => h
  | restartTakesEffect =>
    change execRestartTakesEffect s = _ at e
    exact h.running e fun h => .ite (fun _ => h.restartEffect) fun _ => h
  | sfsStrobe elapsed =>
    exact BoundsLaw.running (s := modTimebase (Timebase.advance elapsed) s) h e BoundsLaw.takeStrobe
  | supervisionExpiry =>
    change execSupervisionExpiry s = _ at e
    exact h.running e fun h => .ite (fun _ => h.boundaryAfterState) fun _ => h
  | internalBoundary =>
    cases e
    exact .ite (fun _ => h.internalBoundary) fun _ => h
  | branchLoss c =>
    change execBranchLoss c s = _ at e
    exact h.running e fun h => .ite (fun _ => h.modCar.setWire) fun _ => h
  | backoffExpiry c =>
    change execBackoffExpiry c s = _ at e
    exact h.running e fun h => .ite (fun _ => h.closeOrder.formTarget.openOrderWork) fun _ => h
  | orderDeadline c =>
    change execOrderDeadline c s = _ at e
    exact h.running e fun h => .ite (fun _ => h.deadline) fun _ => h
  | armTx c =>
    change execArmTx c s = _ at e
    exact h.running e fun h => .ite (fun _ => h.armAtDeadline) fun _ => h
  | orderSwitch c =>
    change execOrderSwitch c s = _ at e
    refine h.running e fun h => ?_
    split
    · exact h.switchOrder.formTarget.openOrderWork
    · exact h
  | applyEffect =>
    change execApplyEffect s = _ at e
    exact h.running e fun h => .ite (fun _ => h.applyBoundary) fun _ => h
  | quietEntry c =>
    change execQuietEntry c s = _ at e
    exact h.running e fun h => .ite (fun _ => h.enterQuiet) fun _ => h
  | lockLossHalt c =>
    change execLockLossHalt c s = _ at e
    exact h.running e fun h => .ite (fun _ => h.haltedEntry) fun _ => h
  | silenceHalt c =>
    change execSilenceHalt c s = _ at e
    exact h.running e fun h => .ite (fun _ => h.haltedEntry) fun _ => h
  | holdoffExpiry c =>
    change execHoldoffExpiry c s = _ at e
    exact h.running e fun h => .ite (fun _ => h.enterSeeking) fun _ => h
  | seekTimeout c =>
    change execSeekTimeout c s = _ at e
    exact h.running e fun h => .ite (fun _ => h.haltedEntry) fun _ => h
  | ackWaitExpiry =>
    change execAckWaitExpiry s = _ at e
    exact h.running e fun h => .ite (fun _ => h.ackWaitExpired) fun _ => h
  | recordCutShort newOctets =>
    change execRecordCutShort newOctets s = _ at e
    unfold execRecordCutShort at e
    split at e
    · exact h.running e fun h => h
    · cases e
  | inboundRecordDiscarded record =>
    change execInboundRecordDiscarded record s = _ at e
    unfold execInboundRecordDiscarded at e
    split at e
    · exact h.running e fun _ => recordTaken.takeRecord
    · cases e
  | frameReport carrier frameIndex flags snrA snrB rslA rslB =>
    change execFrameReport carrier frameIndex flags snrA snrB rslA rslB s = _ at e
    exact h.running e fun _ => recordTaken.takeFrameReport
  | slotIn carrier octets =>
    change execSlotIn carrier octets s = _ at e
    unfold execSlotIn at e
    split at e
    · exact h.running e fun _ => recordTaken.takeSlotIn
    · cases e
  | slotRequest carrier =>
    change execSlotRequest carrier s = _ at e
    exact h.running e fun _ => recordTaken.takeSlotRequest
  | frameGapTimeout =>
    refine h.running e fun h => h.modPort fun bounded => ?_
    split <;> exact bounded
  | badFrame octets => exact h.running e fun h => h.receiveOctets
  | requestFrame octets => exact h.running e fun h => h.receiveOctets
  | unknownKind =>
    change execUnknownKind s = _ at e
    refine h.running e fun h => ?_
    split
    · exact h
    · exact .ite (fun _ => h) fun _ => h.dequeue.reply
  | frameTransmit =>
    change execFrameTransmit s = _ at e
    exact h.running e fun h => .ite (fun _ => h.restartEffect) fun _ => h.startNext
  | setTimebase elapsed =>
    exact BoundsLaw.served (s := modTimebase (Timebase.advance elapsed) s) h e fun _ _ g => g.takeSetTimebase
  | identify => exact h.served e fun _ _ g => g
  | getStatus => exact h.served e fun _ _ g => g
  | getStats => exact h.served e fun _ _ g => g.takeGetStats
  | getCarrier => exact h.served e fun _ _ g => g.takeGetCarrier
  | setCarrier => exact h.served e fun _ _ g => g.takeSetCarrier
  | restartCarrier => exact h.served e fun _ _ g => g.takeRestartCarrier
  | enableProfiles => exact h.served e fun _ _ g => .ite (fun _ => g) fun _ => g
  | disableProfiles => exact h.served e fun _ _ g => .ite (fun _ => g) fun _ => g
  | writeProfiles => exact h.served e fun _ _ g => g.takeWriteProfiles
  | readProfiles => exact h.served e fun _ _ g => g.takeReadProfiles
  | applyTable => exact h.served e fun _ _ g => g.takeApplyTable
  | pushTable => exact h.served e fun _ _ g => g.takePushTable
  | abortPush => exact h.served e fun _ _ g => .ite (fun _ => g) fun _ => g
  | setRemote => exact h.served e fun _ _ g => g.takeSetRemote
  | readFades => exact h.served e fun _ _ g => g.takeReadFades
  | setNotices => exact h.served e fun _ _ g => .ite (fun _ => g) fun _ => g
  | saveSettings => exact h.served e fun _ _ g => .ite (fun _ => g) fun _ => g
  | saveWriteEnd readBack =>
    change execSaveWriteEnd readBack s = _ at e
    refine h.running e fun h => ?_
    split
    · exact h.endWrite
    · exact h
  | restart => exact h.served e fun _ _ g => g

/-- Every step keeps law 6: the moves of the Out Queue are those of the command, or of an idle step. -/
theorem step_queueLaw {s t : State} (h : QueueLaw s) (e : step s = .next t) : QueueLaw t := by
  cases waiting : s.pending with
  | nil =>
    rw [step_idle waiting] at e
    cases e
    exact (queueLaw_iff _).2 (Placement.moves (QueueFrom.tick .same) h)
  | cons i rest =>
    unfold step at e
    rw [waiting] at e
    exact exec_queueLaw i (s := { s with pending := rest }) h e

/-- Every step keeps law 7 and the bounds of the port's queues. -/
theorem step_boundsLaw {s t : State} (h : BoundsLaw s) (e : step s = .next t) : BoundsLaw t := by
  cases waiting : s.pending with
  | nil =>
    rw [step_idle waiting] at e
    cases e
    exact h.tick
  | cons i rest =>
    unfold step at e
    rw [waiting] at e
    exact exec_boundsLaw i (s := { s with pending := rest }) h e

/-- Settles O5: law 6 by the moves of the Out Queue, the bounds by the operations that fill a queue, and ten messages at
most since law 6 gives each of the ten places one. -/
theorem stepKeepsQueueLaws : Obligations.StepKeepsQueueLaws := by
  intro s t queue bounds e
  have kept : QueueLaw t := step_queueLaw queue e
  exact ⟨kept, step_boundsLaw bounds e, ((queueLaw_iff t).1 kept).length_le⟩

end Sys2Proof.Machine
end

section
/-! SUPPORT. The octets of a LAC slot (chapter 12) and what is read back from them: the nibbles, the header, and the
message kinds one by one. -/

namespace Sys2Proof.Machine

/-! ### Nibbles and two-octet words -/

theorem nibbles_eq {high low : Nat} (h : high < 16) (l : low < 16) : nibbles high low = byteOf (16 * high + low) := by
  rw [nibbles, Nat.mod_eq_of_lt h, Nat.mod_eq_of_lt l]

/-- Two four-bit values are read back from their octet. -/
theorem nibbles_read {high low : Nat} (h : high < 16) (l : low < 16) :
    (nibbles high low).toNat / 16 = high ∧ (nibbles high low).toNat % 16 = low := by
  rw [nibbles_eq h l, byteOf_toNat (by omega)]
  omega

/-- A word is read back from its two octets. -/
theorem bytes16_read (w : Word16) : BitVec.ofNat 16 (256 * (w.extractLsb' 8 8).toNat + (w.extractLsb' 0 8).toNat) = w :=
  BitVec.eq_of_toNat_eq (by
    simp [Nat.shiftRight_eq_div_pow]
    omega)

/-- A boolean octet is read back by whether it is 0. -/
theorem boolByte_read (b : Bool) : ((boolByte b).toNat != 0) = b := by cases b <;> decide

/-! ### The octets of a slot -/

/-- A message whose fields fit the octets and nibbles that carry them. -/
def LacMsg.fits : LacMsg → Prop
  | .confirm _ id profile => id < 16 ∧ profile < 256
  | .refuse _ id reason => id < 16 ∧ reason < 256
  | .cancel _ id _ => id < 16
  | .tableAbort t => t < 256
  | .order _ id profile _ => id < 16 ∧ profile < 256
  | .tableEntry t i e => t < 256 ∧ i < 16 ∧ entryInRange e = true
  | .tableAck t n => t < 256 ∧ n < 256
  | .tableEnd t n _ => t < 256 ∧ n < 256
  | .tableResult t o => t < 256 ∧ o < 256

/-- The ranges of an entry's fields are within the slot's. -/
theorem entryInRange_bounds {e : Entry} (h : entryInRange e = true) :
    e.modulation ≤ 10 ∧ e.code ≤ 7 ∧ e.thr ≤ 1020 ∧ e.hyst ≤ 255 := by
  simpa [entryInRange, and_assoc] using h

theorem LacMsg.kindCode_lt (m : LacMsg) : m.kindCode < 16 := by cases m <;> simp [LacMsg.kindCode]

theorem LacMsg.fits.kindField_lt {m : LacMsg} (h : m.fits) : m.kindField < 16 := by
  cases m with
  | confirm _ _ _ => exact h.1
  | refuse _ _ _ => exact h.1
  | cancel _ _ _ => exact h
  | order _ _ _ _ => exact h.1
  | tableEntry _ _ e => exact Nat.lt_of_le_of_lt (entryInRange_bounds h.2.2).2.1 (by decide)
  | tableAbort _ => exact Nat.zero_lt_succ 15
  | tableAck _ _ => exact Nat.zero_lt_succ 15
  | tableEnd _ _ _ => exact Nat.zero_lt_succ 15
  | tableResult _ _ => exact Nat.zero_lt_succ 15

theorem slotMessage_length (m : Option LacMsg) : (slotMessage m).length = 6 := by
  cases m <;> simp [slotMessage]

theorem slotCovered_length (h : SlotHeader) (m : Option LacMsg) : (slotCovered h m).length = 15 := by
  simp [slotCovered, bytes16, slotMessage_length]

/-- The octets before the check. -/
theorem take_slotOctets (h : SlotHeader) (m : Option LacMsg) : (slotOctets h m).take 15 = slotCovered h m := by
  rw [slotOctets, ← slotCovered_length h m, List.take_left]

/-- The check octet (R116). -/
theorem slotOctets_check (h : SlotHeader) (m : Option LacMsg) :
    (slotOctets h m).getD 15 0 = crc8 (slotCovered h m) := by
  have length := slotCovered_length h m
  simp [slotOctets, length]

/-- The first octet of a message, and the five after it. -/
theorem slotMessage_some {m : LacMsg} (fits : m.fits) :
    slotMessage (some m) = byteOf (16 * m.kindCode + m.kindField) :: (m.octets ++ List.replicate 5 0).take 5 := by
  rw [slotMessage, nibbles_eq m.kindCode_lt fits.kindField_lt]
  rfl

/-! ### The message read back -/

section

variable (h : SlotHeader) {m : LacMsg}

/-- The kind octet is read back as the kind and its field. -/
theorem kind_slotOctets (fits : m.fits) :
    highNibble (slotOctets h (some m)) 9 = m.kindCode ∧ lowNibble (slotOctets h (some m)) 9 = m.kindField :=
  nibbles_read m.kindCode_lt fits.kindField_lt

/-- A TABLE_ENTRY carries its index and its entry's fields (R191). -/
theorem entry_slotOctets {t i : Nat} {e : Entry} (fits : (LacMsg.tableEntry t i e).fits) :
    natAt (slotOctets h (some (.tableEntry t i e))) 10 = t ∧ highNibble (slotOctets h (some (.tableEntry t i e))) 11 = i ∧
      (⟨lowNibble (slotOctets h (some (.tableEntry t i e))) 11, e.code,
        nat16At (slotOctets h (some (.tableEntry t i e))) 12, natAt (slotOctets h (some (.tableEntry t i e))) 14⟩ : Entry) =
        e := by
  obtain ⟨transfer, index, range⟩ := fits
  obtain ⟨modulation, -, thr, hyst⟩ := entryInRange_bounds range
  obtain ⟨high, low⟩ := nibbles_read index (Nat.lt_of_le_of_lt modulation (by decide))
  have word : nat16At (slotOctets h (some (.tableEntry t i e))) 12 = e.thr := by
    simpa [nat16At, natAt, slotOctets, slotCovered, slotMessage, LacMsg.octets, bytes16, nat16_eq] using
      nat16_read (n := e.thr) (by omega)
  have last : natAt (slotOctets h (some (.tableEntry t i e))) 14 = e.hyst := byteOf_toNat (by omega)
  exact ⟨byteOf_toNat transfer, high, by rw [word, last]; exact congrArg (Entry.mk · _ _ _) low⟩

/-- A slot with a message in range is read back as that message, kind by kind (R191). -/
theorem slotPart_slotOctets (fits : m.fits) : slotPart (slotOctets h (some m)) = .message m := by
  obtain ⟨kind, field⟩ := kind_slotOctets h fits
  unfold slotPart
  simp only [kind, field]
  cases m with
  | confirm c id profile =>
    have named : carrierOf (natAt (slotOctets h (some (.confirm c id profile))) 10) = some c := carrierOf_carrierByte c
    have second : natAt (slotOctets h (some (.confirm c id profile))) 11 = profile := byteOf_toNat fits.2
    simp only [LacMsg.kindCode, LacMsg.kindField, targeted, named, second]
  | refuse c id reason =>
    have named : carrierOf (natAt (slotOctets h (some (.refuse c id reason))) 10) = some c := carrierOf_carrierByte c
    have second : natAt (slotOctets h (some (.refuse c id reason))) 11 = reason := byteOf_toNat fits.2
    simp only [LacMsg.kindCode, LacMsg.kindField, targeted, named, second]
  | cancel c id pair =>
    have named : carrierOf (natAt (slotOctets h (some (.cancel c id pair))) 10) = some c := carrierOf_carrierByte c
    have second : (natAt (slotOctets h (some (.cancel c id pair))) 11 != 0) = pair := boolByte_read pair
    simp only [LacMsg.kindCode, LacMsg.kindField, targeted, named, second]
  | order c id profile pair =>
    have named : carrierOf (natAt (slotOctets h (some (.order c id profile pair))) 10) = some c := carrierOf_carrierByte c
    have second : natAt (slotOctets h (some (.order c id profile pair))) 11 = profile := byteOf_toNat fits.2
    have third : (natAt (slotOctets h (some (.order c id profile pair))) 12 != 0) = pair := boolByte_read pair
    simp only [LacMsg.kindCode, LacMsg.kindField, targeted, named, second, third]
  | tableAbort t =>
    have first : natAt (slotOctets h (some (.tableAbort t))) 10 = t := byteOf_toNat fits
    simp only [LacMsg.kindCode, first]
  | tableEntry t i e =>
    obtain ⟨transfer, index, entry⟩ := entry_slotOctets h fits
    simp only [LacMsg.kindCode, LacMsg.kindField, transfer, index, entry, fits.2.2, if_true]
  | tableAck t n =>
    have first : natAt (slotOctets h (some (.tableAck t n))) 10 = t := byteOf_toNat fits.1
    have second : natAt (slotOctets h (some (.tableAck t n))) 11 = n := byteOf_toNat fits.2
    simp only [LacMsg.kindCode, first, second]
  | tableEnd t n check =>
    have first : natAt (slotOctets h (some (.tableEnd t n check))) 10 = t := byteOf_toNat fits.1
    have second : natAt (slotOctets h (some (.tableEnd t n check))) 11 = n := byteOf_toNat fits.2
    have word : word16At (slotOctets h (some (.tableEnd t n check))) 12 = check := bytes16_read check
    simp only [LacMsg.kindCode, first, second, word]
  | tableResult t outcome =>
    have first : natAt (slotOctets h (some (.tableResult t outcome))) 10 = t := byteOf_toNat fits.1
    have second : natAt (slotOctets h (some (.tableResult t outcome))) 11 = outcome := byteOf_toNat fits.2
    simp only [LacMsg.kindCode, first, second]

theorem slotPart_slotOctets_none : slotPart (slotOctets h none) = .empty := by
  have kind : highNibble (slotOctets h none) 9 = 0 := by
    simp [highNibble, natAt, slotOctets, slotCovered, slotMessage, bytes16]
  unfold slotPart
  simp only [kind]

end

/-! ### The header read back -/

/-- The header values that the octets can carry, of a carrier that sends slots (R108). -/
structure SlotHeader.Fits (h : SlotHeader) : Prop where
  link : h.link = .seeking ∨ h.link = .active ∨ h.link = .quiet
  advice : h.advice < 16
  cap : h.cap < 16
  atten : h.atten < 256
  headroom : h.headroom < 256
  power : -1 ≤ h.power ∧ h.power ≤ 3

theorem LinkState.toByte_lt (l : LinkState) : l.toByte.toNat < 16 := by cases l <;> decide

theorem boolByte_lt (b : Bool) : (boolByte b).toNat < 16 := by cases b <;> decide

/-- A slot's header in range is read back with its part (R116, R191). -/
theorem decodeSlot_slotOctets {h : SlotHeader} (fits : h.Fits) (m : Option LacMsg) :
    decodeSlot h.carrier (slotOctets h m) = some
      { link := h.link, pair := h.pair, seq := h.seq, advice := h.advice, power := h.power, cap := h.cap
        atten := h.atten, headroom := h.headroom, digest := h.digest, part := slotPart (slotOctets h m) } := by
  obtain ⟨version, link⟩ := nibbles_read (high := 1) (by decide) h.link.toByte_lt
  obtain ⟨carrier, pair⟩ := nibbles_read (Nat.lt_trans h.carrier.isLt (by decide)) (boolByte_lt h.pair)
  obtain ⟨advice, cap⟩ := nibbles_read fits.advice fits.cap
  have named : slotLink (lowNibble (slotOctets h m) 0) = some h.link := by
    refine (congrArg slotLink link).trans ?_
    rcases fits.link with e | e | e <;> rw [e] <;> rfl
  have power : intAt (slotOctets h m) 4 = h.power :=
    byteOfInt_toInt (by have := fits.power; omega) (by have := fits.power; omega)
  have atten : natAt (slotOctets h m) 5 = h.atten := byteOf_toNat fits.atten
  have headroom : natAt (slotOctets h m) 6 = h.headroom := byteOf_toNat fits.headroom
  have digest : word16At (slotOctets h m) 7 = h.digest := bytes16_read h.digest
  have paired : (lowNibble (slotOctets h m) 1 != 0) = h.pair :=
    (congrArg (· != 0) pair).trans (boolByte_read h.pair)
  have valid : crc8 ((slotOctets h m).take 15) = (slotOctets h m).getD 15 0 ∧ highNibble (slotOctets h m) 0 = 1 ∧
      highNibble (slotOctets h m) 1 = h.carrier.val ∧ -1 ≤ intAt (slotOctets h m) 4 ∧ intAt (slotOctets h m) 4 ≤ 3 :=
    ⟨by rw [take_slotOctets, slotOctets_check], version, carrier, by rw [power]; exact fits.power⟩
  have advised : highNibble (slotOctets h m) 3 = h.advice := advice
  have capped : lowNibble (slotOctets h m) 3 = h.cap := cap
  have seq : (slotOctets h m).getD 2 0 = h.seq := rfl
  unfold decodeSlot
  simp only [named]
  rw [if_pos valid]
  simp only [paired, power, atten, headroom, digest, advised, capped, seq]

/-- The first fifteen octets of a slot in range (chapter 12, The LAC slot). -/
theorem slotCovered_eq {h : SlotHeader} (fits : h.Fits) (m : Option LacMsg) :
    slotCovered h m =
      [byteOf (16 + h.link.toByte.toNat), byteOf (16 * h.carrier.val + if h.pair then 1 else 0), h.seq,
        byteOf (16 * h.advice + h.cap), byteOfInt h.power, byteOf h.atten, byteOf h.headroom,
        h.digest.extractLsb' 8 8, h.digest.extractLsb' 0 8] ++ slotMessage m := by
  have pair : (boolByte h.pair).toNat = if h.pair then 1 else 0 := by cases h.pair <;> rfl
  rw [slotCovered, nibbles_eq (by decide) h.link.toByte_lt,
    nibbles_eq (Nat.lt_trans h.carrier.isLt (by decide)) (boolByte_lt h.pair), nibbles_eq fits.advice fits.cap, pair]
  rfl

/-- Settles O14: the octets by their layout, the header by its nibbles, and the message kind by kind. -/
theorem slotDecodesToItsContents : Obligations.SlotDecodesToItsContents := by
  intro h m link advice cap atten headroom low high range
  have fits : h.Fits := ⟨link, advice, cap, atten, headroom, low, high⟩
  have message (x : LacMsg) (hx : x ∈ m) : x.fits := by
    have := range x hx
    cases x <;> exact this
  refine ⟨?_, ?_, ?_, ?_⟩
  · simp [slotOctets, slotCovered_length]
  · rw [take_slotOctets]
    rfl
  · rw [take_slotOctets, slotCovered_eq fits]
    cases m with
    | none => rfl
    | some x =>
      rw [slotMessage_some (message x rfl)]
      cases x with
      | tableEntry t i e =>
        obtain ⟨-, index, entry⟩ := message _ rfl
        have modulation := (entryInRange_bounds entry).1
        simp only [LacMsg.octets, nat16_eq, nibbles_eq index (show e.modulation < 16 by omega)]
        rfl
      | _ => rfl
  · rw [decodeSlot_slotOctets fits]
    cases m with
    | none => rw [slotPart_slotOctets_none]
    | some x => rw [slotPart_slotOctets h (message x rfl)]

end Sys2Proof.Machine
end

section
/-! SUPPORT. GET_STATUS (R182), slots from which nothing is taken (R117, R118), and a SEEKING peer's slot that halts its
carrier (R136). -/

namespace Sys2Proof.Machine

/-! ### GET_STATUS -/

theorem TimebaseState.toByte_eq (t : TimebaseState) : t.toByte = if t = .external then 0 else 1 := by cases t <;> rfl

/-- The STORE state is sent as 0 while the store is valid (R182, R190). -/
theorem boolByte_not (valid : Bool) : boolByte (!valid) = if valid then 0 else 1 := by cases valid <;> rfl

/-- Settles O17: the reply part by part in the order of R182, and the counts cleared once it is formed. -/
theorem getStatusReportsAndClears : Obligations.GetStatusReportsAndClears := by
  intro s f rest waiting kind body
  have served := serve_waiting waiting kindGetStatus (fun f s => clearStatus (reply f (statusOk :: s.statusOctets) s)) kind
    (by rw [body]; rfl)
  refine ⟨_, served, ?_⟩
  simp only [State.statusOctets, State.queueOctets, State.alarmOctets, State.kindOctets, State.transferOctets,
    TimebaseState.toByte_eq, boolByte_not, List.append_assoc]
  rfl

/-! ### Slots from which nothing is taken -/

/-- A slot that fails a check of R116 has no contents. -/
theorem decodeSlot_invalid {c : Carrier} {o : List Byte}
    (fails : crc8 (o.take 15) ≠ o.getD 15 0 ∨ (o.getD 0 0).toNat / 16 ≠ 1 ∨ (o.getD 1 0).toNat / 16 ≠ c.val ∨
      (o.getD 0 0).toNat % 16 < 2 ∨ 4 < (o.getD 0 0).toNat % 16 ∨ (o.getD 4 0).toInt < -1 ∨ 3 < (o.getD 4 0).toInt) :
    decodeSlot c o = none := by
  by_contra valid
  obtain ⟨x, decoded⟩ := Option.ne_none_iff_exists'.1 valid
  unfold decodeSlot slotLink at decoded
  split at decoded
  · cases decoded
  · rename_i link known
    split at decoded
    · rename_i checks
      obtain ⟨crc, version, carrier, low, high⟩ := checks
      have state : 2 ≤ lowNibble o 0 ∧ lowNibble o 0 ≤ 4 := by
        split_ifs at known <;> omega
      simp only [lowNibble, highNibble, natAt, intAt] at *
      rcases fails with h | h | h | h | h | h | h
      · exact h crc
      · exact h version
      · exact h carrier
      all_goals omega
    · cases decoded

/-- An invalid slot is counted as such (R117). -/
theorem takeSlot_invalid {c : Carrier} {o : List Byte} {s : State} (h : decodeSlot c o = none ∨ s.link c = .disabled) :
    takeSlot c o s = modLacStats c (fun x => { x with invalid := count32 x.invalid }) s := by
  unfold takeSlot
  cases decoded : decodeSlot c o with
  | none => rfl
  | some x =>
    have off : s.link c = .disabled := h.resolve_left (by simp [decoded])
    simp only [off]

/-- A valid slot on a HALTED carrier is counted as such (R118). -/
theorem takeSlot_halted {c : Carrier} {o : List Byte} {s : State} (valid : (decodeSlot c o).isSome = true)
    (halted : s.link c = .halted) :
    takeSlot c o s = modLacStats c (fun x => { x with halted := count32 x.halted }) s := by
  obtain ⟨x, decoded⟩ := Option.isSome_iff_exists.1 valid
  unfold takeSlot
  simp only [decoded, halted]

/-- Settles O39: the slot's one count, by the checks of R116 and the link state. -/
theorem invalidAndHaltedSlots : Obligations.InvalidAndHaltedSlots := by
  refine ⟨fun s c o high length invalid => ?_, fun s c o high length valid halted => ?_⟩
  · have none : decodeSlot c o = none ∨ (recordTaken s).link c = .disabled := by
      simp only [← or_assoc] at invalid
      refine invalid.imp_left fun fails => decodeSlot_invalid ?_
      simpa only [or_assoc] using fails
    rw [exec_slotIn high c length, takeSlot_invalid none]
    rfl
  · rw [exec_slotIn high c length, takeSlot_halted valid (s := recordTaken s) halted]
    rfl

/-! ### A SEEKING peer -/

/-- R136 keeps a carrier in service exactly when every carrier concerned is at base with nothing open and nothing
armed. -/
theorem staysInService_eq_false {s : State} {c d : Carrier} (concerned : d = c ∨ (s.paired c = true ∧ d = partner c))
    (busy : (s.car d).tac.current ≠ 0 ∨ (s.car d).rac.current ≠ 0 ∨ (s.car d).tac.order ≠ none ∨
      (s.car d).rac.armed ≠ none) : s.staysInService c = false := by
  have off : (s.car d).atBase = false := by
    simp only [CarrierState.atBase, Bool.and_eq_false_iff, beq_eq_false_iff_ne, Option.isNone_eq_false_iff,
      Option.isSome_iff_ne_none]
    tauto
  unfold State.staysInService
  rcases concerned with rfl | ⟨paired, rfl⟩
  · simp [off]
  · simp [off, paired]

/-- The receipt of a SEEKING peer's slot that R136 does not keep in service is a HALTED entry (R136). -/
theorem takeReceipt_halts {c : Carrier} {s : State} (up : s.link c = .active ∨ s.link c = .quiet)
    (leaves : s.staysInService c = false) :
    takeReceipt c .seeking s = haltedEntry c .seekingPeer (modSup c (fun x => { x with miss := 0 }) s) := by
  have link : (modSup c (fun x => { x with miss := 0 }) s).link c = s.link c := by simp [State.link]
  have base : (modSup c (fun x => { x with miss := 0 }) s).staysInService c = false := by
    rw [← leaves]
    simp only [State.staysInService, CarrierState.atBase, modSup_car_tac, modSup_car_rac]
    rfl
  unfold takeReceipt
  simp only [link]
  rcases up with up | up <;> simp only [up, base, and_self, if_true]

/-- A carrier after stages 1 and 2 of a slot (R119, R121, R125, R133). -/
def CarrierState.recordedAndHeard (x : Slot) (paired : Bool) (k : CarrierState) : CarrierState :=
  { k with
    lac := { k.lac with peerState := some x.link, peerSeq := some x.seq, peerPair := some x.pair }
    sup := { k.sup with miss := 0 }
    stats := { k.stats with lac := { k.stats.lac with
      valid := count32 k.stats.lac.valid
      breaks := if k.lac.peerSeq = none ∨ k.lac.peerSeq.map (· + 1) = some x.seq then k.stats.lac.breaks
        else count32 k.stats.lac.breaks
      pairDisagreements := if x.pair = paired then k.stats.lac.pairDisagreements
        else count32 k.stats.lac.pairDisagreements } } }

/-- Stages 1 and 2 change the carrier of the slot alone. -/
theorem missCleared_takePeerRecords (c : Carrier) (x : Slot) (s : State) :
    modSup c (fun y => { y with miss := 0 }) (takePeerRecords c x s) =
      s.setCar c ((s.car c).recordedAndHeard x (s.paired c)) := by
  have disagrees (a b : Nat) : (if x.pair != s.paired c then a else b) = if x.pair = s.paired c then b else a := by
    by_cases same : x.pair = s.paired c <;> simp [same]
  rw [takePeerRecords_eq, modSup, modCar, State.car_setCar_same, State.setCar, State.setCar_carriers, Four.set_set]
  simp only [CarrierState.recorded, ite_sequenceBreaks, disagrees]
  rfl

/-- A carrier that has made HALTED entry is HALTED. -/
theorem Halted.link {c : Carrier} {x : SupStats} {s t : State} (h : Halted c x s t) : t.link c = .halted := by
  obtain ⟨⟨-, -, -, -, sup, -⟩, -⟩ := h
  rw [State.link, sup]

/-- Settles O41: stages 1 and 2 first, then the entry, and the count of the slot it discards. -/
theorem seekingPeerHaltsTheCarrier : Obligations.SeekingPeerHaltsTheCarrier := by
  rintro s c o x k high length decoded seeking rfl up ⟨d, concerned, busy⟩
  have heard := missCleared_takePeerRecords c x (recordTaken s)
  have carrier : (takePeerRecords c x (recordTaken s)).link c = s.link c := by
    rw [takePeerRecords_eq, State.link, State.car_setCar_same]
    rfl
  have received : slotReceived c x (recordTaken s) = haltedEntry c .seekingPeer
      ((recordTaken s).setCar c ((s.car c).recordedAndHeard x (s.paired c))) := by
    rw [slotReceived, seeking, takeReceipt_halts (by rw [carrier]; exact up)
      (by rw [staysInService_recorded]; exact staysInService_eq_false (s := recordTaken s) concerned busy), heard]
    rfl
  obtain ⟨halted, port⟩ := haltedEntry_spec c .seekingPeer
    ((recordTaken s).setCar c ((s.car c).recordedAndHeard x (s.paired c)))
  rw [← received] at halted port
  rw [State.car_setCar_same] at halted
  have stages : takeSlotStages c x (recordTaken s) = modLacStats c
      (fun y => { y with haltedByReceipt := count32 y.haltedByReceipt }) (slotReceived c x (recordTaken s)) :=
    if_pos halted.link
  refine ⟨_, _, _, ?_, ?_, halted, port, rfl⟩
  · rw [exec_slotIn high c length, takeSlot_stages (s := recordTaken s) decoded (.inr up), stages]
    rfl
  · rw [CarrierState.recordedAndHeard, seeking]
    rfl

end Sys2Proof.Machine
end
